-- ==== Sys2Proof/Word.lean ====
section
/-! DEFINITION. The words of the HR-612: time base counts, characters and half-cycle numbers. -/

namespace Sys2Proof

/-- A count of the own time base, 1024 per second, 32 bits, wrapping (R53). -/
abbrev Count := BitVec 32

/-- A character of the line, as its eight data bits (R21). -/
abbrev Byte := BitVec 8

/-- A half-cycle number; all its sums and differences are taken modulo 256 (R52). -/
abbrev HalfNo := BitVec 8

/-- The level of the line in one slice, a sixteenth of a bit time; `true` is PASSIVE (R20). -/
abbrev LineLevel := Bool

end Sys2Proof
end

