-- ==== Sys2Proof/Syntax.lean ====
section
/-! DEFINITION. The commands of the HR-612: one constructor per row of spec/opcode_table.json. -/

namespace Sys2Proof

/-- The facade the ventilator is fitted in (FACADE strap, 00 section 5). -/
inductive Facade where
  | front | rear
  deriving DecidableEq, Repr

/-- The kind of room served (ROOM strap, 00 section 5). -/
inductive Room where
  | dry | wet | kitchen | hall
  deriving DecidableEq, Repr

/-- The eight strap pins, read once in START (00 section 5). -/
structure Straps where
  node   : BitVec 4
  lead   : Bool
  facade : Facade
  room   : Room
  deriving DecidableEq, Repr

/-- The filter state (R166). -/
inductive FilterState where
  | clean | loaded | change | blocked
  deriving DecidableEq, Repr

/-- The image held in the nonvolatile service store, check byte included (R177). -/
structure StoreImage where
  params      : Vector (BitVec 16) 21
  refIn       : BitVec 16
  refOut      : BitVec 16
  filterState : FilterState
  hours       : BitVec 16
  thawTotal   : BitVec 16
  failedTotal : BitVec 16
  check       : Byte
  deriving DecidableEq, Repr

/-- Why a receiver abandons a frame (R22). -/
inductive AbandonCause where
  | sizeError | stopBitActive | gap
  deriving DecidableEq, Repr

/-- The commands. An operand `t` is the own time base count at which the event takes place; a command
without one takes place at the instant that the state schedules for it, or at the step of the fan's step
clock just made (log 1). -/
inductive Instr where
  /-- `flapClosed`: whether the flap's closed contact is made (R101). -/
  | powerOnReset (t : Count) (flapClosed : Bool)
  | startHoldEnd (straps : Straps)
  | setupWindowEnd
  | crystalLoss (t : Count)
  | crystalReady (t : Count)
  | lineIdle (t : Count)
  | sendAttempt (t : Count)
  | lostArbitration (t : Count)
  | readbackError (t : Count)
  | cleanSend (t : Count)
  | lineStuckCharge (t : Count)
  | cutOffTimerExpiry
  | frameAbandoned (t : Count) (cause : AbandonCause)
  /-- `levels`: the level of the line slice by slice, from the edge with which the frame begins; beyond its
  end the line is PASSIVE (log 10). -/
  | frameReceived (t : Count) (levels : List LineLevel)
  | phaseNotice (t : Count)
  | leaveNotice (t : Count)
  | changeNotice (t : Count)
  | statusNotice (t : Count)
  | claimNotice (t : Count)
  | houseLevel (t : Count)
  | houseRest (t : Count)
  | houseResume (t : Count)
  | houseWake (t : Count)
  | read (t : Count)
  | set (t : Count)
  | setupEnter (t : Count)
  | setupLeave (t : Count)
  | clear (t : Count)
  | filterReset (t : Count)
  | inactivityTimerExpiry
  | setupFlushEnd
  | reversalExpiry
  | enterRun
  | listenEnd
  | gatherWindowClose
  | claimWindowClose
  | statusTimerExpiry
  | passGrant (t : Count)
  | evaluationGrant (t : Count)
  | passComplete (t : Count)
  | fanStep
  | coastEnd
  | rampUpEnd
  | flowShort
  | stall
  /-- `micros`: the time since the pulse before, in microseconds. -/
  | tachometerPulse (t : Count) (micros : Nat)
  | speedTimeout
  | flapEndReached (t : Count)
  | flapFault
  | trialStart (t : Count)
  | midHalfPoint
  | endOfHalfPoint
  /-- `result`: what the converter delivers, in 0.1 °C or %RH. -/
  | conversionComplete (t : Count) (result : Int)
  | climateEvaluationComplete (t : Count)
  | restSamplingTimerExpiry
  | filterEvaluationComplete (t : Count)
  | filterHours (t : Count)
  | buttonPress (t : Count)
  | buttonRelease (t : Count)
  | buttonHold10s
  | buttonBoostExpiry
  | humidityRunOnExpiry
  | holdExpiry
  | restTimerExpiry
  | restFlushEnd
  /-- `readBack`: the image read back from the store at the end of the write. -/
  | storeWriteComplete (t : Count) (readBack : StoreImage)
  | storeRunTimerExpiry (t : Count)
  | indicatorCycle (t : Count)
  | frameStart (t : Count)
  deriving DecidableEq, Repr

end Sys2Proof
end

