-- ==== Sys2Proof/Decode.lean ====
section
/-! DEFINITION. The command that a word spells. -/

namespace Sys2Proof

/-- The opcode table gives no bits to any of its rows, so no word spells a command (log 8). -/
def decodeTableWord (_nbits _w : Nat) : Option Instr := none

end Sys2Proof
end

