-- ==== Sys2Proof/Machine/State.lean ====
section
/-! DEFINITION. The state of the HR-612, block by block, as plain data; its value right after reset. -/

namespace Sys2Proof.Machine

/-! ### Values -/

/-- The mode of the station (R176, R180). -/
inductive Mode where
  | start | setup | join | run | rest
  deriving DecidableEq, Repr

/-- IN, OUT or HALT (R1). -/
inductive Dir where
  | inward | outward | halt
  deriving DecidableEq, Repr

/-- A direction the fan blows in: IN or OUT (R76, R95). -/
inductive Side where
  | inward | outward
  deriving DecidableEq, Repr

/-- The demand level (R1, R148). -/
inductive Level where
  | setback | base | raised | boost
  deriving DecidableEq, Repr

/-- The frost stage (R127); `noFrost` is the stage NONE. -/
inductive FrostStage where
  | noFrost | watch | trim | claiming | thaw | lockout
  deriving DecidableEq, Repr

/-- The line state (R39). -/
inductive LineState where
  | openLine | muted | cutOff
  deriving DecidableEq, Repr

/-- The timing quality (R73). -/
inductive Quality where
  | crystal | coarse
  deriving DecidableEq, Repr

/-- The classes of notices (02 section 2.3); class 7 is sent by no station. -/
inductive NoticeClass where
  | change | claim | phase | house | status | request | reply
  deriving DecidableEq, Repr

/-! ### Mode control and the own record -/

/-- Mode control: the mode and its timers (R176 to R180). -/
structure ModeControl where
  mode         : Mode
  startHold    : Option Count
  setupWindow  : Option Count
  strapInvalid : Bool
  inactivity   : Option Count
  setupFlush   : Option Count
  /-- A SETUP LEAVE was applied during the flush: JOIN is entered at its end (R180). -/
  leaveAsked   : Bool
  deriving DecidableEq, Repr

/-- The own record (R1, R7). Line state, frost stage, filter state, timing quality, leading condition,
load and sensor-fault bit have their one home with their owners. -/
structure OwnRecord where
  node      : Nat
  lead      : Bool
  facade    : Facade
  room      : Room
  k         : Option HalfNo
  /-- The own reversal instant. -/
  instant   : Option Count
  direction : Dir
  want      : Nat
  level     : Level
  ceil      : Nat
  flow      : Nat
  leaving   : Bool
  /-- Own climate part, `none` when invalid (R7). -/
  outdoor   : Option Int
  roomTemp  : Option Int
  rh        : Nat
  ratio     : Nat
  deriving DecidableEq, Repr

/-! ### The line controller -/

/-- Where the line controller stands towards the line: not idle and not receiving, idle, receiving a
frame, or sending one (R22, R26). -/
inductive LinePhase where
  | busy | idle | receiving | sending
  deriving DecidableEq, Repr

/-- An entry of the transmit queue (R30). The payload of a PHASE, CHANGE or STATUS is filled at each
attempt (R8). `leave` marks a PHASE queued by mode control as a LEAVE. -/
structure TxEntry where
  cls       : NoticeClass
  urgent    : Bool
  node      : Nat
  leave     : Bool
  attempts  : Nat
  onLine    : Bool
  withdrawn : Bool
  payload   : List Byte
  deriving DecidableEq, Repr

/-- A good frame in the receive queue with its arrival stamp (R36). -/
structure RxFrame where
  rank    : Byte
  payload : List Byte
  stamp   : Count
  deriving DecidableEq, Repr

/-- The line controller (R20, R30, R36 to R41). -/
structure LineControl where
  sampling    : Bool
  phase       : LinePhase
  txq         : List TxEntry
  replacement : Option TxEntry
  rxq         : List RxFrame
  faultCount  : Nat
  rxFaults    : Nat
  overruns    : Nat
  drops       : Nat
  clashes     : Nat
  clashAge    : Nat
  /-- The CUT OFF timer (R41). -/
  cutOff      : Option Count
  deriving DecidableEq, Repr

/-! ### The peer table -/

/-- The climate part of a peer record (R9, R14). -/
structure ClimatePart where
  outdoor : Option Int
  facade  : Facade
  age     : Nat
  deriving DecidableEq, Repr

/-- A peer record (R9). -/
structure PeerRecord where
  node      : Nat
  kp        : Option HalfNo
  direction : Dir
  want      : Nat
  ceil      : Nat
  stage     : FrostStage
  agree     : Bool
  age       : Nat
  climate   : Option ClimatePart
  deriving DecidableEq, Repr

/-- The peer table, in ascending node order, with the work that a hold defers (R9, R15, R92). -/
structure PeerTable where
  records      : List PeerRecord
  owedAgeings  : Nat
  owedEmptying : Bool
  deriving DecidableEq, Repr

/-! ### The reversal timer and the timebase supervisor -/

/-- An entry of the half tally (R63). The order of application is the order of the list. -/
structure TallyEntry where
  node     : Nat
  kp       : HalfNo
  agreeing : Bool
  offset   : Option Int
  tr       : Count
  deriving DecidableEq, Repr

/-- The last PHASE applied while listening in JOIN (R71). -/
structure Heard where
  kp : HalfNo
  tr : Count
  deriving DecidableEq, Repr

/-- The reversal timer (R54, R69). The half-cycle number and the own reversal instant stand in the own
record. -/
structure ReversalTimer where
  next          : Option Count
  pendingNumber : Option HalfNo
  gather        : Option Count
  claimWindow   : Option Count
  statusTimer   : Option Count
  tally         : List TallyEntry
  listening     : Option Count
  lastHeard     : Option Heard
  deriving DecidableEq, Repr

/-- The own time base with its quality, and the two times that are measured only while a condition
holds (R53, R73, R74, R173, R183). -/
structure TimeBase where
  now          : Count
  quality      : Quality
  crystalReady : Bool
  /-- Running time of the fan not yet counted as an hour, in counts (R166, R173). -/
  fanTime      : Nat
  /-- Time in RUN since the last store write, in counts (R183). -/
  runTime      : Nat
  deriving DecidableEq, Repr

/-! ### The calculation unit and the balance pass -/

/-- Where the T_outdoor of an evaluation comes from (R120). -/
inductive OutdoorSource where
  | own | borrowed | missing
  deriving DecidableEq, Repr

/-- The inputs of a climate evaluation, fixed at its request (R119 to R121). -/
structure EvalInputs where
  stage        : FrostStage
  tOutdoor     : Option Int
  source       : OutdoorSource
  tSup         : Option Int
  tRoom        : Option Int
  tOe          : Option Int
  rh           : Option Int
  prevRh       : Option Int
  outerLatched : Bool
  /-- The previous set's direction was IN (R122). -/
  afterIn      : Bool
  deriving DecidableEq, Repr

/-- The pair of ratios of a filter evaluation, fixed at its request (R168). -/
structure FilterPair where
  ratioIn  : Nat
  ratioOut : Nat
  deriving DecidableEq, Repr

/-- The engine: FREE, or BUSY with a job granted at `since` for `ms` milliseconds; the result of a job
marked `discard` is not applied (R87, R90, R91). -/
inductive Engine where
  | free
  | pass (since : Count) (ms : Nat) (discard : Bool)
  | climate (inputs : EvalInputs) (since : Count) (ms : Nat) (discard : Bool)
  | filter (pair : FilterPair) (since : Count) (ms : Nat) (discard : Bool)
  deriving DecidableEq, Repr

/-- The calculation unit and its arbiter (R90). -/
structure CalcUnit where
  engine      : Engine
  waitPass    : Bool
  waitClimate : Option EvalInputs
  waitFilter  : Option FilterPair
  deriving DecidableEq, Repr

/-- The pass state (R76). -/
inductive PassState where
  | idle | waiting | running | runningOneMore
  deriving DecidableEq, Repr

/-- A participant of a balance pass (R76). -/
structure Participant where
  node  : Nat
  side  : Side
  want  : Nat
  ceil  : Nat
  stage : FrostStage
  deriving DecidableEq, Repr

/-- The pass record (R76). -/
structure PassRecord where
  nodes : List Nat
  n     : Nat
  thaws : Nat
  deriving DecidableEq, Repr

/-- The balance pass (R76). `current`: the record was made in the current half-cycle, so the first pass
of the half-cycle has completed (R84, R85). -/
structure BalancePass where
  state    : PassState
  snapshot : List Participant
  record   : PassRecord
  current  : Bool
  deriving DecidableEq, Repr

/-! ### The fan drive -/

/-- The fan states (R95, R96). -/
inductive FanState where
  | stopped | flapOpening | rampUp | running | rampDown | coast | flapClosing
  deriving DecidableEq, Repr

/-- The cause of a FAN STALL latch (R95). -/
inductive StallCause where
  | spin | flap
  deriving DecidableEq, Repr

/-- The FAN STALL trial (R107). -/
inductive Trial where
  | idle | pending | running
  deriving DecidableEq, Repr

/-- The flap command (R95). -/
inductive Flap where
  | openFlap | closed
  deriving DecidableEq, Repr

/-- What the latest step found about the end of COAST or RAMP UP (R98, R99). -/
inductive Finding where
  | nothing | coastOver | inBand | timedOut | spinUpFailed
  deriving DecidableEq, Repr

/-- A step entry of the sample window (R112). -/
structure StepEntry where
  duty  : Nat
  speed : Nat
  state : FanState
  drive : Side
  deriving DecidableEq, Repr

/-- The fan drive (R95, R96, R101). -/
structure FanDrive where
  state        : FanState
  wanted       : Dir
  /-- The level of the direction output. -/
  drive        : Side
  /-- The reversal target. -/
  target       : Option Dir
  duty         : Nat
  speed        : Nat
  flap         : Flap
  restart      : Bool
  /-- The latest COAST was entered with the restart mark set, and lasts its twelve steps (R98; log 46). -/
  fullCoast    : Bool
  stallHistory : Option Count
  latch        : Option StallCause
  trial        : Trial
  cap          : Option Nat
  shortfall    : Nat
  ceilRef      : Option Nat
  /-- The sample window, newest entry first. -/
  window       : List StepEntry
  nextStep     : Count
  steps        : Nat
  stallSteps   : Nat
  shortSteps   : Nat
  finding      : Finding
  /-- The limit of the flap travel in progress (R101). -/
  travel       : Option Count
  lastPulse    : Option Count
  deriving DecidableEq, Repr

/-! ### Climate sensing -/

/-- The sources of the converter, in its order of priority (R114). -/
inductive Source where
  | outer | inner | rh
  deriving DecidableEq, Repr

/-- The half-cycle in which a reading was requested, as seen now (R118). -/
inductive HalfTag where
  | current | previous | gone
  deriving DecidableEq, Repr

/-- A purpose of a conversion (R114). -/
inductive Purpose where
  | midHalf (half : HalfTag)
  | endOfHalf (half : HalfTag)
  | rest
  | clearCheck
  deriving DecidableEq, Repr

/-- The conversion in progress (R114). -/
structure Conversion where
  source   : Source
  purposes : List Purpose
  deriving DecidableEq, Repr

/-- A reading of a sample set (R115, R117). -/
inductive Reading where
  | notTaken | absent | held (v : Int) | fresh (v : Int)
  deriving DecidableEq, Repr

/-- A sensor's held value, invalid count, SENSOR FAULT latch, and the CLEAR check marked in START
(R115, R116). -/
structure Sensor where
  held      : Option Int
  invalid   : Nat
  latched   : Bool
  clearMark : Bool
  deriving DecidableEq, Repr

/-- A sample set (R117). -/
structure SampleSet where
  direction : Dir
  stage     : Option FrostStage
  midInner  : Reading
  endOuter  : Reading
  endInner  : Reading
  endRh     : Reading
  deriving DecidableEq, Repr

/-- The end-of-half conversions that a due evaluation still waits for (R119), with the previous set as
it stood at the end-of-half point. -/
structure Awaiting where
  sources  : List Source
  half     : HalfTag
  previous : SampleSet
  deriving DecidableEq, Repr

/-- Climate sensing (R114 to R124). An empty list of purposes is no pending request. -/
structure ClimateSensing where
  outer        : Sensor
  inner        : Sensor
  rhSensor     : Sensor
  converting   : Option Conversion
  waitOuter    : List Purpose
  waitInner    : List Purpose
  waitRh       : List Purpose
  current      : SampleSet
  previous     : SampleSet
  midPoint     : Option Count
  endPoint     : Option Count
  awaiting     : Option Awaiting
  lastRh       : Option Int
  /-- The ratio list, oldest first. -/
  ratios       : List Nat
  restSampling : Option Count
  deriving DecidableEq, Repr

/-! ### The frost guard -/

/-- The lockout cause (R127). -/
inductive LockCause where
  | cold | failed
  deriving DecidableEq, Repr

/-- The own claim (R127). -/
inductive OwnClaim where
  | idle | queued | placed (position : Nat)
  deriving DecidableEq, Repr

/-- An open post-thaw window (R134). -/
structure PostThaw where
  seen : Nat
  high : Bool
  deriving DecidableEq, Repr

/-- An entry of the claim list (R141). -/
structure Claim where
  node     : Nat
  k        : HalfNo
  severity : Nat
  start    : Count
  deriving DecidableEq, Repr

/-- The frost guard (R127). -/
structure FrostGuard where
  stage       : FrostStage
  severity    : Nat
  rise        : Nat
  fall        : Nat
  warm        : Nat
  cause       : Option LockCause
  lockHalves  : Nat
  thawHalves  : Nat
  holdOff     : Nat
  granted     : Bool
  ownClaim    : OwnClaim
  postThaw    : Option PostThaw
  failed      : Nat
  thawTotal   : Nat
  failedTotal : Nat
  claims      : List Claim
  deriving DecidableEq, Repr

/-! ### The demand unit -/

/-- The humidity boost (R147). -/
inductive Humidity where
  | off | active | runOn
  deriving DecidableEq, Repr

/-- The content of the house request slot; `hold` is `none` for "until replaced" (R147, R157). -/
structure HouseSlot where
  level  : Level
  source : Nat
  hold   : Option Count
  deriving DecidableEq, Repr

/-- The cause of a wake (R162, R163). -/
inductive WakeCause where
  | resume | wake | press | restTimer
  deriving DecidableEq, Repr

/-- A wake held during the flush (R162). -/
structure HeldWake where
  cause : WakeCause
  mark  : Bool
  deriving DecidableEq, Repr

/-- A press: the instant it was taken, and whether its length is still timed (R154, R155). -/
structure Press where
  since : Count
  timed : Bool
  deriving DecidableEq, Repr

/-- The demand unit (R147). -/
structure DemandUnit where
  buttonBoost : Option Count
  humidity    : Humidity
  runOn       : Option Count
  dryGuard    : Bool
  dryCount    : Nat
  slot        : Option HouseSlot
  restTimer   : Option Count
  flush       : Option Count
  heldWake    : Option HeldWake
  button      : Option Press
  deriving DecidableEq, Repr

/-! ### The filter supervisor -/

/-- A duty-per-speed sample (R167). -/
structure FilterSample where
  side  : Side
  ratio : Nat
  k     : HalfNo
  deriving DecidableEq, Repr

/-- The filter supervisor (R166). The running time stands in the time base. -/
structure FilterSupervisor where
  refIn      : Nat
  refOut     : Nat
  /-- The learning count, `none` when not learning. -/
  learning   : Option Nat
  sumIn      : Nat
  sumOut     : Nat
  held       : Option FilterSample
  loadIn     : Nat
  loadOut    : Nat
  loading    : Nat
  wind       : Int
  ceilIn     : Nat
  ceilOut    : Nat
  state      : FilterState
  runLoaded  : Nat
  runChange  : Nat
  runBlocked : Nat
  hours      : Nat
  deriving DecidableEq, Repr

/-! ### Conditions and service -/

/-- The condition unit: bit c of `set` is condition code c; `phase` is the place in the indicator's
pattern, even while the sink is on (R184). -/
structure ConditionUnit where
  set     : BitVec 16
  leading : Nat
  phase   : Nat
  deriving DecidableEq, Repr

/-- The service unit and the store (R177, R181, R183). -/
structure ServiceUnit where
  params       : Vector (BitVec 16) 21
  changed      : Bool
  /-- The image of the store write in progress. -/
  writing      : Option StoreImage
  further      : Bool
  storeDefault : Bool
  store        : StoreImage
  /-- The MODEL's own: how many free values have been drawn (log 6). -/
  freeUses     : Nat
  deriving DecidableEq, Repr

/-! ### The state -/

/-- The station, block by block, and the queue of the commands that wait. -/
structure State where
  mode    : ModeControl
  own     : OwnRecord
  line    : LineControl
  peers   : PeerTable
  rev     : ReversalTimer
  time    : TimeBase
  unit    : CalcUnit
  pass    : BalancePass
  fan     : FanDrive
  clim    : ClimateSensing
  frost   : FrostGuard
  demand  : DemandUnit
  filt    : FilterSupervisor
  cond    : ConditionUnit
  svc     : ServiceUnit
  pending : List Instr
  deriving DecidableEq, Repr

/-- No command of this block stops it with a fault: errors are counted, latched or shown as conditions
(R37, R116, R184). -/
inductive Fault where
  deriving DecidableEq, Repr

/-- Refusals. -/
inductive Refusal where
  /-- Raised by `exec` for a command that has no meaning yet; safe. No arm answers it. -/
  | notModelled (mnemonic : String)
  deriving DecidableEq, Repr

/-! ### Block updates -/

namespace State

def withMode (s : State) (b : ModeControl) : State := { s with mode := b }
def withOwn (s : State) (b : OwnRecord) : State := { s with own := b }
def withLine (s : State) (b : LineControl) : State := { s with line := b }
def withPeers (s : State) (b : PeerTable) : State := { s with peers := b }
def withRev (s : State) (b : ReversalTimer) : State := { s with rev := b }
def withTime (s : State) (b : TimeBase) : State := { s with time := b }
def withUnit (s : State) (b : CalcUnit) : State := { s with unit := b }
def withPass (s : State) (b : BalancePass) : State := { s with pass := b }
def withFan (s : State) (b : FanDrive) : State := { s with fan := b }
def withClim (s : State) (b : ClimateSensing) : State := { s with clim := b }
def withFrost (s : State) (b : FrostGuard) : State := { s with frost := b }
def withDemand (s : State) (b : DemandUnit) : State := { s with demand := b }
def withFilt (s : State) (b : FilterSupervisor) : State := { s with filt := b }
def withCond (s : State) (b : ConditionUnit) : State := { s with cond := b }
def withSvc (s : State) (b : ServiceUnit) : State := { s with svc := b }
def withPending (s : State) (q : List Instr) : State := { s with pending := q }

end State

/-! ### Reset -/

/-- The default of every parameter P0 to P20 (R181). -/
def defaultParams : Vector (BitVec 16) 21 :=
  #v[7, 24, 40, 60, 90, 1, 0, 0, 40, 50, BitVec.ofInt 16 (-220), 2,
     0, 45, 80, 110, 138, 165, 190, 215, 240]

/-- A store that nothing has written: it fails its check (DESIGN CHOICE, log 5). -/
def blankStore : StoreImage :=
  { params := Vector.replicate 21 0, refIn := 0, refOut := 0, filterState := .clean, hours := 0,
    thawTotal := 0, failedTotal := 0, check := 0 }

/-- A sensor at power-on (R115, R116). -/
def freshSensor : Sensor := { held := none, invalid := 0, latched := false, clearMark := false }

/-- A sample set as power-on, the reset pin and JOIN entry leave it (R117). -/
def emptySet : SampleSet :=
  { direction := .halt, stage := none, midInner := .notTaken, endOuter := .notTaken,
    endInner := .notTaken, endRh := .notTaken }

/-- The machine right after reset: START with its 2048-count hold running (R176), every block at its
power-on value (R2, R18, R30, R36 to R39, R54, R76, R90, R95, R114 to R117, R122, R127, R147, R166,
R181, R183). Values the spec does not give: log 4, log 5, log 11. -/
def State.reset : State where
  mode := { mode := .start, startHold := some 2048, setupWindow := none, strapInvalid := false,
            inactivity := none, setupFlush := none, leaveAsked := false }
  own := { node := 0, lead := false, facade := .front, room := .dry, k := none, instant := none,
           direction := .halt, want := 0, level := .base, ceil := 0, flow := 0, leaving := false,
           outdoor := none, roomTemp := none, rh := 0, ratio := 0 }
  line := { sampling := false, phase := .busy, txq := [], replacement := none, rxq := [],
            faultCount := 0, rxFaults := 0, overruns := 0, drops := 0, clashes := 0, clashAge := 8,
            cutOff := none }
  peers := { records := [], owedAgeings := 0, owedEmptying := false }
  rev := { next := none, pendingNumber := none, gather := none, claimWindow := none,
           statusTimer := none, tally := [], listening := none, lastHeard := none }
  time := { now := 0, quality := .coarse, crystalReady := false, fanTime := 0, runTime := 0 }
  unit := { engine := .free, waitPass := false, waitClimate := none, waitFilter := none }
  pass := { state := .idle, snapshot := [], record := { nodes := [], n := 0, thaws := 0 },
            current := false }
  fan := { state := .stopped, wanted := .halt, drive := .inward, target := none, duty := 0,
           speed := 0, flap := .closed, restart := false, fullCoast := false, stallHistory := none,
           latch := none, trial := .idle, cap := none, shortfall := 0, ceilRef := none, window := [],
           nextStep := 256, steps := 0, stallSteps := 0, shortSteps := 0, finding := .nothing,
           travel := none, lastPulse := none }
  clim := { outer := freshSensor, inner := freshSensor, rhSensor := freshSensor, converting := none,
            waitOuter := [], waitInner := [], waitRh := [], current := emptySet,
            previous := emptySet, midPoint := none, endPoint := none, awaiting := none,
            lastRh := none, ratios := [], restSampling := none }
  frost := { stage := .noFrost, severity := 0, rise := 0, fall := 0, warm := 0, cause := none,
             lockHalves := 0, thawHalves := 0, holdOff := 0, granted := false, ownClaim := .idle,
             postThaw := none, failed := 0, thawTotal := 0, failedTotal := 0, claims := [] }
  demand := { buttonBoost := none, humidity := .off, runOn := none, dryGuard := false, dryCount := 0,
              slot := none, restTimer := none, flush := none, heldWake := none, button := none }
  filt := { refIn := 250, refOut := 250, learning := none, sumIn := 0, sumOut := 0, held := none,
            loadIn := 0, loadOut := 0, loading := 0, wind := 0, ceilIn := 120, ceilOut := 120,
            state := .clean, runLoaded := 0, runChange := 0, runBlocked := 0, hours := 0 }
  cond := { set := 16, leading := 4, phase := 0 }
  svc := { params := defaultParams, changed := false, writing := none, further := false,
           storeDefault := false, store := blankStore, freeUses := 0 }
  pending := []

end Sys2Proof.Machine
end

