-- ==== Sys2Proof/Machine/Clock.lean ====
section
/-! DEFINITION. The own time base: instants, durations in counts, and the passing of time. -/

namespace Sys2Proof.Machine

/-- The signed difference of two instants modulo 2³² (R53): how many counts `a` lies after `b`. -/
def Count.since (a b : Count) : Int := (a - b).toInt

/-- The instant `n` counts after `a`. -/
def Count.later (a : Count) (n : Nat) : Count := a + BitVec.ofNat 32 n

/-- The instant `n` counts before `a`. -/
def Count.earlier (a : Count) (n : Nat) : Count := a - BitVec.ofNat 32 n

/-- The instant `n` counts from `a`, `n` being signed. -/
def Count.shifted (a : Count) (n : Int) : Count := a + BitVec.ofInt 32 n

/-! ### Durations, in counts of 1/1024 s -/

/-- The START hold, 2 s (R176). -/
def startHoldCounts : Nat := 2048
/-- The SETUP window, 10 s (R178). -/
def setupWindowCounts : Nat := 10240
/-- The SETUP inactivity time, 10 min (R180). -/
def inactivityCounts : Nat := 614400
/-- A flush, 2 s (R160, R179). -/
def flushCounts : Nat := 2048
/-- The CUT OFF timer, 30 s (R41). -/
def cutOffCounts : Nat := 30720
/-- The gather window, 3 s (R55, R59). -/
def gatherCounts : Nat := 3072
/-- The claim window, 10 s, and the least length of an adopted half-cycle (R55, R66). -/
def claimWindowCounts : Nat := 10240
/-- The status timer, 5 s (R58). -/
def statusCounts : Nat := 5120
/-- The listening time beyond two half-cycles (R69). -/
def listenExtra : Nat := 3072
/-- The fan's step, 0.25 s (R96). -/
def stepCounts : Nat := 256
/-- The limit of a flap travel, 10 s (R101). -/
def travelCounts : Nat := 10240
/-- The time without a tachometer pulse after which the speed is 0, 0.5 s (R96). -/
def noPulseCounts : Nat := 512
/-- The age of a stall after which the next is again a first stall, 10 min (R105). -/
def stallMemoryCounts : Nat := 614400
/-- The end-of-half point before the next reversal, 1 s (R118). -/
def endPointCounts : Nat := 1024
/-- The REST sampling period, 60 s (R124). -/
def restSamplingCounts : Nat := 61440
/-- One minute (R153, R173). -/
def minuteCounts : Nat := 61440
/-- One hour of running time (R173). -/
def hourCounts : Nat := 3686400
/-- Eight hours: the REST timer for ARG 0 (R159) and the store write period in RUN (R183). -/
def eightHourCounts : Nat := 29491200
/-- Ten minutes: the unit of HOLD and of the REST notice's ARG (R157, R159). -/
def tenMinuteCounts : Nat := 614400
/-- The 10 s mark of a press (R154). -/
def pressHoldCounts : Nat := 10240

/-! ### Parameters -/

/-- The stored value of parameter P`i` (R181). -/
def param (s : State) (i : Fin 21) : Int := (s.svc.params[i]).toInt

/-- Parameter P`i` as a number that is never negative. A negative value, which only a checked store image can bring,
counts as 0, the model's choice (log 55). -/
def paramNat (s : State) (i : Fin 21) : Nat := (param s i).toNat

/-- The nominal half-cycle length L = P0 × 10,240 counts (R53). -/
def halfLength (s : State) : Nat := paramNat s 0 * 10240

/-- The agreement limit L/4 = P0 × 2560 counts (R53). -/
def agreeLimit (s : State) : Nat := paramNat s 0 * 2560

/-- The run-on length in counts: P6 minutes, or 20 minutes for P6 = 0 (R153). For a P6 outside 0 to 60, which only a
checked store image can bring, the length is the model's choice: 20 minutes for a negative P6, and P6 minutes for one
above 60 (log 50). -/
def runOnLength (s : State) : Nat :=
  if paramNat s 6 = 0 then 20 * minuteCounts else paramNat s 6 * minuteCounts

/-! ### The passing of time -/

/-- The fan is driven in RUN: the running time advances (R173). -/
def fanTimeRuns (s : State) : Bool :=
  s.mode.mode = .run && (s.fan.state = .rampUp || s.fan.state = .running)

/-- `d` counts pass, and the time base reads `t` after them (R53). The running time of the fan and the time
in RUN grow while their conditions hold; FILTER_HOURS takes each full hour of the first (R173),
STORE_RUN_TIMER_EXPIRY and each store write the second (R183). -/
def passCounts (d : Nat) (t : Count) (s : State) : State :=
  s.withTime { s.time with
    now := t
    fanTime := if fanTimeRuns s then s.time.fanTime + d else s.time.fanTime
    runTime := if s.mode.mode = .run then s.time.runTime + d else s.time.runTime }

/-- The time base reaches `t`. A `t` that is not ahead leaves it: the time base never runs back
(R53; log 1). -/
def advanceTo (t : Count) (s : State) : State :=
  if 0 < Count.since t s.time.now then passCounts (Count.since t s.time.now).toNat t s else s

/-- One count passes: what a step does when no command waits (R53; log 2). -/
def tick (s : State) : State := passCounts 1 (Count.later s.time.now 1) s

end Sys2Proof.Machine
end

