-- ==== Sys2Proof/Machine/Flags.lean ====
section
/-! DEFINITION. Status derived from the state: line state, sensor-fault bit, the active condition set, the
leading condition and the indicator. -/

namespace Sys2Proof.Machine

/-- The line state of a line fault count (R39). -/
def lineStateOf (count : Nat) : LineState :=
  if count < 32 then .openLine else if count < 64 then .muted else .cutOff

/-- The line state (R6, R39). -/
def lineState (s : State) : LineState := lineStateOf s.line.faultCount

/-- SENSOR FAULT is latched for any of the three sensors (R7, R116). -/
def sensorFault (s : State) : Bool :=
  s.clim.outer.latched || s.clim.inner.latched || s.clim.rhSensor.latched

/-- Whether the cause of condition code `c` holds (R184). -/
def conditionHolds (s : State) : Nat → Bool
  | 1 => s.demand.humidity ≠ .off
  | 2 => s.filt.state = .change
  | 3 => s.svc.storeDefault
  | 4 => s.time.quality = .coarse
  | 5 => lineState s = .muted
  | 6 => s.line.clashAge < 8
  | 7 => lineState s = .cutOff
  | 8 => s.frost.stage = .trim || s.frost.stage = .claiming || s.frost.stage = .thaw
  | 9 => s.filt.state = .blocked
  | 10 => s.frost.stage = .lockout
  | 11 => sensorFault s
  | 12 => s.fan.latch.isSome
  | 13 => s.mode.strapInvalid
  | _ => false

/-- The condition codes (R184). -/
def conditionCodes : List Nat := [1, 2, 3, 4, 5, 6, 7, 8, 9, 10, 11, 12, 13]

/-- The active conditions, in ascending order of code (R184). -/
def activeConditions (s : State) : List Nat := conditionCodes.filter (conditionHolds s)

/-- A set of condition codes as the 16-bit value of READ page 9: code c as bit c (R51). -/
def conditionBits (codes : List Nat) : BitVec 16 :=
  codes.foldl (fun b c => b ||| ((1 : BitVec 16) <<< c)) 0

/-- The leading condition: the highest active code, or 0 (R184). -/
def leadingOf (codes : List Nat) : Nat := codes.foldl max 0

/-- The pattern groups of the indicator (R184). -/
inductive Pattern where
  | steady | slow | double | fast
  deriving DecidableEq, Repr

/-- The pattern of a leading code (R184). -/
def patternOf (leading : Nat) : Pattern :=
  if leading = 0 then .steady else if leading ≤ 4 then .slow else if leading ≤ 9 then .double else .fast

/-- The lengths of a pattern's parts in milliseconds, on and off in turn; steady has one part that does
not end (R184). -/
def patternParts : Pattern → List Nat
  | .steady => [0]
  | .slow => [1000, 1000]
  | .double => [200, 200, 200, 1400]
  | .fast => [200, 200]

/-- The condition unit follows its causes: the set, the leading condition, and the restart of the
indicator's cycle when the leading code moves to another group (R184). -/
def refreshConditions (s : State) : State :=
  s.withCond
    { set := conditionBits (activeConditions s)
      leading := leadingOf (activeConditions s)
      phase := if patternOf (leadingOf (activeConditions s)) = patternOf s.cond.leading
               then s.cond.phase else 0 }

/-- The sink conducts: never in the START hold, and in the even parts of the pattern after it (R184). -/
def sinkOn (s : State) : Bool := s.mode.startHold.isNone && s.cond.phase % 2 = 0

/-- The current of the sink in mA: by P11, or 4 mA while STRAP INVALID is active (R181, R184). For a P11 outside 0 to
3, which only a checked store image can bring, the spec gives no current: there is none, the model's choice
(log 53). -/
def sinkMilliamps (s : State) : Nat :=
  if sinkOn s then
    if s.mode.strapInvalid then 4
    else match (s.svc.params[11]).toNat with
      | 1 => 3
      | 2 => 4
      | 3 => 5
      | _ => 0
  else 0

end Sys2Proof.Machine
end

