-- ==== Sys2Proof/Machine/Sampler.lean ====
section
/-! DEFINITION. Bits, characters and frames of the line, and the CRC of the CHECK character. -/

namespace Sys2Proof.Machine

/-- The majority of three line levels. -/
def majority (a b c : LineLevel) : Bool := (a && b) || (a && c) || (b && c)

/-! ### The bit sampler (R20) -/

/-- A bit as the sampler reads it: the slice of the line in which it began, whether it began at a
PASSIVE→ACTIVE edge, and its value; PASSIVE is 1 (R20). -/
structure ReadBit where
  start : Nat
  edge  : Bool
  value : Bool
  deriving DecidableEq, Repr

/-- Where the bit sampler stands: how many slices it has read, the level of the last of them, its number in
the bit time, where and how that bit began, and the levels of slices 7 and 8. -/
structure BitClock where
  slicesRead : Nat
  level      : LineLevel
  slice      : Nat
  start      : Nat
  edge       : Bool
  seventh    : LineLevel
  eighth     : LineLevel
  deriving DecidableEq, Repr

/-- The sampler on a PASSIVE line, at the end of a bit time. -/
def BitClock.atRest : BitClock :=
  { slicesRead := 0, level := true, slice := 16, start := 0, edge := false, seventh := true, eighth := true }

/-- One slice: a PASSIVE→ACTIVE edge is slice 1 of the bit then beginning, and without an edge the slices
count on from 1 to 16 (R20). A bit whose slice 9 had not been read at the edge begins anew (log 10). -/
def BitClock.next (c : BitClock) (level : LineLevel) : BitClock :=
  let edge := c.level && !level
  if edge = true ∨ c.slice = 16 then
    { c with slicesRead := c.slicesRead + 1, level := level, slice := 1, start := c.slicesRead, edge := edge }
  else
    { c with
      slicesRead := c.slicesRead + 1, level := level, slice := c.slice + 1
      seventh := if c.slice + 1 = 7 then level else c.seventh
      eighth := if c.slice + 1 = 8 then level else c.eighth }

/-- The bits that a row of slices holds: each is read at slice 9 as the majority of slices 7, 8 and 9
(R20). -/
def readBits (c : BitClock) : List LineLevel → List ReadBit
  | [] => []
  | level :: levels =>
    let d := c.next level
    if d.slice = 9 then
      { start := d.start, edge := d.edge, value := majority d.seventh d.eighth d.level } :: readBits d levels
    else readBits d levels

/-- The slices of a bit time. -/
def bitSlices : Nat := 16

/-- A bit driven for its whole bit time: 1 is sent as PASSIVE, 0 as ACTIVE (R20). -/
def driveBit (v : Bool) : List LineLevel := List.replicate bitSlices v

/-- The number that bits spell, most significant first. -/
def bitsToNat (bits : List Bool) : Nat := bits.foldl (fun n b => 2 * n + b.toNat) 0

/-- The ten bits of a character: start bit, eight data bits most significant first, stop bit (R21). -/
def charBits (b : Byte) : List Bool :=
  [false, b.getLsbD 7, b.getLsbD 6, b.getLsbD 5, b.getLsbD 4, b.getLsbD 3, b.getLsbD 2, b.getLsbD 1,
   b.getLsbD 0, true]

/-- The ten bits of a character as a sender drives them (R21). -/
def driveChar (b : Byte) : List LineLevel := (charBits b).flatMap driveBit

/-! ### CHECK and the characters of a frame (R22, R23) -/

/-- One bit of the CRC-8 with generator x⁸ + x² + x + 1 (R23). -/
def crcShift (c : Byte) : Byte := if c.getLsbD 7 then (c <<< 1) ^^^ 7 else c <<< 1

/-- One character of the CRC (R23). -/
def crcByte (crc b : Byte) : Byte :=
  crcShift (crcShift (crcShift (crcShift (crcShift (crcShift (crcShift (crcShift (crc ^^^ b))))))))

/-- The CRC-8 of a row of characters, from the initial value 0 (R23). -/
def crc8 (bytes : List Byte) : Byte := bytes.foldl crcByte 0

/-- The characters of a frame: RANK, SIZE, payload, CHECK (R22, R23). -/
def frameBytes (rank : Byte) (payload : List Byte) : List Byte :=
  let body := rank :: BitVec.ofNat 8 payload.length :: payload
  body ++ [crc8 body]

/-- The frame as driven on the line: its characters back to back (R22). -/
def driveFrame (rank : Byte) (payload : List Byte) : List LineLevel :=
  (frameBytes rank payload).flatMap driveChar

/-! ### Frame assembly (R21 to R23) -/

/-- What a receiver makes of what the line carries. -/
inductive FrameRead where
  /-- No edge: nothing has begun. -/
  | silent
  /-- A false start before the first character (R21). -/
  | falseStart
  /-- Abandoned during reception (R22). -/
  | abandoned
  /-- CHECK failure (R23). -/
  | checkFailure
  /-- A good frame. -/
  | good (rank : Byte) (payload : List Byte)
  deriving DecidableEq, Repr

/-- A frame in reception: the characters read, the data bits of the character being read, none between
characters, and the last slice in which the next character may begin (R22). -/
structure Reception where
  chars : List Byte
  bits  : Option (List Bool)
  limit : Nat
  deriving DecidableEq, Repr

/-- What follows from one bit: the reception goes on, or ends. -/
inductive ReceptionStep where
  | goesOn (r : Reception)
  | ends (f : FrameRead)
  deriving DecidableEq, Repr

/-- The CRC check of a complete frame (R23). -/
def checkFrame (rank size : Byte) (rest : List Byte) : FrameRead :=
  let payload := rest.take size.toNat
  if rest.getLast? = some (crc8 (rank :: size :: payload)) then .good rank payload else .checkFailure

/-- A character has been read: SIZE states 0 to 8 payload characters, and the frame is complete at its CHECK
character (R22, R23). -/
def takeChar (chars : List Byte) (limit : Nat) : ReceptionStep :=
  match chars with
  | rank :: size :: rest =>
    if 8 < size.toNat then .ends .abandoned
    else if rest.length = size.toNat + 1 then .ends (checkFrame rank size rest)
    else .goesOn { chars := chars, bits := none, limit := limit }
  | _ => .goesOn { chars := chars, bits := none, limit := limit }

/-- A bit between characters: a character begins at an edge whose start bit reads ACTIVE, in a frame no later
than 3 bit times after the stop bit before; a false start is passed over inside a frame (R21, R22). -/
def takeGapBit (r : Reception) (b : ReadBit) : ReceptionStep :=
  if r.chars ≠ [] ∧ r.limit < b.start then .ends .abandoned
  else if b.edge = false then .goesOn r
  else if b.value = false then .goesOn { r with bits := some [] }
  else if r.chars = [] then .ends .falseStart
  else .goesOn r

/-- A bit of a character: eight data bits, and a stop bit that reads PASSIVE (R21, R22). -/
def takeCharBit (r : Reception) (bits : List Bool) (b : ReadBit) : ReceptionStep :=
  if bits.length < 8 then .goesOn { r with bits := some (bits ++ [b.value]) }
  else if b.value = false then .ends .abandoned
  else takeChar (r.chars ++ [BitVec.ofNat 8 (bitsToNat bits)]) (b.start + 4 * bitSlices)

def takeBit (r : Reception) (b : ReadBit) : ReceptionStep :=
  match r.bits with
  | none => takeGapBit r b
  | some bits => takeCharBit r bits b

/-- Frame assembly over the bits of the line (R21 to R23). -/
def assemble (r : Reception) : List ReadBit → FrameRead
  | [] => if r.chars = [] then .silent else .abandoned
  | b :: bs =>
    match takeBit r b with
    | .goesOn r1 => assemble r1 bs
    | .ends f => f

/-- No character read yet. -/
def Reception.empty : Reception := { chars := [], bits := none, limit := 0 }

/-- What a receiver makes of the levels of the line, and of the PASSIVE line that follows them: 16 bit times
of it decide any frame (R20 to R23; log 10). -/
def readFrame (levels : List LineLevel) : FrameRead :=
  assemble .empty (readBits .atRest (levels ++ List.replicate (16 * bitSlices) true))

/-- The frame duration in counts of a frame with `n` payload characters (R24). -/
def frameCounts (n : Nat) : Nat := (10240 * (3 + n) + 4800) / 9600

end Sys2Proof.Machine
end

