-- ==== Sys2Proof/Machine/Operands.lean ====
section
/-! DEFINITION. Notice formats: RANK, the layouts and codes of every payload, what a sender writes and what
a receiver reads or rejects (R43 to R51). -/

namespace Sys2Proof.Machine

/-! ### Classes and RANK -/

/-- The class number (02 section 2.3). -/
def classCode : NoticeClass → Nat
  | .change => 0
  | .claim => 1
  | .phase => 2
  | .house => 3
  | .status => 4
  | .request => 5
  | .reply => 6

/-- The class of a class number; 7 is no class. -/
def classOf : Nat → Option NoticeClass
  | 0 => some .change
  | 1 => some .claim
  | 2 => some .phase
  | 3 => some .house
  | 4 => some .status
  | 5 => some .request
  | 6 => some .reply
  | _ => none

/-- RANK is 32 × class + 16 × urgent + node (R43). -/
def rankOf (cls : NoticeClass) (urgent : Bool) (node : Nat) : Nat :=
  32 * classCode cls + 16 * urgent.toNat + node

/-- The RANK of a queue entry (R25, R30). -/
def TxEntry.rank (e : TxEntry) : Nat := rankOf e.cls e.urgent e.node

/-- The RANK character of a queue entry. -/
def TxEntry.rankByte (e : TxEntry) : Byte := BitVec.ofNat 8 e.rank

/-- The class number of a RANK character. -/
def rankClass (rank : Byte) : Nat := rank.toNat / 32

/-- The node of a RANK character. -/
def rankNode (rank : Byte) : Nat := rank.toNat % 16

/-- The class of a frame in the receive queue. -/
def RxFrame.cls (f : RxFrame) : Option NoticeClass := classOf (rankClass f.rank)

/-- The sender of a frame in the receive queue. -/
def RxFrame.node (f : RxFrame) : Nat := rankNode f.rank

/-- The frame start instant: the arrival stamp less the frame duration (R24). -/
def RxFrame.start (f : RxFrame) : Count := Count.earlier f.stamp (frameCounts f.payload.length)

/-- The payload count of a class (R43). -/
def payloadSize : NoticeClass → Nat
  | .change => 6
  | .claim => 2
  | .phase => 8
  | .house => 4
  | .status => 8
  | .request => 4
  | .reply => 8

/-! ### Codes (R44) -/

def dirCode : Dir → Nat
  | .inward => 0
  | .outward => 1
  | .halt => 2

def dirOf : Nat → Option Dir
  | 0 => some .inward
  | 1 => some .outward
  | 2 => some .halt
  | _ => none

def qualityCode : Quality → Nat
  | .crystal => 0
  | .coarse => 1

def qualityOf (b : Bool) : Quality := if b then .coarse else .crystal

def stageCode : FrostStage → Nat
  | .noFrost => 0
  | .watch => 1
  | .trim => 2
  | .claiming => 3
  | .thaw => 4
  | .lockout => 5

def stageOf : Nat → Option FrostStage
  | 0 => some .noFrost
  | 1 => some .watch
  | 2 => some .trim
  | 3 => some .claiming
  | 4 => some .thaw
  | 5 => some .lockout
  | _ => none

def filterCode : FilterState → Nat
  | .clean => 0
  | .loaded => 1
  | .change => 2
  | .blocked => 3

def filterOf : Nat → FilterState
  | 0 => .clean
  | 1 => .loaded
  | 2 => .change
  | _ => .blocked

def levelCode : Level → Nat
  | .setback => 0
  | .base => 1
  | .raised => 2
  | .boost => 3

def levelOf : Nat → Option Level
  | 0 => some .setback
  | 1 => some .base
  | 2 => some .raised
  | 3 => some .boost
  | _ => none

def lineCode : LineState → Nat
  | .openLine => 0
  | .muted => 1
  | .cutOff => 2

def lineOf : Nat → Option LineState
  | 0 => some .openLine
  | 1 => some .muted
  | 2 => some .cutOff
  | _ => none

def facadeCode : Facade → Nat
  | .front => 0
  | .rear => 1

def roomCode : Room → Nat
  | .dry => 0
  | .wet => 1
  | .kitchen => 2
  | .hall => 3

def modeCode : Mode → Nat
  | .start => 0
  | .setup => 1
  | .join => 2
  | .run => 3
  | .rest => 4

/-- The code of an invalid temperature in STATUS and on READ pages (R44). -/
def invalidTemp : Int := -32768

/-- A temperature as its code. -/
def tempCode (t : Option Int) : Int := t.getD invalidTemp

/-- The high character of a 16-bit number (R43). -/
def highByte (n : Int) : Byte := BitVec.ofNat 8 ((BitVec.ofInt 16 n).toNat / 256)

/-- The low character of a 16-bit number (R43). -/
def lowByte (n : Int) : Byte := BitVec.ofNat 8 ((BitVec.ofInt 16 n).toNat % 256)

/-- A signed number of two characters, high character first (R43). -/
def signedPair (hi lo : Byte) : Int := (BitVec.ofNat 16 (hi.toNat * 256 + lo.toNat)).toInt

/-- A character that carries a number of 0 to 255. -/
def byteOf (n : Nat) : Byte := BitVec.ofNat 8 n

/-! ### PHASE and CHANGE (R46) -/

/-- The fields a PHASE and a CHANGE share (R43, R46). -/
structure Announcement where
  k         : HalfNo
  direction : Dir
  lead      : Bool
  quality   : Quality
  late      : Bool
  stage     : FrostStage
  want      : Nat
  ceil      : Nat
  filter    : FilterState
  level     : Level
  line      : LineState
  leaving   : Bool
  cond      : Nat
  deriving DecidableEq, Repr

/-- The FLAGS character (R43). -/
def flagsNat (a : Announcement) : Nat :=
  64 * dirCode a.direction + 32 * a.lead.toNat + 16 * qualityCode a.quality + 8 * a.late.toNat
    + stageCode a.stage

/-- The STATE character; bit 0 is 0 (R43, R46). -/
def stateNat (a : Announcement) : Nat :=
  64 * filterCode a.filter + 16 * levelCode a.level + 4 * lineCode a.line + 2 * a.leaving.toNat

/-- The six characters of a CHANGE, which are also the first six of a PHASE (R43). -/
def announceBytes (a : Announcement) : List Byte :=
  [a.k, byteOf (flagsNat a), byteOf a.want, byteOf a.ceil, byteOf (stateNat a), byteOf a.cond]

/-- The eight characters of a PHASE (R43). -/
def phaseBytes (a : Announcement) (delay : Nat) : List Byte :=
  announceBytes a ++ [byteOf (delay / 256), byteOf (delay % 256)]

/-- The announcement that six characters carry, or none if a code is rejected (R44). -/
def readAnnouncement (k flags want ceil state cond : Byte) : Option Announcement :=
  match dirOf (flags.toNat / 64), stageOf (flags.toNat % 8), lineOf (state.toNat / 4 % 4),
      levelOf (state.toNat / 16 % 4) with
  | some direction, some stage, some line, some level =>
    if cond.toNat ≤ 13 then
      some { k := k, direction := direction, lead := flags.toNat / 32 % 2 = 1,
             quality := qualityOf (flags.toNat / 16 % 2 = 1), late := flags.toNat / 8 % 2 = 1,
             stage := stage, want := want.toNat, ceil := ceil.toNat,
             filter := filterOf (state.toNat / 64), level := level, line := line,
             leaving := state.toNat / 2 % 2 = 1, cond := cond.toNat }
    else none
  | _, _, _, _ => none

/-- The own record as a PHASE or CHANGE carries it. K is 0 while k is undefined: R46 states it of a LEAVE, and of
any other it is the model's choice (log 29). -/
def ownAnnouncement (s : State) (direction : Dir) (late : Bool) : Announcement :=
  { k := s.own.k.getD 0, direction := direction, lead := s.own.lead, quality := s.time.quality,
    late := late, stage := s.frost.stage, want := s.own.want, ceil := s.own.ceil,
    filter := s.filt.state, level := s.own.level, line := lineState s, leaving := s.own.leaving,
    cond := s.cond.leading }

/-- The send delay δ at the attempt's count, with the late bit: 4095 and late beyond 4095 counts (R60). -/
def sendDelay (s : State) : Nat × Bool :=
  match s.own.instant with
  | some i =>
    let d := (Count.since s.time.now i).toNat
    if d ≤ 4095 then (d, false) else (4095, true)
  | none => (0, false)

/-! ### STATUS (R49) -/

/-- The payload of a STATUS: the own climate part (R7, R49). -/
def statusBytes (s : State) : List Byte :=
  [highByte (tempCode s.own.outdoor), lowByte (tempCode s.own.outdoor),
   highByte (tempCode s.own.roomTemp), lowByte (tempCode s.own.roomTemp),
   byteOf s.own.rh, byteOf (s.own.ratio / 5), byteOf (s.filt.loading / 5),
   byteOf (128 * facadeCode s.own.facade + 32 * roomCode s.own.room + 16 * (sensorFault s).toNat)]

/-- What a receiver stores of a STATUS: an outdoor value outside −400 to +600 is invalid (R14). -/
def readOutdoor (hi lo : Byte) : Option Int :=
  if -400 ≤ signedPair hi lo ∧ signedPair hi lo ≤ 600 then some (signedPair hi lo) else none

/-! ### The payload at a send attempt -/

/-- The payload of an entry as the attempt fills it: PHASE, CHANGE and STATUS from the own record, the
others as fixed at queueing. A LEAVE carries direction HALT, DELAY 0 and late 0 (R8, R46, R60). -/
def attemptPayload (s : State) (e : TxEntry) : List Byte :=
  match e.cls with
  | .phase =>
    if e.leave then phaseBytes (ownAnnouncement s .halt false) 0
    else phaseBytes (ownAnnouncement s s.own.direction (sendDelay s).2) (sendDelay s).1
  | .change => announceBytes (ownAnnouncement s s.own.direction false)
  | .status => statusBytes s
  | _ => e.payload

/-- The payload of a CLAIM (R47). -/
def claimBytes (k : HalfNo) (severity : Nat) : List Byte := [k, byteOf severity]

/-- The payload of a WAKE (R48). -/
def wakeBytes : List Byte := [0, 3, 0, 0]

/-! ### Received notices -/

/-- What a HOUSE notice asks (R48). -/
inductive HouseAct where
  | level (level : Level) (hold : Nat)
  | rest (arg : Nat)
  | resume
  | wake
  deriving DecidableEq, Repr

/-- The KIND of a SERVICE REQUEST (R44, R50). -/
inductive RequestKind where
  | read | set | setupEnter | setupLeave | clear | filterReset
  deriving DecidableEq, Repr

def requestCode : RequestKind → Nat
  | .read => 0
  | .set => 1
  | .setupEnter => 2
  | .setupLeave => 3
  | .clear => 4
  | .filterReset => 5

def requestOf : Nat → Option RequestKind
  | 0 => some .read
  | 1 => some .set
  | 2 => some .setupEnter
  | 3 => some .setupLeave
  | 4 => some .clear
  | 5 => some .filterReset
  | _ => none

/-- A decoded notice (R45 to R50). -/
inductive Notice where
  | change (a : Announcement)
  | claim (k : HalfNo) (severity : Nat)
  | phase (a : Announcement) (delay : Nat)
  | house (act : HouseAct)
  | status (outdoor : Option Int) (facade : Facade)
  | request (kind : RequestKind) (index value : Byte)
  deriving DecidableEq, Repr

/-- The nodes of ventilator stations (R45). -/
def ventilatorNode (n : Nat) : Bool := 1 ≤ n && n ≤ 12

/-- The nodes of control stations (R45). -/
def controlNode (n : Nat) : Bool := 13 ≤ n && n ≤ 15

/-- A HOUSE notice's KIND and its fields, none where R44 or R48 rejects them. -/
def readHouse (kind arg hold : Byte) : Option HouseAct :=
  match kind.toNat with
  | 0 => (levelOf arg.toNat).map fun l => .level l hold.toNat
  | 1 => some (.rest arg.toNat)
  | 2 => some .resume
  | 3 => some .wake
  | _ => none

/-- A HOUSE notice is sent by a control station, a WAKE by a ventilator station (R45, R48). -/
def houseSenderOk (node : Nat) : HouseAct → Bool
  | .wake => ventilatorNode node
  | _ => controlNode node

/-- Checks 2 to 4 of R45: payload size, sender node and field codes. None is a format error. -/
def decodeNotice (f : RxFrame) : Option Notice :=
  match f.cls, f.payload with
  | some .change, [k, flags, want, ceil, state, cond] =>
    if ventilatorNode f.node then (readAnnouncement k flags want ceil state cond).map .change
    else none
  | some .claim, [k, severity] =>
    if ventilatorNode f.node ∧ severity.toNat ≤ 7 then some (.claim k severity.toNat) else none
  | some .phase, [k, flags, want, ceil, state, cond, hi, lo] =>
    if ventilatorNode f.node ∧ hi.toNat < 16 then
      (readAnnouncement k flags want ceil state cond).map
        fun a => .phase a (hi.toNat * 256 + lo.toNat)
    else none
  | some .house, [_, kind, arg, hold] =>
    match readHouse kind arg hold with
    | some act => if houseSenderOk f.node act then some (.house act) else none
    | none => none
  | some .status, [hi, lo, _, _, _, _, _, kind] =>
    if ventilatorNode f.node then
      some (.status (readOutdoor hi lo) (if kind.toNat / 128 = 1 then .rear else .front))
    else none
  | some .request, [_, kind, index, value] =>
    if controlNode f.node then (requestOf kind.toNat).map fun r => .request r index value
    else none
  | _, _ => none

/-- Check 1 of R45: a frame of this class taken in this mode is discarded without counting (R10). -/
def modeDiscards (m : Mode) : NoticeClass → Bool
  | .change => m = .start || m = .setup
  | .phase => m = .start || m = .setup
  | .status => m = .start || m = .setup
  | .claim => m ≠ .run
  | _ => false

/-! ### Replies (R51) -/

/-- The result codes of a reply (R44). -/
inductive ReplyStatus where
  | done | clamped | notInSetup | noSuch
  deriving DecidableEq, Repr

def replyCode : ReplyStatus → Nat
  | .done => 0
  | .clamped => 1
  | .notInSetup => 2
  | .noSuch => 3

/-- The payload of a SERVICE REPLY (R51). -/
def replyBytes (requester : Nat) (kind : RequestKind) (status : ReplyStatus) (index : Byte)
    (d1 d2 d3 d4 : Byte) : List Byte :=
  [byteOf requester, byteOf (requestCode kind), byteOf (replyCode status), index, d1, d2, d3, d4]

/-! ### Parameters as a SET carries them (R50, R181) -/

/-- "Clamped to lo..hi". Where `lo` lies above `hi`, which only the neighbours of a parameter in a checked store image
can bring, `lo` is taken, the model's choice (log 54). -/
def clampInt (lo hi v : Int) : Int := max lo (min v hi)

/-- The parameter of an index 0 to 20. -/
def paramIndex (i : Nat) : Option (Fin 21) := if h : i < 21 then some ⟨i, h⟩ else none

/-- The lower end of a parameter's carried range (R181). -/
def carriedLow (s : State) (i : Nat) : Int :=
  match i with
  | 0 => 4
  | 2 => param s 1
  | 3 => param s 2
  | 4 => param s 3
  | 8 => 10
  | 9 => 25
  | 10 => 50
  | 13 => param s 12
  | 14 => param s 13
  | 15 => param s 14
  | 16 => param s 15
  | 17 => param s 16
  | 18 => param s 17
  | 19 => param s 18
  | 20 => param s 19
  | _ => 0

/-- The upper end of a parameter's carried range (R181). -/
def carriedHigh (s : State) (i : Nat) : Int :=
  match i with
  | 0 => 12
  | 1 => param s 2
  | 2 => param s 3
  | 3 => param s 4
  | 4 => 120
  | 5 => 3
  | 6 => 60
  | 7 => 1
  | 8 => 120
  | 9 => 75
  | 10 => 150
  | 11 => 3
  | 12 => param s 13
  | 13 => param s 14
  | 14 => param s 15
  | 15 => param s 16
  | 16 => param s 17
  | 17 => param s 18
  | 18 => param s 19
  | 19 => param s 20
  | _ => 255

/-- The carried value taken for a VALUE: a P9 is first lowered to a multiple of 5, then every value is
clamped into its range (R181; log 54 for neighbours out of order). -/
def carriedTaken (s : State) (i : Nat) (value : Nat) : Int :=
  clampInt (carriedLow s i) (carriedHigh s i) (if i = 9 then ((value - value % 5 : Nat) : Int) else (value : Int))

/-- The stored form of a carried value: P10 is stored as −2 × VALUE (R50, R181). -/
def storedForm (i : Nat) (carried : Int) : Int := if i = 10 then -2 * carried else carried

end Sys2Proof.Machine
end

