-- ==== Sys2Proof/Machine/Ops.lean ====
section
/-! DEFINITION. The shared operations: the transmit and receive queues, the event counts, the peer table, the
calculation unit and the balance pass requests, the converter queue and the store write. -/

namespace Sys2Proof.Machine

/-- Every meaning ends here: the condition unit follows its causes at once (R184). -/
def finish (s : State) : State := refreshConditions s

/-- Inserts before the first element whose key is greater. -/
def insertOrd {α : Type} (key : α → Int) (a : α) : List α → List α
  | [] => [a]
  | b :: bs => if key a < key b then a :: b :: bs else b :: insertOrd key a bs

/-! ### Event counts (R37) -/

/-- A count of 0 to 255 that saturates (R37). -/
def bump (n : Nat) : Nat := min (n + 1) 255

def countRxFault (s : State) : State := s.withLine { s.line with rxFaults := bump s.line.rxFaults }

def countOverrun (s : State) : State := s.withLine { s.line with overruns := bump s.line.overruns }

/-- `n` drops (R37). -/
def countDrops (n : Nat) (s : State) : State :=
  s.withLine { s.line with drops := min (s.line.drops + n) 255 }

/-- A counted clash sets the clash age to 0 (R38). -/
def countClash (s : State) : State :=
  s.withLine { s.line with clashes := bump s.line.clashes, clashAge := 0 }

/-! ### The transmit queue (R30 to R34, R40, R41) -/

/-- A new entry: attempt count 0 and both marks clear (R30). -/
def newEntry (cls : NoticeClass) (urgent : Bool) (node : Nat) (leave : Bool) (payload : List Byte) :
    TxEntry :=
  { cls := cls, urgent := urgent, node := node, leave := leave, attempts := 0, onLine := false,
    withdrawn := false, payload := payload }

/-- The classes that a MUTED station does not send (R40). -/
def mutedClass : NoticeClass → Bool
  | .status => true
  | .house => true
  | .reply => true
  | _ => false

/-- Places an entry in RANK order (R30). -/
def placeEntry (e : TxEntry) (q : List TxEntry) : List TxEntry :=
  insertOrd (fun x => (x.rank : Int)) e q

/-- The entry of a class. -/
def entryOf (cls : NoticeClass) (q : List TxEntry) : Option TxEntry := q.find? fun e => e.cls = cls

/-- The queue without its entry of a class. -/
def withoutClass (cls : NoticeClass) (q : List TxEntry) : List TxEntry := q.filter fun e => e.cls ≠ cls

/-- The highest-RANK entry that is not on the line; the queue is in ascending RANK order (R32). -/
def lastOffLine (q : List TxEntry) : Option TxEntry := (q.filter fun e => !e.onLine).getLast?

/-- The queue accepts a notice: it supersedes the entry of its class, or waits in the replacement place
while that entry is on the line (R31); it takes a free place; or a full queue decides between it and the
highest-RANK entry not on the line (R32). -/
def acceptNotice (e : TxEntry) (l : LineControl) : LineControl :=
  match entryOf e.cls l.txq with
  | some old =>
    if old.onLine then { l with replacement := some e }
    else { l with txq := placeEntry e (withoutClass e.cls l.txq) }
  | none =>
    if l.txq.length < 4 then { l with txq := placeEntry e l.txq }
    else match lastOffLine l.txq with
      | some old =>
        if e.rank < old.rank then
          { l with txq := placeEntry e (withoutClass old.cls l.txq), drops := bump l.drops }
        else { l with drops := bump l.drops }
      | none => { l with drops := bump l.drops }

/-- An owner queues a notice. In CUT OFF it is discarded without counting (R41); in MUTED a STATUS, HOUSE
or SERVICE REPLY is dropped and counted (R40). -/
def queueNotice (e : TxEntry) (s : State) : State :=
  match lineState s with
  | .cutOff => s
  | .muted => if mutedClass e.cls then countDrops 1 s else s.withLine (acceptNotice e s.line)
  | .openLine => s.withLine (acceptNotice e s.line)

/-- A withdrawn entry that is not on the line goes at once; one on the line is marked (R34). -/
def withdrawEntries (p : TxEntry → Bool) (q : List TxEntry) : List TxEntry :=
  (q.filter fun e => !p e || e.onLine).map fun e => if p e then { e with withdrawn := true } else e

/-- An owner withdraws its notice, a waiting replacement included (R34). -/
def withdraw (p : TxEntry → Bool) (s : State) : State :=
  s.withLine { s.line with
    txq := withdrawEntries p s.line.txq
    replacement := s.line.replacement.filter fun e => !p e }

/-- Mode control empties the queue (R34, R179). -/
def emptyQueue (s : State) : State := withdraw (fun _ => true) s

def isLeave (e : TxEntry) : Bool := e.cls = .phase && e.leave

/-- A LEAVE stands in the queue or in the replacement place. -/
def leaveQueued (s : State) : Bool :=
  s.line.txq.any isLeave || (match s.line.replacement with
    | some e => isLeave e
    | none => false)

/-- The transmit queue is empty (R160). -/
def queueEmpty (s : State) : Bool := s.line.txq.isEmpty && s.line.replacement.isNone

def queuePhase (s : State) : State := queueNotice (newEntry .phase false s.own.node false []) s

def queueLeave (s : State) : State := queueNotice (newEntry .phase false s.own.node true []) s

def queueChange (urgent : Bool) (s : State) : State :=
  queueNotice (newEntry .change urgent s.own.node false []) s

def queueStatus (s : State) : State := queueNotice (newEntry .status false s.own.node false []) s

def queueWake (s : State) : State := queueNotice (newEntry .house false s.own.node false wakeBytes) s

def queueReply (payload : List Byte) (s : State) : State :=
  queueNotice (newEntry .reply false s.own.node false payload) s

/-! ### The line fault count (R39 to R42) -/

/-- Entry to MUTED: STATUS, HOUSE and SERVICE REPLY entries not on the line, and a waiting replacement of
these classes, are removed and counted (R40). -/
def enterMuted (s : State) : State :=
  let gone := s.line.txq.filter fun e => mutedClass e.cls && !e.onLine
  let left := s.line.txq.filter fun e => !(mutedClass e.cls && !e.onLine)
  let repl := s.line.replacement.filter fun e => !mutedClass e.cls
  countDrops (gone.length + (s.line.replacement.toList.length - repl.toList.length))
    (s.withLine { s.line with txq := left, replacement := repl })

/-- Entry to CUT OFF: every entry and a waiting replacement are removed and counted, and the 30 s timer
starts (R41). -/
def enterCutOff (s : State) : State :=
  countDrops (s.line.txq.length + s.line.replacement.toList.length)
    (s.withLine { s.line with
      txq := [], replacement := none, cutOff := some (Count.later s.time.now cutOffCounts) })

/-- A readback error or a stuck-line charge adds 4 to the line fault count, with a ceiling of 64, and the
line state changes at the moment the count crosses a limit (R39, R42). -/
def chargeLine (s : State) : State :=
  let s' := s.withLine { s.line with faultCount := min (s.line.faultCount + 4) 64 }
  match lineState s, lineState s' with
  | .openLine, .muted => enterMuted s'
  | .openLine, .cutOff => enterCutOff s'
  | .muted, .cutOff => enterCutOff s'
  | _, _ => s'

/-! ### The peer table (R9 to R18, R92) -/

/-- A balance pass holds the peer table (R92). -/
def tableHeld (s : State) : Bool :=
  match s.unit.engine with
  | .pass _ _ _ => true
  | _ => false

def peerOf (node : Nat) (rs : List PeerRecord) : Option PeerRecord := rs.find? fun r => r.node = node

def withoutPeer (node : Nat) (rs : List PeerRecord) : List PeerRecord := rs.filter fun r => r.node ≠ node

/-- Writes a record, keyed by its node, in ascending node order (R9). -/
def putPeer (r : PeerRecord) (rs : List PeerRecord) : List PeerRecord :=
  insertOrd (fun x => (x.node : Int)) r (withoutPeer r.node rs)

/-- A record created by a STATUS, before the STATUS is applied (R11). -/
def blankPeer (node : Nat) : PeerRecord :=
  { node := node, kp := none, direction := .halt, want := 0, ceil := 0, stage := .noFrost,
    agree := false, age := 0, climate := none }

/-- The climate part one own half-cycle older; it goes at age 16 (R16). -/
def ageClimate (c : ClimatePart) : Option ClimatePart :=
  if c.age + 1 < 16 then some { c with age := c.age + 1 } else none

/-- The table one own reversal older: records that reach age 4 go with their climate parts (R15, R16). -/
def ageRecords (rs : List PeerRecord) : List PeerRecord :=
  (rs.map fun r => { r with age := r.age + 1, climate := r.climate.bind ageClimate }).filter
    fun r => r.age < 4

/-- `n` ageings. -/
def ageTimes : Nat → List PeerRecord → List PeerRecord
  | 0, rs => rs
  | n + 1, rs => ageTimes n (ageRecords rs)

/-- The ageing of an own reversal expiry, deferred while the table is held (R15, R16). -/
def agePeers (s : State) : State :=
  if tableHeld s then s.withPeers { s.peers with owedAgeings := s.peers.owedAgeings + 1 }
  else s.withPeers { s.peers with records := ageRecords s.peers.records }

/-- The emptying of a mode entry, deferred while the table is held (R18, R92). -/
def emptyPeers (s : State) : State :=
  if tableHeld s then s.withPeers { s.peers with owedEmptying := true }
  else s.withPeers { s.peers with records := [] }

/-- What a hold deferred is made when it ends (R92). -/
def settleTable (s : State) : State :=
  s.withPeers
    { records := if s.peers.owedEmptying then [] else ageTimes s.peers.owedAgeings s.peers.records
      owedAgeings := 0
      owedEmptying := false }

/-! ### Participants (R77, R78) -/

def sideOf : Dir → Option Side
  | .inward => some .inward
  | .outward => some .outward
  | .halt => none

def dirOfSide : Side → Dir
  | .inward => .inward
  | .outward => .outward

def otherSide : Side → Side
  | .inward => .outward
  | .outward => .inward

/-- The participant that a record gives, with its announcement or predicted, or none (R77, R78). -/
def participantOf (k : HalfNo) (r : PeerRecord) : Option Participant :=
  match sideOf r.direction with
  | none => none
  | some side =>
    if !r.agree then none
    else if r.kp = some k ∧ r.age ≤ 1 then
      some { node := r.node, side := side, want := r.want, ceil := r.ceil, stage := r.stage }
    else if r.kp = some (k - 1) ∧ r.age = 1 then
      some { node := r.node, side := if r.stage = .thaw then .outward else otherSide side,
             want := r.want, ceil := r.ceil, stage := r.stage }
    else none

/-- The peers that take part (R77). -/
def peerParticipants (s : State) : List Participant :=
  match s.own.k with
  | some k => s.peers.records.filterMap (participantOf k)
  | none => []

/-- The station itself as a participant (R77). -/
def ownParticipant (s : State) : Option Participant :=
  (sideOf s.own.direction).map fun side =>
    { node := s.own.node, side := side, want := s.own.want, ceil := s.own.ceil,
      stage := s.frost.stage }

/-- The participants of a pass granted now, in ascending node order (R77). -/
def participants (s : State) : List Participant :=
  match ownParticipant s with
  | some p => insertOrd (fun x => (x.node : Int)) p (peerParticipants s)
  | none => peerParticipants s

/-! ### Requests to the calculation unit (R86, R87, R90) -/

/-- A pass request or a re-pass trigger, by the pass state (R86). -/
def requestPass (s : State) : State :=
  match s.pass.state with
  | .idle => (s.withPass { s.pass with state := .waiting }).withUnit { s.unit with waitPass := true }
  | .waiting => s
  | .running => s.withPass { s.pass with state := .runningOneMore }
  | .runningOneMore => s

/-- A re-pass trigger acts in RUN after the gather window has closed (R85). -/
def trigger (s : State) : State :=
  if s.mode.mode = .run ∧ s.rev.gather = none then requestPass s else s

/-- An own reversal expiry or a departure from RUN: a waiting request is withdrawn, the result of a
running pass will be discarded, a pass owed is cancelled (R87). DESIGN CHOICE: at a departure from RUN the words
of R111 that such a pass can still write F are set aside for R87 (log 15). -/
def cutPass (s : State) : State :=
  let s1 := s.withUnit { s.unit with
    waitPass := false
    engine := match s.unit.engine with
      | .pass t ms _ => .pass t ms true
      | e => e }
  s1.withPass { s1.pass with
    current := false
    state := match s1.pass.state with
      | .runningOneMore => .running
      | .running => .running
      | _ => .idle }

/-- The climate evaluation's work ends: a waiting request is withdrawn, a running result discarded
(R125). -/
def cutClimateJob (s : State) : State :=
  s.withUnit { s.unit with
    waitClimate := none
    engine := match s.unit.engine with
      | .climate i t ms _ => .climate i t ms true
      | e => e }

/-- The filter evaluation's work ends: a waiting request is withdrawn, a running result discarded (R168,
R174). -/
def cutFilterJob (s : State) : State :=
  s.withUnit { s.unit with
    waitFilter := none
    engine := match s.unit.engine with
      | .filter p t ms _ => .filter p t ms true
      | e => e }

/-- A climate evaluation is requested; a request already waiting keeps its fixed inputs (R90, R119;
log 23). -/
def requestClimate (i : EvalInputs) (s : State) : State :=
  s.withUnit { s.unit with waitClimate := some (s.unit.waitClimate.getD i) }

/-- A filter evaluation is requested; a request already waiting keeps its fixed pair (R90, R168;
log 23). -/
def requestFilter (p : FilterPair) (s : State) : State :=
  s.withUnit { s.unit with waitFilter := some (s.unit.waitFilter.getD p) }

/-! ### The converter (R114) -/

/-- The purposes pending for a source. -/
def waitingFor (c : ClimateSensing) : Source → List Purpose
  | .outer => c.waitOuter
  | .inner => c.waitInner
  | .rh => c.waitRh

def withWaiting (c : ClimateSensing) (src : Source) (ps : List Purpose) : ClimateSensing :=
  match src with
  | .outer => { c with waitOuter := ps }
  | .inner => { c with waitInner := ps }
  | .rh => { c with waitRh := ps }

/-- The pending request of highest priority: OUTER, then INNER, then RH (R114). -/
def firstWaiting (c : ClimateSensing) : Option Source :=
  if c.waitOuter ≠ [] then some .outer
  else if c.waitInner ≠ [] then some .inner
  else if c.waitRh ≠ [] then some .rh
  else none

/-- An idle converter starts the pending request of highest priority at once (R114). -/
def startConversion (c : ClimateSensing) : ClimateSensing :=
  match c.converting, firstWaiting c with
  | none, some src =>
    { withWaiting c src [] with converting := some { source := src, purposes := waitingFor c src } }
  | _, _ => c

/-- A request merges with the pending request of its source (R114). -/
def addRequest (src : Source) (p : Purpose) (c : ClimateSensing) : ClimateSensing :=
  if p ∈ waitingFor c src then c else withWaiting c src (waitingFor c src ++ [p])

/-- Requests made at one instant: all are entered, then an idle converter starts (R114). -/
def requestConversions (rs : List (Source × Purpose)) (s : State) : State :=
  s.withClim (startConversion (rs.foldl (fun c r => addRequest r.1 r.2 c) s.clim))

/-- The owner of purposes withdraws them from the pending requests (R114). -/
def withdrawPurposes (p : Purpose → Bool) (c : ClimateSensing) : ClimateSensing :=
  { c with
    waitOuter := c.waitOuter.filter fun x => !p x
    waitInner := c.waitInner.filter fun x => !p x
    waitRh := c.waitRh.filter fun x => !p x }

def sensorOf (c : ClimateSensing) : Source → Sensor
  | .outer => c.outer
  | .inner => c.inner
  | .rh => c.rhSensor

def withSensor (c : ClimateSensing) (src : Source) (v : Sensor) : ClimateSensing :=
  match src with
  | .outer => { c with outer := v }
  | .inner => { c with inner := v }
  | .rh => { c with rhSensor := v }

/-! ### The service store (R177, R183) -/

/-- The sum of a word's two bytes (log 7). -/
def wordSum (w : BitVec 16) : Nat := w.toNat / 256 + w.toNat % 256

/-- The sum of every byte of the image but the check byte (R177; log 7). -/
def imageSum (i : StoreImage) : Nat :=
  (i.params.toList.map wordSum).sum + wordSum i.refIn + wordSum i.refOut + filterCode i.filterState
    + wordSum i.hours + wordSum i.thawTotal + wordSum i.failedTotal

/-- The check byte: the ones' complement of the sum modulo 256 (R177). -/
def checkByte (i : StoreImage) : Byte := ~~~ BitVec.ofNat 8 (imageSum i)

/-- The image passes its check (R177). -/
def imageOk (i : StoreImage) : Bool := i.check = checkByte i

/-- The image assembled from the values in force (R177, R183). -/
def currentImage (s : State) : StoreImage :=
  let i : StoreImage :=
    { params := s.svc.params, refIn := BitVec.ofNat 16 s.filt.refIn,
      refOut := BitVec.ofNat 16 s.filt.refOut, filterState := s.filt.state,
      hours := BitVec.ofNat 16 s.filt.hours, thawTotal := BitVec.ofNat 16 s.frost.thawTotal,
      failedTotal := BitVec.ofNat 16 s.frost.failedTotal, check := 0 }
  { i with check := checkByte i }

/-- A store write starts: it takes the values in force and clears the changed mark (R181, R183). -/
def startWrite (s : State) : State :=
  s.withSvc { s.svc with writing := some (currentImage s), changed := false, further := false }

/-- A store write is requested; during a write it marks one further write (R183). -/
def requestWrite (s : State) : State :=
  match s.svc.writing with
  | none => startWrite s
  | some _ => s.withSvc { s.svc with further := true }

end Sys2Proof.Machine
end

