-- ==== Sys2Proof/Machine/Balance.lean ====
section
/-! DEFINITION. The balance pass and the grants of the calculation unit (R76 to R93). -/

namespace Sys2Proof.Machine

open Host (Outcome)

/-! ### The computation (R80 to R82) -/

/-- The working want w of a participant (R80). -/
def Participant.work (p : Participant) : Nat := min p.want p.ceil

/-- The headroom h of a participant (R80). -/
def Participant.head (p : Participant) : Nat := p.ceil - p.work

/-- The participants of one side, in their order. -/
def onSide (side : Side) (ps : List Participant) : List Participant := ps.filter fun p => p.side = side

/-- The sum of w over participants (R80). -/
def workSum (ps : List Participant) : Nat := (ps.map Participant.work).sum

/-- The sum of h over participants (R80). -/
def headSum (ps : List Participant) : Nat := (ps.map Participant.head).sum

/-- Each of the first `r` shares that is below its weight gets 1 more (R81, R82). -/
def addRemainder : Nat → List (Nat × Nat) → List Nat
  | _, [] => []
  | 0, (share, _) :: rest => share :: addRemainder 0 rest
  | r + 1, (share, weight) :: rest =>
    if share < weight then (share + 1) :: addRemainder r rest
    else share :: addRemainder (r + 1) rest

/-- Divides `total` in proportion to the weights, truncated, with the remainder given out in order
(R81, R82). -/
def apportion (total : Nat) (weights : List Nat) : List Nat :=
  let shares := weights.map fun w => (total * w / weights.sum, w)
  addRemainder (total - (shares.map fun x => x.1).sum) shares

/-- The flows of the taking side: w and a share of the excess in case A, C in case B (R81, R82). -/
def takerFlows (excess : Nat) (takers : List Participant) : List Nat :=
  if excess ≤ headSum takers then
    List.zipWith (fun w a => w + a) (takers.map Participant.work) (apportion excess (takers.map Participant.head))
  else takers.map fun p => p.ceil

/-- The flows of the giving side: w in case A, w less a cut in case B (R81, R82). -/
def giverFlows (excess : Nat) (takers givers : List Participant) : List Nat :=
  if excess ≤ headSum takers then givers.map Participant.work
  else List.zipWith (fun w b => w - b) (givers.map Participant.work)
    (apportion (excess - headSum takers) (givers.map Participant.work))

/-- The flows of a two-sided pass with X ≠ 0, for its taking and giving sides (R80). -/
def sidedFlows (takers givers : List Participant) : List (Participant × Nat) :=
  let excess := workSum givers - workSum takers
  takers.zip (takerFlows excess takers) ++ givers.zip (giverFlows excess takers givers)

/-- The flow of every participant (R80). The participants come in ascending node order. -/
def passFlows (ps : List Participant) : List (Participant × Nat) :=
  let ins := onSide .inward ps
  let outs := onSide .outward ps
  if ins = [] ∨ outs = [] ∨ workSum ins = workSum outs then ps.map fun p => (p, p.work)
  else if workSum ins < workSum outs then sidedFlows ins outs
  else sidedFlows outs ins

/-- F_self, if the station is a participant (R80, R88). -/
def selfFlow (node : Nat) (ps : List Participant) : Option Nat :=
  ((passFlows ps).find? fun x => x.1.node = node).map fun x => x.2

/-- The pass record of a pass: its nodes, n, and the THAW count without the station itself (R76). -/
def recordOf (node : Nat) (ps : List Participant) : PassRecord :=
  { nodes := ps.map fun p => p.node
    n := ps.length
    thaws := (ps.filter fun p => p.node ≠ node ∧ p.stage = .thaw).length }

/-! ### Grants (R77, R79, R86, R91) -/

/-- The arbiter grants a waiting balance pass on a FREE engine: the participants are chosen, and the table
is held (R77, R79, R86, R91, R92). -/
def grantPass (s : State) : State :=
  match s.unit.engine with
  | .free =>
    if s.unit.waitPass then
      let ps := participants s
      (s.withPass { s.pass with snapshot := ps, state := .running }).withUnit
        { s.unit with waitPass := false, engine := .pass s.time.now (2 + ps.length) false }
    else s
  | _ => s

def execPassGrant (t : Count) (s : State) : Outcome State Fault Refusal :=
  .next (finish (grantPass (advanceTo t s)))

/-- The arbiter grants an evaluation on a FREE engine with no balance pass waiting: climate before filter
(R91). -/
def grantEvaluation (s : State) : State :=
  match s.unit.engine with
  | .free =>
    if s.unit.waitPass then s
    else match s.unit.waitClimate, s.unit.waitFilter with
      | some i, _ =>
        s.withUnit { s.unit with waitClimate := none, engine := .climate i s.time.now 3 false }
      | none, some p =>
        s.withUnit { s.unit with waitFilter := none, engine := .filter p s.time.now 2 false }
      | none, none => s
  | _ => s

def execEvaluationGrant (t : Count) (s : State) : Outcome State Fault Refusal :=
  .next (finish (grantEvaluation (advanceTo t s)))

/-! ### Completion (R86 to R88) -/

/-- The result of a pass is applied: F of a participant, limited to C, and the pass record (R88). -/
def applyPass (s : State) : State :=
  let ps := s.pass.snapshot
  let s1 :=
    match selfFlow s.own.node ps with
    | some f => s.withOwn { s.own with flow := min f s.own.ceil }
    | none => s
  s1.withPass { s1.pass with record := recordOf s.own.node ps, current := true }

/-- The pass state after a completion: a pass owed is requested, otherwise IDLE (R86, R87). -/
def afterPass (s : State) : State :=
  match s.pass.state with
  | .runningOneMore =>
    (s.withPass { s.pass with state := .waiting }).withUnit { s.unit with waitPass := true }
  | .running => s.withPass { s.pass with state := .idle }
  | _ => s

/-- A pass completes: its result is applied unless discarded, the snapshot is emptied, the hold ends with
the ageing and emptying it deferred (R87, R88, R92). -/
def completePass (s : State) : State :=
  match s.unit.engine with
  | .pass _ _ discard =>
    let s1 := s.withUnit { s.unit with engine := .free }
    let s2 := if discard then s1 else applyPass s1
    let s3 := s2.withPass { s2.pass with snapshot := [] }
    settleTable (afterPass s3)
  | _ => s

def execPassComplete (t : Count) (s : State) : Outcome State Fault Refusal :=
  .next (finish (completePass (advanceTo t s)))

/-! ### The close of the gather window (R59, R84) -/

/-- The gather window closes, and the first pass of the half-cycle is requested (R59, R84). -/
def closeGather (s : State) : State :=
  match s.rev.gather with
  | some i =>
    if s.mode.mode = .run then
      let s1 := advanceTo i s
      requestPass (s1.withRev { s1.rev with gather := none })
    else s
  | none => s

def execGatherWindowClose (s : State) : Outcome State Fault Refusal := .next (finish (closeGather s))

end Sys2Proof.Machine
end

