-- ==== Sys2Proof/Machine/FanOps.lean ====
section
/-! DEFINITION. What the fan drive shares with the rest: the fan curve, the ceiling, F and its clamp, the
requests to the fan, HALT inside a half-cycle, and the FAN STALL latch. -/

namespace Sys2Proof.Machine

/-! ### The fan curve (R102) -/

/-- The speeds s_0 to s_8 in rpm (R102). -/
def curveSpeeds (s : State) : List Int :=
  [param s 12 * 10, param s 13 * 10, param s 14 * 10, param s 15 * 10, param s 16 * 10,
   param s 17 * 10, param s 18 * 10, param s 19 * 10, param s 20 * 10]

/-- Speed s_i (R102). -/
def curvePoint (s : State) (i : Nat) : Int := (curveSpeeds s).getD i 0

/-- The curve speed of a flow code (R102). -/
def curveSpeed (s : State) (flow : Nat) : Int :=
  if flow < 120 then
    curvePoint s (flow / 15)
      + ((curvePoint s (flow / 15 + 1) - curvePoint s (flow / 15)) * (flow - 15 * (flow / 15) : Nat)).tdiv 15
  else curvePoint s 8

/-- The highest flow code up to `n` whose curve speed is at or below `speed`, or 0. -/
def inverseUpTo (s : State) (speed : Int) : Nat → Nat
  | 0 => 0
  | n + 1 => if curveSpeed s (n + 1) ≤ speed then n + 1 else inverseUpTo s speed n

/-- The inverse of the curve (R102). -/
def inverseCurve (s : State) (speed : Int) : Nat := inverseUpTo s speed 120

/-- The fixed target speed of a SPIN trial (R107). -/
def trialSpeed : Int := 600

/-- The target speed: the curve speed of F, or 600 rpm in a trial (R102, R107). -/
def targetSpeed (s : State) : Int :=
  if s.fan.trial = .running then trialSpeed else curveSpeed s s.own.flow

/-- The band of a target: target / 20 on either side (R99). -/
def inBand (target : Int) (speed : Nat) : Bool :=
  ((speed : Int) - target).natAbs ≤ (target.tdiv 20).natAbs

/-! ### The ceiling and F (R5, R84, R104, R108 to R110) -/

/-- The working want (R1). -/
def workingWant (s : State) : Nat := min s.own.want s.own.ceil

/-- The trim acts: the frost stage is TRIM or CLAIMING (R108). -/
def trimmed (st : FrostStage) : Bool := st = .trim || st = .claiming

/-- The filter ceiling of a direction, trimmed for IN in TRIM and CLAIMING (R108). For a negative P9, which only a
checked store image can bring, the spec gives no trimmed ceiling: it is 0, the model's choice (log 47). -/
def trimmedCeil (s : State) : Side → Nat
  | .inward => if trimmed s.frost.stage then s.filt.ceilIn * paramNat s 9 / 100 else s.filt.ceilIn
  | .outward => s.filt.ceilOut

/-- The flow-short cap when one is present and lower (R108). -/
def capped (cap : Option Nat) (c : Nat) : Nat :=
  match cap with
  | some x => min x c
  | none => c

/-- The ceiling C for a direction; 0 while it is HALT (R4, R108). -/
def ceilingFor (s : State) (d : Dir) : Nat :=
  match sideOf d with
  | some side => capped s.fan.cap (trimmedCeil s side)
  | none => 0

/-- C is written inside a half-cycle. Until the first pass of the half-cycle completes F follows the
working want; after it F is clamped to C (R5, R84, R109). -/
def writeCeil (c : Nat) (s : State) : State :=
  s.withOwn { s.own with
    ceil := c
    flow := if s.mode.mode = .run ∧ s.pass.current = false ∧ s.own.direction ≠ .halt
            then min s.own.want c else min s.own.flow c }

/-- A fall of C to 10 or more codes below the CEIL reference queues a CHANGE (R110). -/
def announceFall (before : Nat) (s : State) : State :=
  match s.fan.ceilRef with
  | some r => if s.mode.mode = .run ∧ s.own.ceil < before ∧ s.own.ceil + 10 ≤ r then queueChange false s
              else s
  | none => s

/-- C is recomputed inside the half-cycle; a different C is written, announced where R110 says so, and is
a re-pass trigger (R4, R109). -/
def recomputeCeil (s : State) : State :=
  if ceilingFor s s.own.direction = s.own.ceil then s
  else trigger (announceFall s.own.ceil (writeCeil (ceilingFor s s.own.direction) s))

/-! ### Fan states, the flap, and requests (R96 to R101, R111) -/

/-- A change of fan state restarts the step clock and every count of steps (R96). -/
def enterFan (st : FanState) (s : State) : State :=
  s.withFan { s.fan with
    state := st
    nextStep := Count.later s.time.now stepCounts
    steps := 0
    stallSteps := 0
    shortSteps := 0
    finding := .nothing }

/-- A change of the flap command starts a travel with a limit of 10 s (R101). -/
def moveFlap (f : Flap) (s : State) : State :=
  s.withFan { s.fan with flap := f, travel := some (Count.later s.time.now travelCounts) }

def setTarget (d : Option Dir) (s : State) : State := s.withFan { s.fan with target := d }

def setWanted (d : Dir) (s : State) : State := s.withFan { s.fan with wanted := d }

/-- Direction HALT with D, C and F at 0 (R2, R3). -/
def haltOwn (s : State) : State :=
  s.withOwn { s.own with direction := .halt, want := 0, ceil := 0, flow := 0 }

/-- "Fan stopped" reaches mode control, which then writes HALT and 0 outside RUN (R2, R111). -/
def fanStopped (s : State) : State := if s.mode.mode = .run then s else haltOwn s

/-- The flap closes and the fan is on its way to STOPPED (R98, R100). -/
def closeFlap (s : State) : State := enterFan .flapClosing (moveFlap .closed s)

/-- From STOPPED the fan opens its flap to blow to `side` (R97). -/
def openFlapFor (side : Side) (s : State) : State :=
  let s1 := s.withFan { s.fan with drive := side, target := some (dirOfSide side) }
  enterFan .flapOpening (moveFlap .openFlap s1)

/-- RAMP DOWN toward a reversal target (R97, R98). -/
def rampDownTo (d : Dir) (s : State) : State := enterFan .rampDown (setTarget (some d) s)

/-- The comparison of the wanted direction with what the fan has reached, in RUNNING and STOPPED (R97). -/
def compareWanted (s : State) : State :=
  match s.fan.state with
  | .stopped =>
    match sideOf s.fan.wanted with
    | some side => openFlapFor side s
    | none => s
  | .running =>
    if s.fan.wanted = dirOfSide s.fan.drive then s else rampDownTo s.fan.wanted s
  | _ => s

/-- A run or reversal request: taken in STOPPED and RUNNING, held in every other state (R97, R100). -/
def fanRequest (side : Side) (s : State) : State := compareWanted (setWanted (dirOfSide side) s)

/-- A stop request, taken at once in every state; it clears the restart mark (R97, R100, R111). -/
def stopRequest (s : State) : State :=
  let s1 := s.withFan { s.fan with wanted := .halt, restart := false }
  match s.fan.state with
  | .stopped => fanStopped s1
  | .running => rampDownTo .halt s1
  | .rampUp => rampDownTo .halt s1
  | .rampDown => setTarget (some .halt) s1
  | .coast => setTarget (some .halt) s1
  | .flapOpening => fanStopped (closeFlap (setTarget (some .halt) s1))
  | .flapClosing => fanStopped s1

/-- Mode control's stop request returns a running trial to PENDING (R107, R111). -/
def modeStop (s : State) : State :=
  stopRequest
    (if s.fan.trial = .running then s.withFan { s.fan with trial := .pending } else s)

/-- Entry to STOPPED: the wanted direction is compared (R97, R101). -/
def enterStopped (s : State) : State :=
  let s1 := enterFan .stopped s
  compareWanted (s1.withFan { s1.fan with target := none })

/-- Entry to RUNNING: the reversal target becomes none, the restart mark is cleared, the wanted direction
is compared (R97, R99). -/
def enterRunning (s : State) : State :=
  let s1 := enterFan .running s
  compareWanted (s1.withFan { s1.fan with target := none, restart := false })

/-- The direction becomes HALT inside a half-cycle, with D, C and F at 0; in RUN an urgent CHANGE is queued
and the change is a re-pass trigger; the fan is stopped (R3, R8, R85, R97, R110). -/
def haltInside (s : State) : State :=
  if s.own.direction = .halt then s
  else
    let s1 := haltOwn s
    stopRequest (if s.mode.mode = .run then trigger (queueChange true s1) else s1)

/-- FAN STALL is latched; when it is latched already only the cause changes (R106). -/
def latchFanStall (cause : StallCause) (s : State) : State :=
  match s.fan.latch with
  | some _ => s.withFan { s.fan with latch := some cause }
  | none =>
    haltInside (s.withFan { s.fan with latch := some cause, stallHistory := none, restart := false })

/-- The fan drive's part in an entry to JOIN, SETUP or REST (R95). -/
def fanModeEntry (s : State) : State :=
  s.withFan { s.fan with cap := none, ceilRef := none, window := [] }

end Sys2Proof.Machine
end

