-- ==== Sys2Proof/Machine/ModeOps.lean ====
section
/-! DEFINITION. What the blocks do together at mode changes: leaving RUN, entry to JOIN, SETUP and REST, the
ends of the flushes, wakes, and a CLEAR. -/

namespace Sys2Proof.Machine

/-! ### Parts of a mode change -/

def isClaim (e : TxEntry) : Bool := e.cls = .claim

/-- The own claim is given up: a QUEUED CLAIM is withdrawn, the own claim becomes NONE and the grant
none (R131, R136, R145). -/
def dropClaim (s : State) : State :=
  let s1 := if s.frost.ownClaim = .queued then withdraw isClaim s else s
  s1.withFrost { s1.frost with ownClaim := .idle, granted := false }

/-- The frost guard at a departure from RUN (R145). -/
def frostDeparture (s : State) : State :=
  let s1 := dropClaim s
  s1.withFrost { s1.frost with claims := [], postThaw := none }

/-- The reversal timer ceases to take expiries; closes of windows are not handed on (R72). A scheduled
entry from JOIN is cancelled in the same way (R70). -/
def stopReversals (s : State) : State :=
  s.withRev { next := none, pendingNumber := none, gather := none, claimWindow := none,
              statusTimer := none, tally := [], listening := none, lastHeard := none }

/-- A purpose of the half-cycle work (R125). -/
def halfPurpose : Purpose → Bool
  | .midHalf _ => true
  | .endOfHalf _ => true
  | _ => false

/-- A half-cycle purpose whose set has been emptied (R117). -/
def gonePurpose : Purpose → Purpose
  | .midHalf _ => .midHalf .gone
  | .endOfHalf _ => .endOfHalf .gone
  | p => p

/-- Both sample sets are emptied; a conversion in progress has no set left to write (R117). An end INNER conversion of an
OUT half-cycle that still runs then writes neither a set nor the room temperature, the model's choice (R118;
log 59). -/
def emptySets (c : ClimateSensing) : ClimateSensing :=
  { c with
    current := emptySet
    previous := emptySet
    converting := c.converting.map fun x => { x with purposes := x.purposes.map gonePurpose } }

/-- Climate sensing at a departure from RUN: the points are no longer fixed, half-cycle purposes are
withdrawn, evaluation work ends (R125). -/
def climateDeparture (s : State) : State :=
  cutClimateJob
    (s.withClim { withdrawPurposes halfPurpose s.clim with
      midPoint := none, endPoint := none, awaiting := none })

/-- The filter supervisor at a departure from RUN: no held sample, evaluation work ends (R166, R168). -/
def filterDeparture (s : State) : State :=
  cutFilterJob (s.withFilt { s.filt with held := none })

/-- Every block ends its RUN work (R72, R87, R125, R145, R168). -/
def leaveRun (s : State) : State :=
  filterDeparture (climateDeparture (frostDeparture (cutPass (stopReversals s))))

/-- The conversion in progress loses its REST purpose: it completes and updates its sensor, and is not judged for
waking (R124, R164). -/
def forgetRestReading (c : ClimateSensing) : ClimateSensing :=
  { c with converting := c.converting.map fun x => { x with purposes := x.purposes.filter fun p => p ≠ .rest } }

/-- REST sampling stops, and a REST request still pending is withdrawn (R124, R164). -/
def stopRestSampling (s : State) : State :=
  s.withClim { forgetRestReading (withdrawPurposes (fun p => p = .rest) s.clim) with restSampling := none }

/-- The CLEAR checks marked in START are requested at the entry to SETUP or JOIN (R116). -/
def requestMarkedChecks (s : State) : State :=
  let marked := [Source.outer, .inner, .rh].filter fun src => (sensorOf s.clim src).clearMark
  let c := { s.clim with
    outer := { s.clim.outer with clearMark := false }
    inner := { s.clim.inner with clearMark := false }
    rhSensor := { s.clim.rhSensor with clearMark := false } }
  requestConversions (marked.map fun src => (src, Purpose.clearCheck)) (s.withClim c)

/-- A rise of the filter state to CHANGE at the service interval of P8 × 100 h (R173). -/
def compareHours (s : State) : State :=
  if paramNat s 8 * 100 ≤ s.filt.hours ∧ (s.filt.state = .clean ∨ s.filt.state = .loaded) then
    requestWrite (s.withFilt { s.filt with state := .change, runLoaded := 0, runChange := 0 })
  else s

/-! ### JOIN -/

/-- The reversal timer on entry to JOIN: it listens for 2L + 3072 counts (R54, R69). -/
def startListening (s : State) : State :=
  (stopReversals s).withRev { (stopReversals s).rev with
    listening := some (Count.later s.time.now (2 * halfLength s + listenExtra)) }

/-- Entry to JOIN, the same from START, SETUP and REST (R2, R18, R69, R76, R95, R117, R124, R145, R147,
R166, R173, R180). -/
def joinEntry (s : State) : State :=
  let s := s.withMode { s.mode with
    mode := .join, setupWindow := none, inactivity := none, setupFlush := none, leaveAsked := false }
  let s := startListening s
  let s := (haltOwn s).withOwn { (haltOwn s).own with k := none, instant := none, leaving := false }
  let s := emptyPeers s
  let s := (cutPass s).withPass
    { state := .idle, snapshot := [], record := { nodes := [], n := 0, thaws := 0 }, current := false }
  let s := fanModeEntry (setWanted .halt s)
  let s := stopRestSampling s
  let s := s.withClim (emptySets s.clim)
  let s := s.withFrost { s.frost with claims := [], granted := false, ownClaim := .idle }
  let s := s.withDemand { s.demand with restTimer := none, heldWake := none, flush := none }
  let s := s.withFilt { s.filt with held := none }
  compareHours (requestMarkedChecks s)

/-- JOIN entry at the end of SETUP: the store is written when the changed mark is set. The write is requested
before the hours are compared, so that a rise there marks a further write, the model's choice (R180, R183;
log 45). -/
def joinFromSetup (s : State) : State :=
  if s.svc.changed then joinEntry (requestWrite s) else joinEntry s

/-! ### REST -/

/-- Entry to REST as far as it is the same from RUN and JOIN (R95, R124, R147, R159, R166). -/
def restCommon (length : Nat) (s : State) : State :=
  let s := s.withMode { s.mode with mode := .rest }
  let s := s.withDemand { s.demand with
    buttonBoost := none, runOn := none, humidity := .off
    restTimer := some (Count.later s.time.now length) }
  let s := s.withClim { s.clim with
    restSampling := some (Count.later s.time.now restSamplingCounts) }
  let s := s.withFilt { s.filt with held := none }
  fanModeEntry s

/-- REST applied in RUN: the departure from RUN, a LEAVE, and the flush (R160). -/
def restFromRun (length : Nat) (s : State) : State :=
  let s := restCommon length (leaveRun s)
  let s := s.withOwn { s.own with leaving := true }
  let s := queueLeave s
  s.withDemand { s.demand with flush := some (Count.later s.time.now flushCounts) }

/-- REST applied in JOIN: no LEAVE, no flush, and a scheduled entry to RUN is cancelled (R161). -/
def restFromJoin (length : Nat) (s : State) : State :=
  haltOwn (restCommon length (stopReversals s))

/-- The length of REST that ARG asks for (R159). -/
def restLength (arg : Nat) : Nat := if arg = 0 then eightHourCounts else arg * tenMinuteCounts

/-! ### Wakes (R162 to R164) -/

/-- A wake after the flush: JOIN is entered and a WAKE is queued for a local cause (R163). -/
def wakeStation (mark : Bool) (s : State) : State :=
  if mark then queueWake (joinEntry s) else joinEntry s

/-- A wake held during the flush: the first cause is recorded, and the WAKE mark is set by a press
(R162). -/
def holdWake (cause : WakeCause) (mark : Bool) (s : State) : State :=
  s.withDemand { s.demand with
    heldWake := match s.demand.heldWake with
      | none => some { cause := cause, mark := mark }
      | some w => some { w with mark := w.mark || mark } }

/-- A wake in REST: held during the flush, carried out after it (R162, R163). -/
def takeWake (cause : WakeCause) (mark : Bool) (s : State) : State :=
  if s.demand.flush.isSome then holdWake cause mark s else wakeStation mark s

/-- The REST flush ends: the stop request, then a held wake (R160, R162). -/
def endRestFlush (s : State) : State :=
  let held := s.demand.heldWake
  let s := modeStop (s.withDemand { s.demand with flush := none, heldWake := none })
  match held with
  | some w => wakeStation w.mark s
  | none => s

/-! ### SETUP -/

/-- What SETUP entry does from every mode (R39, R145, R147, R166, R176, R180). -/
def setupCommon (s : State) : State :=
  let s := s.withMode { s.mode with
    mode := .setup, setupWindow := none, leaveAsked := false
    inactivity := some (Count.later s.time.now inactivityCounts) }
  let s := emptyQueue s
  let s := s.withLine { s.line with faultCount := 0, cutOff := none }
  let s := emptyPeers s
  let s := s.withFrost { s.frost with
    stage := .noFrost, severity := 0, rise := 0, fall := 0, warm := 0, lockHalves := 0
    thawHalves := 0, failed := 0, cause := none
    holdOff := if s.frost.stage = .thaw then 6 else s.frost.holdOff }
  let s := s.withDemand { s.demand with
    buttonBoost := none, runOn := none, humidity := .off, dryGuard := false, dryCount := 0
    slot := none, restTimer := none, flush := none, heldWake := none }
  requestMarkedChecks (fanModeEntry s)

/-- SETUP ENTER applied in the SETUP window of START: no LEAVE and no flush (R178). -/
def setupFromStart (s : State) : State := setupCommon s

/-- Direction, D, C and F are written at an entry from another mode than RUN; at an entry from RUN they wait for the
fan to stop (R2). At SETUP ENTER in REST with the fan still turning, R2 writes them at the entry, R111 and R179 at fan
stopped: the model follows R2, its own choice (log 52). -/
def haltUnlessRun (m : Mode) (s : State) : State := if m = .run then s else haltOwn s

/-- SETUP ENTER applied in JOIN, RUN or REST (R2, R179). -/
def setupFromModes (s : State) : State :=
  let s := haltUnlessRun s.mode.mode (setupCommon (stopRestSampling (leaveRun s)))
  let s := s.withOwn { s.own with leaving := true }
  let s := queueLeave s
  let s := s.withMode { s.mode with setupFlush := some (Count.later s.time.now flushCounts) }
  modeStop s

/-- The SETUP flush ends; a SETUP LEAVE applied during it now leads to JOIN (R179, R180). -/
def endSetupFlush (s : State) : State :=
  let asked := s.mode.leaveAsked
  let s := s.withMode { s.mode with setupFlush := none, leaveAsked := false }
  if asked then joinFromSetup s else s

/-- A flush ends at the moment its notices have left the queue: the REST flush with an empty queue (R160),
the SETUP flush with no LEAVE in it (R179; log 31). -/
def settleFlush (s : State) : State :=
  if s.mode.mode = .rest ∧ s.demand.flush.isSome ∧ queueEmpty s then endRestFlush s
  else if s.mode.mode = .setup ∧ s.mode.setupFlush.isSome ∧ ¬ leaveQueued s then endSetupFlush s
  else s

/-! ### CLEAR (R185) -/

/-- The sensors latched for SENSOR FAULT. -/
def latchedSources (s : State) : List Source :=
  [Source.outer, .inner, .rh].filter fun src => (sensorOf s.clim src).latched

/-- Marks a CLEAR check in START (R116). -/
def markChecks (c : ClimateSensing) : List Source → ClimateSensing
  | [] => c
  | src :: rest => markChecks (withSensor c src { sensorOf c src with clearMark := true }) rest

/-- A CLEAR: each latched sensor gets a CLEAR check, at once or marked in START, and a latched FAN STALL
gets a PENDING trial (R107, R116, R185). -/
def clearLatches (s : State) : State :=
  let s1 :=
    if s.mode.mode = .start then s.withClim (markChecks s.clim (latchedSources s))
    else requestConversions ((latchedSources s).map fun src => (src, Purpose.clearCheck)) s
  if s1.fan.latch.isSome ∧ s1.fan.trial = .idle then s1.withFan { s1.fan with trial := .pending } else s1

end Sys2Proof.Machine
end

