-- ==== Sys2Proof/Machine/Frost.lean ====
section
/-! DEFINITION. The frost guard: severity, stages, THAW, LOCKOUT, claims and grants (R127 to R145). -/

namespace Sys2Proof.Machine

/-- A result of a climate evaluation as the frost guard receives it (R123). -/
structure FrostResult where
  stage        : FrostStage
  tOutdoor     : Option Int
  source       : OutdoorSource
  tOe          : Option Int
  ratio        : Nat
  computed     : Bool
  mean         : Option Nat
  outerLatched : Bool
  deriving DecidableEq, Repr

/-- A count that saturates at 65,535 (R127). -/
def bump16 (n : Nat) : Nat := min (n + 1) 65535

/-! ### Severity (R128) -/

/-- The base severity of an outer-exhaust temperature (R128). -/
def baseSeverity (tOe : Int) : Nat :=
  if 10 < tOe then 0 else min (1 + ((10 - tOe) / 15).toNat) 7

/-- The ratio has fallen 150 or more below its mean at T_oe of 0 or below (R128). -/
def ratioFell (r : FrostResult) (tOe : Int) : Bool :=
  match r.mean with
  | some m => r.computed && decide (tOe ≤ 0) && decide (r.ratio + 150 ≤ m)
  | none => false

/-- The severity after a result; it is kept when T_oe is unavailable (R128). -/
def severityAfter (r : FrostResult) (old : Nat) : Nat :=
  match r.tOe with
  | some t => if ratioFell r t then min (baseSeverity t + 1) 7 else baseSeverity t
  | none => old

/-! ### Changes of stage (R127, R131, R134) -/

/-- A change of stage: the consecutive counts become 0; leaving CLAIMING gives the claim up; entry to
NONE clears the failed-thaw count (R127, R131, R134). The ceiling is recomputed by the caller. -/
def moveStage (st : FrostStage) (s : State) : State :=
  if s.frost.stage = st then s
  else
    let s1 := if s.frost.stage = .claiming then dropClaim s else s
    s1.withFrost { s1.frost with
      stage := st, rise := 0, fall := 0, warm := 0
      failed := if st = .noFrost then 0 else s1.frost.failed }

/-- A change of stage inside a half-cycle, with the ceiling recomputed (R109, R131). -/
def changeStage (st : FrostStage) (s : State) : State := recomputeCeil (moveStage st s)

/-- Entry to LOCKOUT (R136): a running THAW ends with hold-off 6, the claim and the post-thaw window go, a
store write is requested, and the direction becomes HALT. -/
def enterLockout (cause : LockCause) (s : State) : State :=
  let s1 := dropClaim s
  let s2 := moveStage .lockout (s1.withFrost { s1.frost with
    holdOff := if s1.frost.stage = .thaw then 6 else s1.frost.holdOff
    thawHalves := 0 })
  let s3 := s2.withFrost { s2.frost with cause := some cause, lockHalves := 0, postThaw := none }
  haltInside (requestWrite s3)

/-- The end of a lockout: stage NONE, its counts and its cause cleared (R137). -/
def endLockout (s : State) : State :=
  let s1 := moveStage .noFrost s
  s1.withFrost { s1.frost with cause := none, warm := 0, lockHalves := 0, failed := 0 }

/-! ### Applying an evaluation (R129) -/

/-- The LOCKOUT judgement while in LOCKOUT (R135, R137). -/
def judgeInLockout (p10 : Int) (t : Int) (s : State) : State :=
  if t ≤ p10 then
    s.withFrost { s.frost with
      warm := 0
      cause := some .cold
      lockHalves := if s.frost.cause = some LockCause.failed then 0 else s.frost.lockHalves }
  else if p10 + 30 ≤ t then
    if s.frost.warm + 1 < 2 then s.withFrost { s.frost with warm := s.frost.warm + 1 }
    else endLockout s
  else s.withFrost { s.frost with warm := 0 }

/-- Part 2 of R129: the LOCKOUT judgement from T_outdoor, own or borrowed (R135, R137). -/
def judgeLockout (r : FrostResult) (s : State) : State :=
  match r.tOutdoor with
  | none => s
  | some t =>
    if s.frost.stage = .lockout then judgeInLockout (param s 10) t s
    else if t ≤ param s 10 then enterLockout .cold s
    else s

/-- The stage that the fault hold gives by the borrowed outdoor temperature (R138). -/
def heldStage (tOutdoor : Option Int) (st : FrostStage) : FrostStage :=
  match st with
  | .thaw => .thaw
  | .lockout => .lockout
  | _ =>
    match tOutdoor with
    | some t => if 0 < t then .noFrost else .trim
    | none => .trim

/-- Part 3 of R129: the fault hold while OUTER is latched; the post-thaw window closes (R138). -/
def faultHold (r : FrostResult) (s : State) : State :=
  let s1 := s.withFrost { s.frost with postThaw := none }
  changeStage (heldStage r.tOutdoor s1.frost.stage) s1

def setRise (n : Nat) (s : State) : State := s.withFrost { s.frost with rise := n, fall := 0 }

def setFall (n : Nat) (s : State) : State := s.withFrost { s.frost with rise := 0, fall := n }

/-- The stage transitions by severity (R130). -/
def stageTransition (s : State) : State :=
  match s.frost.stage with
  | .noFrost => if 1 ≤ s.frost.severity then changeStage .watch s else s
  | .watch =>
    if 2 ≤ s.frost.severity then
      if s.frost.rise + 1 < 2 then setRise (s.frost.rise + 1) s else changeStage .trim s
    else if s.frost.severity = 0 then
      if s.frost.fall + 1 < 2 then setFall (s.frost.fall + 1) s else changeStage .noFrost s
    else setRise 0 s
  | .trim =>
    if 3 ≤ s.frost.severity then
      if s.frost.rise + 1 < 3 then setRise (s.frost.rise + 1) s
      else if s.frost.holdOff = 0 then changeStage .claiming s
      else setRise 3 s
    else if s.frost.severity ≤ 1 then
      if s.frost.fall + 1 < 2 then setFall (s.frost.fall + 1) s else changeStage .watch s
    else setRise 0 s
  | .claiming => if s.frost.severity < 3 then changeStage .trim s else s
  | .thaw => s
  | .lockout => s

/-- A thaw has failed: the failed counts rise, and the third failure in a row locks the station out
(R134). -/
def thawFailed (s : State) : State :=
  let s1 := s.withFrost { s.frost with
    postThaw := none
    failed := min (s.frost.failed + 1) 3
    failedTotal := bump16 s.frost.failedTotal }
  if s1.frost.failed = 3 then enterLockout .failed s1 else s1

/-- The post-thaw judgement (R134). -/
def judgeThaw (s : State) : State :=
  match s.frost.postThaw with
  | none => s
  | some w =>
    if s.frost.severity < 3 then s.withFrost { s.frost with postThaw := none, failed := 0 }
    else if w.seen = 0 then s.withFrost { s.frost with postThaw := some { seen := 1, high := true } }
    else if w.high then thawFailed s
    else s.withFrost { s.frost with postThaw := none }

/-- A thaw evaluation: the stage it carries is THAW, or it meets the stage THAW (R129). -/
def thawEvaluation (r : FrostResult) (s : State) : Bool :=
  r.stage = .thaw || s.frost.stage = .thaw

/-- Parts 3 and 4 of R129. -/
def judgeStage (r : FrostResult) (s : State) : State :=
  if r.outerLatched then faultHold r s
  else if r.tOe.isNone then s
  else judgeThaw (stageTransition s)

/-- Whether part 2 of R129 entered or left LOCKOUT, which ends the application. -/
def lockoutMoved (before after : State) : Bool :=
  (before.frost.stage = .lockout) != (after.frost.stage = .lockout)

/-- The frost guard applies a climate evaluation result. A thaw evaluation that carries OUTER latched makes parts 1
and 2 alone and leaves the post-thaw window open, the model's choice (R129, R138; log 42). -/
def applyFrost (r : FrostResult) (s : State) : State :=
  let s1 := s.withFrost { s.frost with severity := severityAfter r s.frost.severity }
  let s2 := judgeLockout r s1
  if lockoutMoved s1 s2 || thawEvaluation r s then s2 else judgeStage r s2

/-! ### The own reversal expiry (R132, R133, R137, R139) -/

/-- The frost guard's changes at an own reversal expiry in RUN, before the direction is written: the
hold-off counts down, a grant begins THAW, THAW advances or ends, a LOCKOUT of cause FAILED counts; the
claim list is emptied (R132, R133, R137, R141). -/
def frostExpiry (s : State) : State :=
  let s := s.withFrost { s.frost with holdOff := s.frost.holdOff - 1 }
  let s :=
    match s.frost.stage with
    | .claiming =>
      if s.frost.granted then
        let s1 := moveStage .thaw s
        s1.withFrost { s1.frost with thawHalves := 1, thawTotal := bump16 s1.frost.thawTotal }
      else s
    | .thaw =>
      if s.frost.thawHalves < 4 then
        s.withFrost { s.frost with thawHalves := s.frost.thawHalves + 1 }
      else
        let s1 := moveStage .trim s
        s1.withFrost { s1.frost with
          thawHalves := 0, holdOff := 6, postThaw := some { seen := 0, high := false } }
    | .lockout =>
      if s.frost.cause = some LockCause.failed then
        if s.frost.lockHalves + 1 < 20 then
          s.withFrost { s.frost with lockHalves := s.frost.lockHalves + 1 }
        else endLockout s
      else s
    | _ => s
  s.withFrost { s.frost with claims := [], ownClaim := .idle, granted := false }

/-- The CLAIM of an expiry at which the stage is CLAIMING and the grant is none: urgent at severity 4 or
more; in CUT OFF it is discarded and the own claim stays NONE (R25, R139). -/
def queueClaim (s : State) : State :=
  if s.frost.stage = .claiming ∧ s.frost.granted = false then
    let e := newEntry .claim (4 ≤ s.frost.severity) s.own.node false
      (claimBytes (s.own.k.getD 0) s.frost.severity)
    let s1 := queueNotice e s
    if lineState s = .cutOff then s1 else s1.withFrost { s1.frost with ownClaim := .queued }
  else s

/-! ### The claim list (R140 to R142) -/

/-- The conditions under which a claim enters the list (R141). -/
def claimQualifies (s : State) (node : Nat) (k : HalfNo) (start : Count) : Bool :=
  match s.own.instant with
  | some i =>
    s.mode.mode = .run && s.own.k = some k && decide (0 ≤ Count.since start i)
      && decide (Count.since start i < claimWindowCounts) && !(s.frost.claims.any fun c => c.node = node)
  | none => false

/-- Places a claim by its frame start instant, counted from the own reversal instant (R141). -/
def placeClaim (s : State) (c : Claim) : List Claim :=
  insertOrd (fun x => Count.since x.start (s.own.instant.getD 0)) c s.frost.claims

/-- A received CLAIM (R141). -/
def receiveClaim (node : Nat) (k : HalfNo) (severity : Nat) (start : Count) (s : State) : State :=
  if claimQualifies s node k start then
    s.withFrost { s.frost with
      claims := placeClaim s { node := node, k := k, severity := severity, start := start } }
  else s

/-- The free thaw slots: Z = max(1, n / 4) less the THAW count of the pass record (R142). -/
def freeSlots (r : PassRecord) : Int := (max 1 (r.n / 4) : Nat) - (r.thaws : Int)

/-- The position of a claim that starts at `start`: 1 plus the number of entries that start earlier
(R142). -/
def claimPosition (s : State) (start : Count) : Nat :=
  1 + (s.frost.claims.filter fun c =>
    Count.since c.start (s.own.instant.getD 0) < Count.since start (s.own.instant.getD 0)).length

/-- The report of the own CLAIM's clean send: it enters the list, its position is fixed, and in CLAIMING
the grant is decided. A report that fails the conditions of R141 leaves the own claim as it is, the model's
choice (R142; log 41). -/
def placeOwnClaim (k : HalfNo) (severity : Nat) (start : Count) (s : State) : State :=
  if claimQualifies s s.own.node k start then
    let pos := claimPosition s start
    s.withFrost { s.frost with
      claims := placeClaim s { node := s.own.node, k := k, severity := severity, start := start }
      ownClaim := .placed pos
      granted := if s.frost.stage = .claiming then decide ((pos : Int) ≤ freeSlots s.pass.record)
                 else s.frost.granted }
  else s

/-- The close of the claim window: a QUEUED own CLAIM is withdrawn; with no entry of it left on the line
the own claim becomes NONE (R139, R140). -/
def closeClaims (s : State) : State :=
  if s.frost.ownClaim = .queued then
    let s1 := withdraw isClaim s
    if s1.line.txq.any isClaim then s1 else s1.withFrost { s1.frost with ownClaim := .idle }
  else s

end Sys2Proof.Machine
end

