-- ==== Sys2Proof/Machine/Demand.lean ====
section
/-! DEFINITION. The demand unit: levels and want, humidity boost, dry guard, the button, and the commands of
its timers (R147 to R164). -/

namespace Sys2Proof.Machine

open Host (Outcome)

/-! ### Level and want (R148 to R150) -/

/-- A boost source is active (R150). -/
def boostActive (s : State) : Bool :=
  s.demand.buttonBoost.isSome || s.demand.humidity ≠ .off ||
    (match s.demand.slot with
     | some h => h.level = .boost
     | none => false)

/-- The demand level as it resolves now, by the first case that applies (R150). -/
def resolveLevel (s : State) : Level :=
  if boostActive s then .boost
  else match s.demand.slot with
    | some h => h.level
    | none => if s.demand.dryGuard then .setback else .base

/-- The flow of a level: P1 to P4 (R148). -/
def levelFlow (s : State) : Level → Nat
  | .setback => paramNat s 1
  | .base => paramNat s 2
  | .raised => paramNat s 3
  | .boost => paramNat s 4

/-- D for a level: capped at the SETBACK flow in CUT OFF, and 0 while the direction is HALT (R4, R148,
R149). -/
def wantFor (s : State) (level : Level) : Nat :=
  if s.own.direction = .halt then 0
  else if lineState s = .cutOff then min (levelFlow s level) (paramNat s 1)
  else levelFlow s level

/-- Level and D at an own reversal expiry, for the direction just written (R148). -/
def writeWant (s : State) : State :=
  s.withOwn { s.own with level := resolveLevel s, want := wantFor s (resolveLevel s) }

/-! ### Humidity boost (R152, R153) -/

/-- The humidity threshold of a room kind, from the band P5; none at DRY and HALL stations (R152). The table of R152
has the bands 0 to 3: for another P5, which only a checked store image can bring, the same line goes on, the model's
choice (log 49). -/
def humidityThreshold (s : State) : Option Int :=
  match s.own.room with
  | .wet => some (60 + 5 * param s 5)
  | .kitchen => some (65 + 5 * param s 5)
  | .dry => none
  | .hall => none

/-- The rise of RH is 6 or more; not met without a previous RH (R152). -/
def rhRises (rh : Int) (prev : Option Int) : Bool :=
  match prev with
  | some p => decide (6 ≤ rh - p)
  | none => false

/-- The humidity boost after a result with RH available (R152). Without a previous RH the rise counts as below 6 for
the end too, so that an ACTIVE boost can end, the model's choice (log 58). -/
def judgeHumidity (threshold rh : Int) (prev : Option Int) (s : State) : State :=
  if threshold ≤ rh ∨ rhRises rh prev = true then
    s.withDemand { s.demand with humidity := .active, runOn := none }
  else if s.demand.humidity = .active ∧ rh < threshold - 5 then
    s.withDemand { s.demand with
      humidity := .runOn, runOn := some (Count.later s.time.now (runOnLength s)) }
  else s

/-- The humidity boost at a climate evaluation result (R152). -/
def applyHumidity (rh prev : Option Int) (s : State) : State :=
  match humidityThreshold s, rh with
  | some threshold, some v => judgeHumidity threshold v prev s
  | _, _ => s

/-! ### Dry guard (R156) -/

/-- The guard goes off: RH available at 35 or more, or T_outdoor available at 30 or more (R156). -/
def guardEnds (rh tOutdoor : Option Int) : Bool :=
  (match rh with
   | some v => decide (35 ≤ v)
   | none => false) ||
  (match tOutdoor with
   | some t => decide (30 ≤ t)
   | none => false)

/-- The dry guard at a climate evaluation result (R156). -/
def applyDryGuard (rh tOutdoor : Option Int) (s : State) : State :=
  if s.demand.dryGuard then
    if guardEnds rh tOutdoor then s.withDemand { s.demand with dryGuard := false } else s
  else
    match rh, tOutdoor with
    | some v, some t =>
      if v ≤ 30 ∧ t ≤ 0 then
        if s.demand.dryCount + 1 < 2 then
          s.withDemand { s.demand with dryCount := s.demand.dryCount + 1 }
        else s.withDemand { s.demand with dryGuard := true, dryCount := 0 }
      else s.withDemand { s.demand with dryCount := 0 }
    | _, _ => s

/-! ### The button (R154, R155) -/

/-- A press is taken: in REST it is a wake, held during the flush, and not timed further; in any other
mode it is timed (R154, R155, R163). -/
def pressButton (s : State) : State :=
  if s.demand.button.isSome then s
  else
    let s1 := s.withDemand { s.demand with
      button := some { since := s.time.now, timed := s.mode.mode ≠ .rest } }
    if s.mode.mode = .rest then takeWake .press true s1 else s1

def execButtonPress (t : Count) (s : State) : Outcome State Fault Refusal :=
  .next (finish (pressButton (advanceTo t s)))

/-- The effect of a release by the press length, in RUN and JOIN (R154). -/
def releaseEffect (length : Int) (s : State) : State :=
  if length < 2048 then
    s.withDemand { s.demand with buttonBoost := some (Count.later s.time.now (runOnLength s)) }
  else if 3072 ≤ length ∧ length < 9216 then
    s.withDemand { s.demand with buttonBoost := none, humidity := .off, runOn := none }
  else s

/-- A release is taken, judged by the mode in force (R154, R155). -/
def releaseButton (s : State) : State :=
  match s.demand.button with
  | none => s
  | some p =>
    let s1 := s.withDemand { s.demand with button := none }
    if p.timed ∧ (s.mode.mode = .run ∨ s.mode.mode = .join) then
      releaseEffect (Count.since s.time.now p.since) s1
    else s1

def execButtonRelease (t : Count) (s : State) : Outcome State Fault Refusal :=
  .next (finish (releaseButton (advanceTo t s)))

/-- A timed press reaches its 10 s mark: a CLEAR, and its release has no effect (R154, R155). -/
def holdButton (s : State) : State :=
  match s.demand.button with
  | some p =>
    if p.timed then
      let s1 := advanceTo (Count.later p.since pressHoldCounts) s
      clearLatches (s1.withDemand { s1.demand with button := some { p with timed := false } })
    else s
  | none => s

def execButtonHold10s (s : State) : Outcome State Fault Refusal := .next (finish (holdButton s))

/-! ### Timers -/

def endButtonBoost (s : State) : State :=
  match s.demand.buttonBoost with
  | some i =>
    let s1 := advanceTo i s
    s1.withDemand { s1.demand with buttonBoost := none }
  | none => s

/-- The button boost expires (R154). -/
def execButtonBoostExpiry (s : State) : Outcome State Fault Refusal := .next (finish (endButtonBoost s))

def endRunOn (s : State) : State :=
  match s.demand.runOn with
  | some i =>
    let s1 := advanceTo i s
    s1.withDemand { s1.demand with runOn := none, humidity := .off }
  | none => s

/-- The humidity run-on timer expires (R153). -/
def execHumidityRunOnExpiry (s : State) : Outcome State Fault Refusal := .next (finish (endRunOn s))

def endHold (s : State) : State :=
  match s.demand.slot with
  | some h =>
    match h.hold with
    | some i =>
      let s1 := advanceTo i s
      s1.withDemand { s1.demand with slot := none }
    | none => s
  | none => s

/-- The hold of a house request expires (R157). -/
def execHoldExpiry (s : State) : Outcome State Fault Refusal := .next (finish (endHold s))

def restTimerEnds (s : State) : State :=
  match s.demand.restTimer with
  | some i =>
    if s.mode.mode = .rest then
      let s1 := advanceTo i s
      takeWake .restTimer false (s1.withDemand { s1.demand with restTimer := none })
    else s
  | none => s

/-- The REST timer expires: a wake, held during the flush (R159, R162, R163). -/
def execRestTimerExpiry (s : State) : Outcome State Fault Refusal := .next (finish (restTimerEnds s))

/-- The REST flush ends: with notices still queued at its end instant the LEAVE is withdrawn (R160). -/
def restFlushEnds (s : State) : State :=
  match s.demand.flush with
  | some i =>
    if s.mode.mode = .rest then
      if queueEmpty s then endRestFlush s else endRestFlush (withdraw isLeave (advanceTo i s))
    else s
  | none => s

def execRestFlushEnd (s : State) : Outcome State Fault Refusal := .next (finish (restFlushEnds s))

/-! ### House requests (R157 to R161) -/

/-- LEVEL fills the house request slot in JOIN, RUN and REST (R157, R158). -/
def applyLevel (node : Nat) (level : Level) (hold : Nat) (s : State) : State :=
  if s.mode.mode = .start ∨ s.mode.mode = .setup then s
  else
    s.withDemand { s.demand with
      slot := some
        { level := level, source := node
          hold := if hold = 0 then none else some (Count.later s.time.now (hold * tenMinuteCounts)) } }

/-- REST enters REST from RUN or JOIN, or reloads the REST timer in REST (R158 to R161). -/
def applyRest (arg : Nat) (s : State) : State :=
  match s.mode.mode with
  | .run => restFromRun (restLength arg) s
  | .join => restFromJoin (restLength arg) s
  | .rest =>
    s.withDemand { s.demand with restTimer := some (Count.later s.time.now (restLength arg)) }
  | .start => s
  | .setup => s

/-- RESUME empties the slot that its source set, outside REST; in REST it wakes (R158). -/
def applyResume (node : Nat) (s : State) : State :=
  match s.mode.mode with
  | .rest => takeWake .resume false s
  | .start => s
  | .setup => s
  | _ =>
    match s.demand.slot with
    | some h => if h.source = node then s.withDemand { s.demand with slot := none } else s
    | none => s

/-- WAKE wakes a station in REST and has no effect elsewhere (R158). -/
def applyWake (s : State) : State := if s.mode.mode = .rest then takeWake .wake false s else s

end Sys2Proof.Machine
end

