-- ==== Sys2Proof/Machine/Climate.lean ====
section
/-! DEFINITION. Climate sensing: the points of a half-cycle, conversions and their readings, climate evaluations, and
sampling in REST (R114 to R125). -/

namespace Sys2Proof.Machine

open Host (Outcome)

/-! ### Sample sets and points at an own reversal expiry (R117, R118) -/

/-- The half-cycle of a tag, one own reversal later. -/
def olderTag : HalfTag → HalfTag
  | .current => .previous
  | .previous => .gone
  | .gone => .gone

def olderPurpose : Purpose → Purpose
  | .midHalf h => .midHalf (olderTag h)
  | .endOfHalf h => .endOfHalf (olderTag h)
  | p => p

/-- A due evaluation of the ending half-cycle keeps its previous set; one older than that has lost its
set. -/
def olderAwaiting (previous : SampleSet) (a : Awaiting) : Option Awaiting :=
  match a.half with
  | .current => some { a with half := .previous, previous := previous }
  | _ => none

/-- The current set becomes the previous set, and a new current set starts with the direction just written
(R117). -/
def shiftSets (direction : Dir) (c : ClimateSensing) : ClimateSensing :=
  { c with
    current := { emptySet with direction := direction }
    previous := c.current
    converting := c.converting.map fun x => { x with purposes := x.purposes.map olderPurpose }
    waitOuter := c.waitOuter.map olderPurpose
    waitInner := c.waitInner.map olderPurpose
    waitRh := c.waitRh.map olderPurpose
    awaiting := c.awaiting.bind (olderAwaiting c.previous) }

/-- The mid-half point of a half-cycle from `instant`, if it falls before the end-of-half point (R118). -/
def midPointOf (s : State) (instant endPoint : Count) : Option Count :=
  if 0 < Count.since endPoint (Count.later instant (halfLength s / 2)) then
    some (Count.later instant (halfLength s / 2))
  else none

/-- Climate sensing at an own reversal expiry: new sets, and both points fixed (R117, R118). -/
def beginHalf (direction : Dir) (instant next : Count) (s : State) : State :=
  s.withClim { shiftSets direction s.clim with
    endPoint := some (Count.earlier next endPointCounts)
    midPoint := midPointOf s instant (Count.earlier next endPointCounts) }

/-! ### The points (R118, R119) -/

def takeMidPoint (s : State) : State :=
  match s.clim.midPoint with
  | some i =>
    if s.mode.mode = .run then
      let s1 := advanceTo i s
      requestConversions [(.inner, .midHalf .current)] (s1.withClim { s1.clim with midPoint := none })
    else s
  | none => s

def execMidHalfPoint (s : State) : Outcome State Fault Refusal := .next (finish (takeMidPoint s))

/-- The conversions that the end-of-half point requests: RH as well in an OUT set (R118). -/
def endSources (direction : Dir) : List Source :=
  if direction = .outward then [.outer, .inner, .rh] else [.outer, .inner]

/-- A climate evaluation is due: an OUT set, or the stage THAW or LOCKOUT (R119). -/
def evaluationDue (direction : Dir) (stage : FrostStage) : Bool :=
  direction = .outward || stage = .thaw || stage = .lockout

def takeEndPoint (s : State) : State :=
  match s.clim.endPoint with
  | some i =>
    if s.mode.mode = .run then
      let s1 := advanceTo i s
      let sources := endSources s1.clim.current.direction
      requestConversions (sources.map fun src => (src, Purpose.endOfHalf .current))
        (s1.withClim { s1.clim with
          endPoint := none
          current := { s1.clim.current with stage := some s1.frost.stage }
          awaiting :=
            if evaluationDue s1.clim.current.direction s1.frost.stage then
              some { sources := sources, half := .current, previous := s1.clim.previous }
            else s1.clim.awaiting })
    else s
  | none => s

def execEndOfHalfPoint (s : State) : Outcome State Fault Refusal := .next (finish (takeEndPoint s))

/-- The REST sampling timer expires: it is reloaded, and the three sensors are requested (R124). -/
def takeRestSampling (s : State) : State :=
  match s.clim.restSampling with
  | some i =>
    if s.mode.mode = .rest then
      let s1 := advanceTo i s
      requestConversions [(.outer, .rest), (.inner, .rest), (.rh, .rest)]
        (s1.withClim { s1.clim with restSampling := some (Count.later i restSamplingCounts) })
    else s
  | none => s

def execRestSamplingTimerExpiry (s : State) : Outcome State Fault Refusal :=
  .next (finish (takeRestSampling s))

/-! ### Judging a result (R115, R116) -/

/-- The value of a valid result, or none (R115). -/
def judgeResult (src : Source) (result : Int) : Option Int :=
  match src with
  | .rh => if result < 0 then none else some (min result 100)
  | _ => if -400 ≤ result ∧ result ≤ 600 then some result else none

/-- A sensor after a judged result; `check` marks a CLEAR check among the purposes (R115, R116). -/
def judgeSensor (valid : Option Int) (check : Bool) (x : Sensor) : Sensor :=
  match valid with
  | some v => { x with held := some v, invalid := 0, latched := x.latched && !check }
  | none =>
    if x.latched then x
    else if x.invalid + 1 < 3 then { x with invalid := x.invalid + 1 }
    else { x with invalid := 0, latched := true }

/-- The reading delivered, by the judged sensor; that of a latched sensor is absent (R115, R116). -/
def readingOf (valid : Option Int) (x : Sensor) : Reading :=
  if x.latched then .absent
  else match valid, x.held with
    | some v, _ => .fresh v
    | none, some v => .held v
    | none, none => .absent

/-! ### Delivery (R115, R118) -/

/-- Writes a half-cycle reading into a set (R118). -/
def putReading (src : Source) (purpose : Purpose) (r : Reading) (x : SampleSet) : SampleSet :=
  match purpose, src with
  | .midHalf _, .inner => { x with midInner := r }
  | .endOfHalf _, .outer => { x with endOuter := r }
  | .endOfHalf _, .inner => { x with endInner := r }
  | .endOfHalf _, .rh => { x with endRh := r }
  | _, _ => x

/-- The half-cycle of a purpose; `gone` for the purposes outside RUN. -/
def purposeHalf : Purpose → HalfTag
  | .midHalf h => h
  | .endOfHalf h => h
  | _ => .gone

/-- A reading goes into the set of the half-cycle in which it was requested (R118). -/
def deliverSet (src : Source) (r : Reading) (c : ClimateSensing) (p : Purpose) : ClimateSensing :=
  match purposeHalf p with
  | .current => { c with current := putReading src p r c.current }
  | .previous => { c with previous := putReading src p r c.previous }
  | .gone => c

/-- The direction of the set of a half-cycle. -/
def setDirection (c : ClimateSensing) : HalfTag → Option Dir
  | .current => some c.current.direction
  | .previous => some c.previous.direction
  | .gone => none

/-- The purposes hold an end-of-half reading of an OUT set (R118). -/
def endsOutHalf (c : ClimateSensing) (ps : List Purpose) : Bool :=
  ps.any fun p => match p with
    | .endOfHalf h => setDirection c h = some .outward
    | _ => false

/-- What a judged result writes into the own climate part: RH at every valid RH result, room at a fresh end
INNER reading of an OUT set, and invalid for the temperature of a latched sensor. After a latched INNER is
cleared room stays invalid until the next such reading, the model's choice (R7, R115, R116, R118; log 38). -/
def writeClimatePart (src : Source) (valid : Option Int) (latched outEnd : Bool) (o : OwnRecord) :
    OwnRecord :=
  match src with
  | .outer => if latched then { o with outdoor := none } else o
  | .inner =>
    if latched then { o with roomTemp := none }
    else if outEnd ∧ valid.isSome then { o with roomTemp := valid } else o
  | .rh =>
    match valid with
    | some v => { o with rh := v.toNat }
    | none => o

/-! ### The inputs of an evaluation (R119 to R121) -/

/-- An input is available when its reading is fresh or held and its sensor is not latched (R120). -/
def inputOf (x : Sensor) (r : Reading) : Option Int :=
  if x.latched then none
  else match r with
    | .fresh v => some v
    | .held v => some v
    | _ => none

/-- The least of some values. -/
def leastOf : List Int → Option Int
  | [] => none
  | v :: vs => some (vs.foldl min v)

/-- The climate parts offered for borrowing: fresh, with a valid outdoor value (R16, R121). -/
def offered (rs : List PeerRecord) : List (Facade × Int) :=
  rs.filterMap fun r => r.climate.bind fun c => if c.age < 8 then c.outdoor.map fun v => (c.facade, v) else none

/-- The borrowed outdoor temperature: the lowest of the own facade, or else the lowest of all (R121). -/
def borrowedOutdoor (s : State) : Option Int :=
  let all := offered s.peers.records
  match leastOf ((all.filter fun x => x.1 = s.own.facade).map fun x => x.2) with
  | some v => some v
  | none => leastOf (all.map fun x => x.2)

/-- T_outdoor from the own sensor (R120). -/
def ownOutdoor (outer : Sensor) (thawing : Bool) (current previous : SampleSet) : Option Int :=
  if thawing then inputOf outer current.endOuter
  else if previous.direction = .inward ∧ previous.endOuter ≠ .notTaken then inputOf outer previous.endOuter
  else if outer.latched then none else outer.held

/-- The outdoor source of a T_outdoor (R120). -/
def outdoorSource (latched : Bool) (t : Option Int) : OutdoorSource :=
  match t with
  | none => .missing
  | some _ => if latched then .borrowed else .own

/-- The inputs as fixed at a request, from the set of the half-cycle and the one before it (R120, R121). -/
def fixInputs (s : State) (current previous : SampleSet) : EvalInputs :=
  let stage := current.stage.getD .noFrost
  let thawing := decide (stage = .thaw ∨ stage = .lockout)
  let latched := s.clim.outer.latched
  let t := if latched then borrowedOutdoor s else ownOutdoor s.clim.outer thawing current previous
  { stage := stage
    tOutdoor := t
    source := outdoorSource latched t
    tSup := if thawing = false ∧ previous.direction = .inward
            then inputOf s.clim.inner previous.midInner else none
    tRoom := inputOf s.clim.inner current.endInner
    tOe := inputOf s.clim.outer current.endOuter
    rh := inputOf s.clim.rhSensor current.endRh
    prevRh := s.clim.lastRh
    outerLatched := latched
    afterIn := previous.direction = .inward }

/-- The inputs of a due evaluation of the half-cycle `a.half`. -/
def inputsFor (s : State) (a : Awaiting) : EvalInputs :=
  match a.half with
  | .current => fixInputs s s.clim.current s.clim.previous
  | _ => fixInputs s s.clim.previous a.previous

/-- A completed end-of-half conversion; the last one that a due evaluation waits for requests it (R119). -/
def settleAwaiting (src : Source) (ps : List Purpose) (s : State) : State :=
  match s.clim.awaiting with
  | some a =>
    if Purpose.endOfHalf a.half ∈ ps then
      let left := a.sources.filter fun x => x ≠ src
      if left = [] then requestClimate (inputsFor s a) (s.withClim { s.clim with awaiting := none })
      else s.withClim { s.clim with awaiting := some { a with sources := left } }
    else s
  | none => s

/-! ### CONVERSION_COMPLETE -/

/-- The converter is idle again; the pending request of highest priority starts (R114). -/
def converterGoesOn (s : State) : State := s.withClim (startConversion s.clim)

/-- The RH reading of REST sampling that wakes the station: available, 85 or more, at a WET or KITCHEN
station, in REST after the flush (R124, R163). -/
def humidityWakes (s : State) (src : Source) (ps : List Purpose) (r : Reading) : Bool :=
  s.mode.mode = .rest && s.demand.flush.isNone && src = .rh && ps.contains .rest
    && (s.own.room = .wet || s.own.room = .kitchen)
    && (match r with
      | .fresh v => decide (85 ≤ v)
      | .held v => decide (85 ≤ v)
      | _ => false)

/-- The judged result of a conversion is delivered for each of its purposes (R115, R116, R118). Where the conversion
is also the CLEAR check that ends the latch, the other purposes receive the result as fresh, by the sensor after the
check: the model's choice, since the spec does not say whether the latch held until then (log 48). -/
def deliver (src : Source) (ps : List Purpose) (valid : Option Int) (s : State) : State :=
  let x := judgeSensor valid (ps.contains .clearCheck) (sensorOf s.clim src)
  let c := ps.foldl (deliverSet src (readingOf valid x))
    (withSensor { s.clim with converting := none } src x)
  (s.withOwn (writeClimatePart src valid x.latched (endsOutHalf s.clim ps) s.own)).withClim c

/-- A conversion completes (R114 to R119, R124, R163). -/
def completeConversion (result : Int) (s : State) : State :=
  match s.clim.converting with
  | none => s
  | some x =>
    let valid := judgeResult x.source result
    let s1 := settleAwaiting x.source x.purposes (deliver x.source x.purposes valid s)
    let r := readingOf valid (sensorOf s1.clim x.source)
    if humidityWakes s1 x.source x.purposes r then
      converterGoesOn (wakeStation true (s1.withDemand { s1.demand with humidity := .active }))
    else converterGoesOn s1

def execConversionComplete (t : Count) (result : Int) (s : State) : Outcome State Fault Refusal :=
  .next (finish (completeConversion result (advanceTo t s)))

/-! ### CLIMATE_EVALUATION_COMPLETE (R122, R123) -/

/-- The recovery ratio of given temperatures (R122). -/
def recoveryRatio (tSup tOutdoor tRoom : Int) : Nat :=
  (clampInt 0 1000 (((tSup - tOutdoor) * 1000).tdiv (tRoom - tOutdoor))).toNat

/-- ρ, computed when every condition of R122 holds. -/
def computedRatio (i : EvalInputs) : Option Nat :=
  match i.tSup, i.tRoom, i.tOutdoor with
  | some sup, some room, some out =>
    if i.stage ≠ .thaw ∧ i.stage ≠ .lockout ∧ i.afterIn = true ∧ i.source = .own ∧ 30 ≤ room - out then
      some (recoveryRatio sup out room)
    else none
  | _, _, _ => none

/-- The list mean: of 8 values, truncated (R122). -/
def listMean (ratios : List Nat) : Option Nat :=
  if ratios.length = 8 then some (ratios.sum / 8) else none

/-- A new ρ joins the list, which keeps the latest 8 (R122). -/
def joinRatio (ratios : List Nat) (rho : Nat) : List Nat :=
  if ratios.length < 8 then ratios ++ [rho] else ratios.drop 1 ++ [rho]

/-- Outdoor of the own climate part after an evaluation (R7, R116, R123). -/
def outdoorAfter (latched : Bool) (i : EvalInputs) (old : Option Int) : Option Int :=
  if latched then none else if i.source = .own then i.tOutdoor else old

/-- The ratio and the own climate part at a completion (R122, R123). -/
def writeRatio (i : EvalInputs) (s : State) : State :=
  let rho := computedRatio i
  let s1 := s.withClim { s.clim with
    ratios := match rho with
      | some v => joinRatio s.clim.ratios v
      | none => s.clim.ratios
    lastRh := match i.rh with
      | some v => some v
      | none => s.clim.lastRh }
  s1.withOwn { s1.own with
    ratio := rho.getD s.own.ratio
    outdoor := outdoorAfter s.clim.outer.latched i s.own.outdoor }

/-- The result as the frost guard receives it, before the list changes (R122, R123). -/
def frostResult (i : EvalInputs) (s : State) : FrostResult :=
  { stage := i.stage, tOutdoor := i.tOutdoor, source := i.source, tOe := i.tOe,
    ratio := (computedRatio i).getD s.own.ratio, computed := (computedRatio i).isSome,
    mean := listMean s.clim.ratios, outerLatched := i.outerLatched }

/-- The result is handed to the own climate part, the frost guard and the demand unit (R123). -/
def applyEvaluation (i : EvalInputs) (s : State) : State :=
  applyDryGuard i.rh i.tOutdoor
    (applyHumidity i.rh i.prevRh (applyFrost (frostResult i s) (writeRatio i s)))

/-- The engine becomes FREE; a discarded result hands nothing on (R91, R123, R125). -/
def completeClimate (s : State) : State :=
  match s.unit.engine with
  | .climate i _ _ discard =>
    let s1 := s.withUnit { s.unit with engine := .free }
    if discard then s1 else applyEvaluation i s1
  | _ => s

def execClimateEvaluationComplete (t : Count) (s : State) : Outcome State Fault Refusal :=
  .next (finish (completeClimate (advanceTo t s)))

end Sys2Proof.Machine
end

