-- ==== Sys2Proof/Config.lean ====
section
/-! DEFINITION. The free values: results that the spec leaves open, as constants without a body. -/

namespace Sys2Proof.Config

/-- Loading of a direction whose learned reference is 0 while learning is not in progress: R169 divides
by it and states no result. Log 21. -/
opaque loadingOnZeroReference : (ratio : Nat) → Nat

/-- The multiple m of R66 and R71 when the half-cycle length is 0, where no m of the rule exists. Log 22. -/
opaque multipleOfZeroLength : (behind : Int) → Nat

/-- The 26 words, the filter state byte and the check byte, as one number, that the store holds after a power-on or
reset pin during a write (R183: the image "may fail its check"). The argument counts the uses. Log 6. -/
opaque tornImage : (use : Nat) → BitVec 432

end Sys2Proof.Config
end

