-- ==== Sys2Proof/Machine/Filter.lean ====
section
/-! DEFINITION. The filter supervisor: samples, pairs, evaluations, ceilings, filter state, hours and FILTER
RESET (R166 to R174). -/

namespace Sys2Proof.Machine

open Host (Outcome)

/-! ### Reports and samples (R112, R167, R168) -/

/-- The fan drive's report at the end of a half-cycle (R112). -/
structure FanReport where
  side      : Side
  count     : Nat
  meanDuty  : Nat
  meanSpeed : Nat
  lowest    : Nat
  deriving DecidableEq, Repr

/-- The report on the entries in RUNNING in the direction of the ending half-cycle (R112). -/
def fanReport (side : Side) (window : List StepEntry) : FanReport :=
  let es := window.filter fun e => e.state = .running ∧ e.drive = side
  { side := side
    count := es.length
    meanDuty := (es.map fun e => e.duty).sum / es.length
    meanSpeed := (es.map fun e => e.speed).sum / es.length
    lowest := (es.map fun e => e.speed).foldl min 2550 }

/-- The duty-per-speed sample of a report, if it gives one (R167). -/
def sampleOf (r : FanReport) (k : HalfNo) : Option FilterSample :=
  if r.count = 120 ∧ 300 ≤ r.lowest then
    some { side := r.side, ratio := r.meanDuty * 1000 / r.meanSpeed, k := k }
  else none

/-- The pair of two samples of opposite directions. -/
def pairOf (a b : FilterSample) : FilterPair :=
  match a.side with
  | .inward => { ratioIn := a.ratio, ratioOut := b.ratio }
  | .outward => { ratioIn := b.ratio, ratioOut := a.ratio }

/-- A sample arrives: it pairs with a held sample of the other direction and the half-cycle number one
below, requesting an evaluation, or is held. Pairs are told by direction and number alone, over an adoption
too, the model's choice (R168; log 43). -/
def takeSample (x : FilterSample) (s : State) : State :=
  match s.filt.held with
  | some h =>
    if h.side ≠ x.side ∧ h.k + 1 = x.k then
      requestFilter (pairOf h x) (s.withFilt { s.filt with held := none })
    else s.withFilt { s.filt with held := some x }
  | none => s.withFilt { s.filt with held := some x }

/-- The sample that the report on a half-cycle of direction `side` gives, handed on (R112, R167). -/
def reportHalf (side : Side) (s : State) : State :=
  match s.own.k.bind (sampleOf (fanReport side s.fan.window)) with
  | some x => takeSample x s
  | none => s

/-- At an own reversal expiry that ends a half-cycle of direction IN or OUT the fan drive hands over its report
and empties the window; one that ends HALT does neither (R112, R167). -/
def handReport (s : State) : State :=
  match sideOf s.own.direction with
  | some side =>
    let s1 := reportHalf side s
    s1.withFan { s1.fan with window := [] }
  | none => s

/-! ### The evaluation (R169 to R172) -/

/-- The loading of a direction from its ratio and its reference, clamped to 0..1000; the result of
dividing by a reference of 0 is a free value (R169; log 21). -/
def loadingOf (ratio ref : Nat) : Nat :=
  if ref = 0 then min (Config.loadingOnZeroReference ratio) 1000
  else min ((ratio - ref) * 1000 / ref) 1000

/-- The ceiling of a loading (R171). -/
def ceilOfLoading (a : Nat) : Nat := 120 * (1000 - a) / 1000

/-- The thresholds of LOADED, CHANGE and BLOCKED by the filter class P7. A P7 outside 0..1, which only a store
image can bring, counts as fine when positive and as coarse when negative, the model's choice (R172; log 44). -/
def thresholds (s : State) : Nat × Nat × Nat :=
  if paramNat s 7 = 0 then (200, 450, 700) else (150, 350, 600)

/-- A run count after an evaluation; a count of a state at or below the current one is not kept (R172). -/
def runCount (kept : Bool) (loading threshold n : Nat) : Nat :=
  if kept ∧ threshold ≤ loading then min (n + 1) 30 else 0

/-- The order of the filter states. -/
def above (a b : FilterState) : Bool := filterCode b < filterCode a

/-- The highest state whose run count has reached 30, or the state in force (R172). -/
def risenState (st : FilterState) (loaded change blocked : Nat) : FilterState :=
  if above .blocked st ∧ blocked = 30 then .blocked
  else if above .change st ∧ change = 30 then .change
  else if above .loaded st ∧ loaded = 30 then .loaded
  else st

/-- The filter state is judged from L: the run counts of the states above it are counted, and a rise drops
the counts of the states it reaches and requests a store write (R172). -/
def judgeFilter (s : State) : State :=
  let t := thresholds s
  let st := s.filt.state
  let loaded := runCount (above .loaded st) s.filt.loading t.1 s.filt.runLoaded
  let change := runCount (above .change st) s.filt.loading t.2.1 s.filt.runChange
  let blocked := runCount (above .blocked st) s.filt.loading t.2.2 s.filt.runBlocked
  let risen := risenState st loaded change blocked
  let s1 := s.withFilt { s.filt with
    state := risen
    runLoaded := if above .loaded risen then loaded else 0
    runChange := if above .change risen then change else 0
    runBlocked := if above .blocked risen then blocked else 0 }
  if risen = st then s1 else requestWrite s1

/-- Loadings, L, W and the ceilings are written (R169, R171). -/
def writeLoadings (a b : Nat) (s : State) : State :=
  s.withFilt { s.filt with
    loadIn := a, loadOut := b
    loading := (a + b) / 2
    wind := ((a : Int) - b).tdiv 2
    ceilIn := ceilOfLoading a
    ceilOut := ceilOfLoading b }

/-- A learned reference: a fourth of the sum, taken as 1 when the quotient is 0 (R170). -/
def learnedReference (sum : Nat) : Nat := max 1 (sum / 4)

/-- The pair is added to the learning sums; the fourth cycle sets the references (R170). -/
def learnPair (n : Nat) (p : FilterPair) (s : State) : State :=
  if n + 1 < 4 then
    s.withFilt { s.filt with
      learning := some (n + 1), sumIn := s.filt.sumIn + p.ratioIn, sumOut := s.filt.sumOut + p.ratioOut }
  else
    s.withFilt { s.filt with
      learning := none
      refIn := learnedReference (s.filt.sumIn + p.ratioIn)
      refOut := learnedReference (s.filt.sumOut + p.ratioOut)
      sumIn := 0, sumOut := 0 }

/-- A filter evaluation is applied in one event: learning or loadings, ceilings, the filter state, and C
(R109, R169 to R172). -/
def applyFilter (p : FilterPair) (s : State) : State :=
  match s.filt.learning with
  | some n => recomputeCeil (learnPair n p (judgeFilter (writeLoadings 0 0 s)))
  | none =>
    recomputeCeil (judgeFilter
      (writeLoadings (loadingOf p.ratioIn s.filt.refIn) (loadingOf p.ratioOut s.filt.refOut) s))

/-- The engine becomes FREE at the completion of a filter evaluation; a discarded result is not applied
(R91, R168, R174). -/
def completeFilter (s : State) : State :=
  match s.unit.engine with
  | .filter p _ _ discard =>
    let s1 := s.withUnit { s.unit with engine := .free }
    if discard then s1 else applyFilter p s1
  | _ => s

def execFilterEvaluationComplete (t : Count) (s : State) : Outcome State Fault Refusal :=
  .next (finish (completeFilter (advanceTo t s)))

/-! ### Hours and FILTER RESET (R173, R174) -/

/-- An hour of running time is complete: it is taken from the running time and adds 1 to the filter hours,
which are compared with the service interval (R173). -/
def addFilterHour (s : State) : State :=
  if hourCounts ≤ s.time.fanTime then
    let s1 := s.withTime { s.time with fanTime := s.time.fanTime - hourCounts }
    compareHours (s1.withFilt { s1.filt with hours := bump16 s1.filt.hours })
  else s

def execFilterHours (t : Count) (s : State) : Outcome State Fault Refusal :=
  .next (finish (addFilterHour (advanceTo t s)))

/-- A FILTER RESET, in one event (R174). The restored ceilings of 120 are an input of C (R109), so C is recomputed for
the direction in force. During a flush or a ramp down outside RUN the direction is still IN or OUT, and C then also
takes up the cap and the stage that the mode entry cleared: the model's choice (log 51). -/
def resetFilter (s : State) : State :=
  let s1 := cutFilterJob s
  let s2 := s1.withFilt
    { refIn := 0, refOut := 0, learning := some 0, sumIn := 0, sumOut := 0, held := none,
      loadIn := 0, loadOut := 0, loading := 0, wind := 0, ceilIn := 120, ceilOut := 120,
      state := .clean, runLoaded := 0, runChange := 0, runBlocked := 0, hours := 0 }
  requestWrite (recomputeCeil (s2.withTime { s2.time with fanTime := 0 }))

end Sys2Proof.Machine
end

