-- ==== Sys2Proof/Machine/Reversal.lean ====
section
/-! DEFINITION. The reversal timer and the timebase supervisor: alignment, adoption, the own reversal expiry, the end of
listening, the windows and the crystal (R52 to R75). -/

namespace Sys2Proof.Machine

open Host (Outcome)

/-! ### Alignment (R64) -/

/-- The usable offsets of the tally (R62, R64). -/
def usableOffsets (tally : List TallyEntry) : List Int := tally.filterMap fun e => e.offset

/-- The jump limit J (R64). -/
def jumpLimit : Quality → Int
  | .crystal => 64
  | .coarse => 2048

/-- The alignment correction c (R64). -/
def correction (q : Quality) (tally : List TallyEntry) : Int :=
  let os := usableOffsets tally
  if os = [] then 0
  else clampInt (-jumpLimit q) (jumpLimit q) (os.sum.tdiv (2 * os.length))

/-! ### Groups and adoption (R65, R66) -/

/-- A group of the tally by size and lowest node (R65). -/
structure PhaseGroup where
  size   : Nat
  lowest : Nat
  deriving DecidableEq, Repr

/-- The own group: the station and the nodes of all agreeing entries (R65). -/
def ownGroup (node : Nat) (tally : List TallyEntry) : PhaseGroup :=
  let es := tally.filter fun e => e.agreeing
  { size := 1 + es.length, lowest := (es.map fun e => e.node).foldl min node }

/-- The foreign entries with one value of K_p. -/
def foreignWith (kp : HalfNo) (tally : List TallyEntry) : List TallyEntry :=
  tally.filter fun e => !e.agreeing && e.kp = kp

/-- The foreign group of a K_p (R65). -/
def foreignGroup (kp : HalfNo) (tally : List TallyEntry) : PhaseGroup :=
  let es := foreignWith kp tally
  { size := es.length
    lowest := match es.map fun e => e.node with
      | [] => 0
      | n :: ns => ns.foldl min n }

/-- `a` comes before `b`: larger, or of equal size with a lower lowest node (R66). -/
def outranks (a b : PhaseGroup) : Bool := b.size < a.size || (a.size = b.size && a.lowest < b.lowest)

/-- The better of a chosen K_p and another foreign entry's. -/
def betterKp (tally : List TallyEntry) (best : Option HalfNo) (e : TallyEntry) : Option HalfNo :=
  match best with
  | none => some e.kp
  | some b => if outranks (foreignGroup e.kp tally) (foreignGroup b tally) then some e.kp else some b

/-- The K_p of the qualifying group that is adopted, if one qualifies (R66). -/
def adoptedKp (node : Nat) (tally : List TallyEntry) : Option HalfNo :=
  let qualifying := tally.filter fun e =>
    !e.agreeing && outranks (foreignGroup e.kp tally) (ownGroup node tally)
  qualifying.foldl (betterKp tally) none

/-- The smallest whole m of 1 or more with m × L at or above `behind`; for L = 0 a free value (R66, R71;
log 22). -/
def multipleFor (behind : Int) (L : Nat) : Nat :=
  if L = 0 then Config.multipleOfZeroLength behind
  else max 1 ((behind + L - 1) / L).toNat

/-- The next scheduled reversal and the pending number that an expiry at `instant` sets (R55, R66). -/
structure Schedule where
  next    : Count
  pending : Option HalfNo
  deriving DecidableEq, Repr

/-- Adoption of a foreign group: t + m × L at least 10,240 counts after the expiry, and K + m (R66). -/
def adopt (s : State) (instant : Count) (kp : HalfNo) : Option Schedule :=
  (foreignWith kp s.rev.tally).getLast?.map fun e =>
    let m := multipleFor (Count.since (Count.later instant claimWindowCounts) e.tr) (halfLength s)
    { next := Count.later e.tr (m * halfLength s), pending := some (kp + BitVec.ofNat 8 m) }

/-- The schedule without adoption: the expiry plus L plus c (R55, R64). -/
def alignedSchedule (s : State) (instant : Count) : Schedule :=
  { next := Count.shifted instant ((halfLength s : Int) + correction s.time.quality s.rev.tally)
    pending := none }

/-- Step 1 of R55: the half tally of the ending half-cycle is evaluated (R64, R66). -/
def evaluateTally (s : State) (instant : Count) : Schedule :=
  match adoptedKp s.own.node s.rev.tally with
  | some kp => (adopt s instant kp).getD (alignedSchedule s instant)
  | none => alignedSchedule s instant

/-! ### Direction (R3, R52) -/

/-- The side of the parity of k and LEAD: IN when k + lead is even (R52). -/
def paritySide (k : HalfNo) (lead : Bool) : Side :=
  if (k.toNat + lead.toNat) % 2 = 0 then .inward else .outward

/-- The direction written at an expiry, with its overrides (R3). -/
def directionFor (s : State) (k : HalfNo) : Dir :=
  if s.frost.stage = .lockout ∨ s.fan.latch.isSome then .halt
  else if s.frost.stage = .thaw then .outward
  else dirOfSide (paritySide k s.own.lead)

/-! ### The own reversal expiry (R55) -/

/-- The half-cycle number that an expiry writes (R52, R55). -/
def nextNumber (s : State) : HalfNo :=
  match s.rev.pendingNumber with
  | some n => n
  | none => s.own.k.getD 0 + 1

/-- The switch back to the crystal at an expiry at which it is ready (R74). -/
def switchBack (s : State) : State :=
  if s.time.quality = .coarse ∧ s.time.crystalReady then
    s.withTime { s.time with quality := .crystal, crystalReady := false }
  else s

/-- An open gather window is closed, with its close handed on (R59, R84). -/
def handGather (s : State) : State := if s.rev.gather.isSome then requestPass s else s

/-- An open claim window is closed, with its close handed on (R59, R140). -/
def handClaimWindow (s : State) : State := if s.rev.claimWindow.isSome then closeClaims s else s

/-- Steps 2 to 6 of R55: k, the own reversal instant, the schedule, the emptied tally and the direction. -/
def writeHalf (k : HalfNo) (instant : Count) (sch : Schedule) (s : State) : State :=
  let s1 := s.withOwn { s.own with k := some k, instant := some instant, direction := directionFor s k }
  s1.withRev { s1.rev with next := some sch.next, pendingNumber := sch.pending, tally := [] }

/-- Step 8 of R55: the windows open, and the status timer starts where R58 calls for it. -/
def openWindows (k : HalfNo) (instant : Count) (s : State) : State :=
  s.withRev { s.rev with
    gather := some (Count.later instant gatherCounts)
    claimWindow := some (Count.later instant claimWindowCounts)
    statusTimer := if k.toNat % 4 = s.own.node % 4 then some (Count.later instant statusCounts) else none }

/-- The clash age advances (R38). -/
def ageClash (s : State) : State :=
  s.withLine { s.line with clashAge := min (s.line.clashAge + 1) 8 }

/-- C for the new half-cycle without a cap, F as w, and the CEIL reference (R5, R108 to R110). -/
def writeHalfFlow (s : State) : State :=
  let s1 := s.withFan { s.fan with cap := none }
  let c := ceilingFor s1 s1.own.direction
  let s2 := s1.withOwn { s1.own with ceil := c, flow := min s1.own.want c }
  s2.withFan { s2.fan with ceilRef := some c }

/-- Step 9 of R55: a changed direction is asked of the fan drive (R55, R56). -/
def askFan (before : Dir) (s : State) : State :=
  if s.own.direction = before then s
  else match sideOf s.own.direction with
    | some side => fanRequest side s
    | none => stopRequest s

/-- What ends with the half-cycle: the crystal switch, the windows with their closes, the fan's report, the
balance pass, and the frost guard's changes (R59, R74, R87, R112, R132, R133, R137; log 26). -/
def endHalf (s : State) : State :=
  frostExpiry (cutPass (handReport (handClaimWindow (handGather (switchBack s)))))

/-- What begins with the half-cycle, `before` being the direction of the one that ended (R15, R38, R55,
R58, R108, R117, R139, R148; log 26). -/
def beginHalfCycle (before : Dir) (k : HalfNo) (instant : Count) (sch : Schedule) (s : State) : State :=
  let s := queuePhase (writeHalf k instant sch s)
  let s := openWindows k instant s
  let s := ageClash (agePeers s)
  let s := writeHalfFlow (writeWant s)
  let s := beginHalf s.own.direction instant sch.next s
  askFan before (queueClaim s)

/-- The own reversal expiry at `instant` (R55). -/
def expiry (instant : Count) (s : State) : State :=
  let s1 := endHalf s
  beginHalfCycle s.own.direction (nextNumber s1) instant (evaluateTally s1 instant) s1

def takeExpiry (s : State) : State :=
  match s.rev.next with
  | some i => if s.mode.mode = .run then expiry i (advanceTo i s) else s
  | none => s

def execReversalExpiry (s : State) : Outcome State Fault Refusal := .next (finish (takeExpiry s))

/-- Entry to RUN, taken as an own reversal expiry (R70, R71). -/
def enterRunAt (instant : Count) (s : State) : State :=
  let s1 := advanceTo instant s
  let s2 := s1.withMode { s1.mode with mode := .run }
  expiry instant (s2.withRev { s2.rev with listening := none, lastHeard := none })

def takeEnterRun (s : State) : State :=
  match s.rev.next with
  | some i => if s.mode.mode = .join then enterRunAt i s else s
  | none => s

def execEnterRun (s : State) : Outcome State Fault Refusal := .next (finish (takeEnterRun s))

/-! ### The end of listening (R71) -/

/-- The entry from the last PHASE heard: t_r + m × L, later than the end of listening (R71). -/
def scheduleFromHeard (listenEnd : Count) (h : Heard) (s : State) : State :=
  let m := multipleFor (Count.since listenEnd h.tr + 1) (halfLength s)
  s.withRev { s.rev with
    listening := none
    lastHeard := none
    next := some (Count.later h.tr (m * halfLength s))
    pendingNumber := some (h.kp + BitVec.ofNat 8 m) }

/-- Entry to RUN alone, with k = 0 (R71). -/
def enterAlone (instant : Count) (s : State) : State :=
  enterRunAt instant (s.withRev { s.rev with pendingNumber := some 0 })

def endListening (s : State) : State :=
  match s.rev.listening with
  | some i =>
    if s.mode.mode = .join then
      match s.rev.lastHeard with
      | some h => scheduleFromHeard i h (advanceTo i s)
      | none => enterAlone i s
    else s
  | none => s

def execListenEnd (s : State) : Outcome State Fault Refusal := .next (finish (endListening s))

/-! ### The claim window and the status timer (R58, R59) -/

/-- The claim window closes, and the close is handed to the frost guard (R59, R140). -/
def closeClaimWindow (s : State) : State :=
  match s.rev.claimWindow with
  | some i =>
    if s.mode.mode = .run then
      let s1 := advanceTo i s
      closeClaims (s1.withRev { s1.rev with claimWindow := none })
    else s
  | none => s

def execClaimWindowClose (s : State) : Outcome State Fault Refusal := .next (finish (closeClaimWindow s))

/-- The status timer expires: a STATUS is queued (R58). -/
def statusTimerEnds (s : State) : State :=
  match s.rev.statusTimer with
  | some i =>
    if s.mode.mode = .run then
      let s1 := advanceTo i s
      queueStatus (s1.withRev { s1.rev with statusTimer := none })
    else s
  | none => s

def execStatusTimerExpiry (s : State) : Outcome State Fault Refusal := .next (finish (statusTimerEnds s))

/-! ### The crystal (R73, R74) -/

/-- No crystal edge for 2 ms: the quality is COARSE at once, and the crystal is not ready (R73, R74). -/
def loseCrystal (s : State) : State :=
  s.withTime { s.time with quality := .coarse, crystalReady := false }

def execCrystalLoss (t : Count) (s : State) : Outcome State Fault Refusal :=
  .next (finish (loseCrystal (advanceTo t s)))

/-- Crystal edges present for 1 s while COARSE: the crystal is ready (R74). -/
def readyCrystal (s : State) : State :=
  if s.time.quality = .coarse then s.withTime { s.time with crystalReady := true } else s

def execCrystalReady (t : Count) (s : State) : Outcome State Fault Refusal :=
  .next (finish (readyCrystal (advanceTo t s)))

end Sys2Proof.Machine
end

