-- ==== Sys2Proof/Machine/Fan.lean ====
section
/-! DEFINITION. The fan drive: steps, ramps, flow short, stall, tachometer, flap and FAN STALL trial (R95 to R107,
R112). -/

namespace Sys2Proof.Machine

open Host (Outcome)

/-! ### Speed control (R103) -/

/-- The duty after a step of speed control with the given limits on the change (R99, R103). -/
def controlDuty (low high : Int) (target : Int) (speed duty : Nat) : Nat :=
  (clampInt 0 1000 ((duty : Int) + clampInt low high ((target - speed).tdiv 16))).toNat

/-- The stall condition of a step (R105). -/
def stallFound (speed duty : Nat) : Bool := speed < 150 && 300 ≤ duty

/-- The flow-short condition of a step (R104). -/
def shortFound (target : Int) (speed duty : Nat) : Bool :=
  duty = 1000 && decide ((speed : Int) < target - 100)

/-- Consecutive steps at which a condition was found, up to the count that makes its period (R96). -/
def foundSteps (found : Bool) (n most : Nat) : Nat := if found then min (n + 1) most else 0

/-- Steps of 3 s (R96). -/
def stallPeriod : Nat := 13

/-- Steps of 10 s (R96). -/
def shortPeriod : Nat := 41

/-! ### A step (R96 to R99, R103, R112) -/

/-- The end that a COAST step finds: below 150 rpm, except in a COAST entered with the restart mark set, or
the twelfth step (R98). -/
def coastFinding (fullCoast : Bool) (speed steps : Nat) : Finding :=
  if (speed < 150 ∧ fullCoast = false) ∨ 12 ≤ steps then .coastOver else .nothing

/-- The end that a RAMP UP step finds: the band, or the twentieth step with its spin-up check (R99). -/
def rampFinding (target : Int) (speed steps : Nat) : Finding :=
  if inBand target speed then .inBand
  else if 20 ≤ steps then (if 150 ≤ target ∧ speed < 150 then .spinUpFailed else .timedOut)
  else .nothing

/-- Entry to COAST, which lasts its twelve steps when the restart mark is set at the entry (R98). -/
def enterCoast (s : State) : State := enterFan .coast (s.withFan { s.fan with fullCoast := s.fan.restart })

/-- RAMP DOWN: the duty falls by 100, and at 0 the state becomes COAST (R98). -/
def stepRampDown (s : State) : State :=
  let s1 := s.withFan { s.fan with duty := s.fan.duty - 100 }
  if s1.fan.duty = 0 then enterCoast s1 else s1

def stepCoast (s : State) : State :=
  s.withFan { s.fan with
    duty := 0, finding := coastFinding s.fan.fullCoast s.fan.speed s.fan.steps }

def stepRampUp (s : State) : State :=
  s.withFan { s.fan with
    duty := controlDuty (-20) 100 (targetSpeed s) s.fan.speed s.fan.duty
    finding := rampFinding (targetSpeed s) s.fan.speed s.fan.steps }

/-- RUNNING: speed control, and the stall and flow-short measures on the duty it leaves (R103 to R105;
log 17). -/
def stepRunning (s : State) : State :=
  let duty := controlDuty (-20) 20 (targetSpeed s) s.fan.speed s.fan.duty
  s.withFan { s.fan with
    duty := duty
    stallSteps := foundSteps (stallFound s.fan.speed duty) s.fan.stallSteps stallPeriod
    shortSteps := foundSteps (shortFound (targetSpeed s) s.fan.speed duty) s.fan.shortSteps shortPeriod }

/-- What the step does in the state of the fan. -/
def stepState (s : State) : State :=
  match s.fan.state with
  | .rampDown => stepRampDown s
  | .coast => stepCoast s
  | .rampUp => stepRampUp s
  | .running => stepRunning s
  | .stopped => s
  | .flapOpening => s
  | .flapClosing => s

/-- The step's entry in the sample window, which keeps the last 120 (R112). -/
def enterWindow (st : FanState) (drive : Side) (s : State) : State :=
  s.withFan { s.fan with
    window := ({ duty := s.fan.duty, speed := s.fan.speed, state := st, drive := drive } ::
      s.fan.window).take 120 }

/-- The step clock, one step on (R96). -/
def countStep (s : State) : State :=
  s.withFan { s.fan with
    nextStep := Count.later s.fan.nextStep stepCounts, steps := min (s.fan.steps + 1) 20 }

/-- An end found at the latest step is still to be taken: COAST_END, RAMP_UP_END, STALL or FLOW_SHORT
comes before the next step (log 16). -/
def stepWaits (s : State) : Bool :=
  s.fan.finding ≠ .nothing || stallPeriod ≤ s.fan.stallSteps || shortPeriod ≤ s.fan.shortSteps

def takeStep (s : State) : State :=
  if stepWaits s then s
  else
    let s1 := countStep (advanceTo s.fan.nextStep s)
    enterWindow s1.fan.state s1.fan.drive (stepState s1)

def execFanStep (s : State) : Outcome State Fault Refusal := .next (finish (takeStep s))

/-! ### The end of COAST (R98, R111) -/

/-- RAMP UP starts from duty 0 (R99). -/
def enterRampUp (s : State) : State := enterFan .rampUp (s.withFan { s.fan with duty := 0 })

/-- COAST ends: the turn and RAMP UP, or FLAP CLOSING with the report "fan stopped" (R98, R111). -/
def endCoast (s : State) : State :=
  if s.fan.state = .coast ∧ s.fan.finding = .coastOver then
    match s.fan.target.bind sideOf with
    | some side => enterRampUp (s.withFan { s.fan with drive := side })
    | none => fanStopped (closeFlap s)
  else s

def execCoastEnd (s : State) : Outcome State Fault Refusal := .next (finish (endCoast s))

/-! ### Stall (R105, R106) and the FAN STALL trial (R107) -/

/-- A stall is a first stall: no stall in the history, or one more than 10 min ago (R105; log 27). -/
def firstStall (s : State) : Bool :=
  match s.fan.stallHistory with
  | some i => stallMemoryCounts < (s.time.now - i).toNat
  | none => true

/-- A stall: the first restarts the fan in the same direction, any other latches FAN STALL (R105, R106). -/
def stallNow (s : State) : State :=
  if s.fan.restart = false ∧ firstStall s = true then
    rampDownTo (dirOfSide s.fan.drive)
      (s.withFan { s.fan with stallHistory := some s.time.now, restart := true })
  else latchFanStall .spin s

/-- A trial succeeds: the latch is cleared (R107). -/
def trialPassed (s : State) : State := s.withFan { s.fan with trial := .idle, latch := none }

/-- A trial fails: FAN STALL stays latched with the cause of the failure (R107). -/
def trialFailed (cause : StallCause) (s : State) : State :=
  s.withFan { s.fan with trial := .idle, latch := some cause }

def trialRuns (s : State) : Bool := s.fan.trial = .running

/-- The end that a RAMP UP step found is taken (R99, R105, R107). -/
def endRampUp (s : State) : State :=
  if s.fan.state = .rampUp then
    match s.fan.finding with
    | .inBand => if trialRuns s then stopRequest (trialPassed s) else enterRunning s
    | .timedOut => if trialRuns s then stopRequest (trialPassed s) else enterRunning s
    | .spinUpFailed => if trialRuns s then stopRequest (trialFailed .spin s) else stallNow s
    | .coastOver => s
    | .nothing => s
  else s

def execRampUpEnd (s : State) : Outcome State Fault Refusal := .next (finish (endRampUp s))

/-- The stall condition has held for 3 s in RUNNING (R105). -/
def takeStall (s : State) : State :=
  if s.fan.state = .running ∧ stallPeriod ≤ s.fan.stallSteps then stallNow s else s

def execStall (s : State) : Outcome State Fault Refusal := .next (finish (takeStall s))

/-! ### Flow short (R104) -/

/-- The flow-short cap: the achieved code, or an existing lower cap (R104). -/
def lowerCap (cap : Option Nat) (code : Nat) : Nat :=
  match cap with
  | some x => min x code
  | none => code

/-- The flow-short condition has held for 10 s in RUNNING: the cap, C, F, the shortfall. The next step is the
first of the measure that starts afresh, the model's choice (R104; log 18). -/
def takeFlowShort (s : State) : State :=
  if s.fan.state = .running ∧ shortPeriod ≤ s.fan.shortSteps then
    let achieved := inverseCurve s s.fan.speed
    recomputeCeil (s.withFan { s.fan with
      cap := some (lowerCap s.fan.cap achieved)
      shortfall := s.own.flow - achieved
      shortSteps := 0 })
  else s

def execFlowShort (s : State) : Outcome State Fault Refusal := .next (finish (takeFlowShort s))

/-! ### The tachometer (R96) -/

/-- The speed of an interval between two pulses, at two pulses a revolution, up to 2550 rpm (R96;
log 12). -/
def pulseSpeed (micros : Nat) : Nat := if micros = 0 then 2550 else min (30000000 / micros) 2550

def takePulse (micros : Nat) (s : State) : State :=
  s.withFan { s.fan with speed := pulseSpeed micros, lastPulse := some s.time.now }

def execTachometerPulse (t : Count) (micros : Nat) (s : State) : Outcome State Fault Refusal :=
  .next (finish (takePulse micros (advanceTo t s)))

/-- No pulse has arrived for 0.5 s: the measured speed is 0 (R96). -/
def timeOutSpeed (s : State) : State :=
  match s.fan.lastPulse with
  | some i =>
    let s1 := advanceTo (Count.later i noPulseCounts) s
    s1.withFan { s1.fan with speed := 0, lastPulse := none }
  | none => s

def execSpeedTimeout (s : State) : Outcome State Fault Refusal := .next (finish (timeOutSpeed s))

/-! ### The flap (R101, R107) -/

def endTravel (s : State) : State := s.withFan { s.fan with travel := none }

/-- A trial of cause FLAP is in progress (R101, R107). -/
def flapTrial (s : State) : Bool := trialRuns s && s.fan.latch = some .flap

/-- The flap reaches its end: RAMP UP, the way back of a FLAP trial, or STOPPED (R101, R107, R111). -/
def flapArrives (s : State) : State :=
  match s.fan.travel, s.fan.state with
  | none, _ => s
  | some _, .flapOpening => if flapTrial s then closeFlap s else enterRampUp (endTravel s)
  | some _, .flapClosing => enterStopped (if trialRuns s then trialPassed (endTravel s) else endTravel s)
  | some _, _ => endTravel s

def execFlapEndReached (t : Count) (s : State) : Outcome State Fault Refusal :=
  .next (finish (flapArrives (advanceTo t s)))

/-- The latch of a flap fault, which also ends a trial (R101, R106, R107). -/
def latchFlap (s : State) : State :=
  latchFanStall .flap (if trialRuns s then trialFailed .flap s else s)

/-- A travel that has not reached its end within its limit (R101). DESIGN CHOICE: a run request held in FLAP CLOSING
is lost to the stop request of the latch (R106), so the fan stays STOPPED, where R100 opens the flap again (log 62). -/
def faultFlap (s : State) : State :=
  match s.fan.travel with
  | none => s
  | some i =>
    let s1 := advanceTo i s
    match s1.fan.state with
    | .flapOpening => latchFlap (closeFlap (setTarget (some .halt) s1))
    | .flapClosing => enterStopped (latchFlap (endTravel s1))
    | _ => latchFlap (endTravel s1)

def execFlapFault (s : State) : Outcome State Fault Refusal := .next (finish (faultFlap s))

/-! ### The start of a trial (R107) -/

/-- A PENDING trial starts in RUN with the fan STOPPED: FLAP OPENING, for cause SPIN with the drive
direction of the parity. That the reversal target is none during a trial is the model's choice (R107; log 40), and so
is that a trial made PENDING during a stop starts when the stop completes, as R107 says, where R185 names the next own
reversal expiry (log 57). DESIGN CHOICE: the wanted direction stays as it is, HALT, though R111 calls the start of a
trial a run request and R97 has each request write it (log 61). -/
def startTrial (s : State) : State :=
  if s.mode.mode = .run ∧ s.fan.state = .stopped ∧ s.fan.trial = .pending then
    let s1 := s.withFan { s.fan with
      trial := .running
      target := none
      drive := match s.fan.latch with
        | some .spin => paritySide (s.own.k.getD 0) s.own.lead
        | _ => s.fan.drive }
    enterFan .flapOpening (moveFlap .openFlap s1)
  else s

def execTrialStart (t : Count) (s : State) : Outcome State Fault Refusal :=
  .next (finish (startTrial (advanceTo t s)))

end Sys2Proof.Machine
end

