-- ==== Sys2Proof/Machine/Line.lean ====
section
/-! DEFINITION. The line controller: idle, frames, reception and its filters, send attempts and their ends, and fault
confinement (R20 to R42). -/

namespace Sys2Proof.Machine

open Host (Outcome)

def withPhase (p : LinePhase) (s : State) : State := s.withLine { s.line with phase := p }

/-! ### Reception (R21 to R23, R35, R36) -/

/-- The line has read PASSIVE for 12 bit times (R22). -/
def lineGoesIdle (s : State) : State :=
  if s.line.sampling ∧ s.line.phase = .busy then withPhase .idle s else s

def execLineIdle (t : Count) (s : State) : Outcome State Fault Refusal :=
  .next (finish (lineGoesIdle (advanceTo t s)))

/-- Another station's frame begins on the idle line (R22, R26). -/
def frameBegins (s : State) : State :=
  if s.line.sampling ∧ s.line.phase = .idle then withPhase .receiving s else s

def execFrameStart (t : Count) (s : State) : Outcome State Fault Refusal :=
  .next (finish (frameBegins (advanceTo t s)))

/-- The station can be receiving a frame: it samples, and the line is idle or carries a frame that is not
its own (log 36). -/
def canReceive (s : State) : Bool :=
  s.line.sampling && (s.line.phase = .idle || s.line.phase = .receiving)

/-- A receiver abandons a frame: a receive fault, and the line is ignored until idle (R22). -/
def abandonFrame (s : State) : State := countRxFault (withPhase .busy s)

def execFrameAbandoned (t : Count) (_cause : AbandonCause) (s : State) : Outcome State Fault Refusal :=
  let s1 := advanceTo t s
  .next (finish (if canReceive s1 then abandonFrame s1 else s1))

/-- START with STRAP INVALID (R176). -/
def invalidStart (s : State) : Bool := s.mode.mode = .start && s.mode.strapInvalid

/-- The frame carries the own node, where the clash filter applies (R35). -/
def clashes (s : State) (f : RxFrame) : Bool := f.node = s.own.node && !invalidStart s

/-- A HOUSE or SERVICE REQUEST frame for another TARGET (R35). -/
def otherTarget (s : State) (f : RxFrame) : Bool :=
  match f.cls, f.payload with
  | some .house, target :: _ => target.toNat ≠ 0 && target.toNat ≠ s.own.node
  | some .request, target :: _ => target.toNat ≠ 0 && target.toNat ≠ s.own.node
  | _, _ => false

/-- A frame enters the receive queue, or is overrun when both slots are full (R35, R36). -/
def enterRxQueue (f : RxFrame) (s : State) : State :=
  if s.line.rxq.length < 2 then s.withLine { s.line with rxq := s.line.rxq ++ [f] } else countOverrun s

/-- The receive filters, in their order (R35). -/
def filterFrame (f : RxFrame) (s : State) : State :=
  if f.cls = none then countRxFault s
  else if clashes s f then countClash s
  else if f.cls = some .reply then s
  else if otherTarget s f then s
  else enterRxQueue f s

/-- What the line carried, at the instant at which the receiver is done with it: a false start between frames is
not counted, and the idle measure starts again; a good frame is stamped (R21 to R24, R35). -/
def receiveFrame (levels : List LineLevel) (s : State) : State :=
  if canReceive s then
    match readFrame levels with
    | .silent => s
    | .falseStart => withPhase .busy s
    | .abandoned => abandonFrame s
    | .checkFailure => countRxFault (withPhase .busy s)
    | .good rank payload =>
      filterFrame { rank := rank, payload := payload, stamp := s.time.now } (withPhase .busy s)
  else s

def execFrameReceived (t : Count) (levels : List LineLevel) (s : State) : Outcome State Fault Refusal :=
  .next (finish (receiveFrame levels (advanceTo t s)))

/-! ### Send attempts (R26) -/

/-- The entry on the line. -/
def onLineEntry (q : List TxEntry) : Option TxEntry := q.find? fun e => e.onLine

/-- The lowest-RANK entry not withdrawn (R26). -/
def offeredEntry (q : List TxEntry) : Option TxEntry := q.find? fun e => !e.withdrawn

/-- Rewrites the entry of a class. -/
def setEntry (e : TxEntry) (q : List TxEntry) : List TxEntry :=
  q.map fun x => if x.cls = e.cls then e else x

/-- A send attempt begins: the entry is marked as on the line, and its payload filled (R8, R26, R60). -/
def beginSend (s : State) : State :=
  if s.line.sampling ∧ s.line.phase = .idle ∧ lineState s ≠ .cutOff then
    match offeredEntry s.line.txq with
    | some e =>
      s.withLine { s.line with
        phase := .sending
        txq := setEntry { e with onLine := true, payload := attemptPayload s e } s.line.txq }
    | none => s
  else s

def execSendAttempt (t : Count) (s : State) : Outcome State Fault Refusal :=
  .next (finish (beginSend (advanceTo t s)))

/-! ### Ends of a send (R27 to R29, R31, R33, R34, R40) -/

/-- A waiting replacement takes the entry of its class when the send ends (R31). -/
def takeReplacement (s : State) : State :=
  match s.line.replacement with
  | some r =>
    s.withLine { s.line with
      txq := placeEntry r (withoutClass r.cls s.line.txq), replacement := none }
  | none => s

/-- The entry of a class leaves the queue. -/
def removeEntry (cls : NoticeClass) (s : State) : State :=
  s.withLine { s.line with txq := withoutClass cls s.line.txq }

/-- A withdrawn CLAIM has gone without a clean send: the own claim becomes NONE (R140). -/
def claimGone (e : TxEntry) (s : State) : State :=
  if e.cls = .claim ∧ e.withdrawn = true ∧ s.frost.ownClaim = .queued ∧ s.line.replacement = none then
    s.withFrost { s.frost with ownClaim := .idle }
  else s

/-- In MUTED an entry of a muted class whose send did not end clean is removed and counted (R40). -/
def mutedLoss (e : TxEntry) (s : State) : Bool := lineState s = .muted && mutedClass e.cls

/-- The entry whose arbitration was lost: kept off the line with its attempt count, unless it is
withdrawn or muted (R27, R34, R40). -/
def keepAfterArbitration (e : TxEntry) (s : State) : State :=
  if e.withdrawn then claimGone e (removeEntry e.cls s)
  else if mutedLoss e s then countDrops 1 (removeEntry e.cls s)
  else s.withLine { s.line with txq := setEntry { e with onLine := false } s.line.txq }

/-- Arbitration is lost: the station receives the frame now on the line (R27). -/
def loseArbitration (s : State) : State :=
  match onLineEntry s.line.txq with
  | some e =>
    if s.line.phase = .sending then
      settleFlush (takeReplacement (keepAfterArbitration e (withPhase .receiving s)))
    else s
  | none => s

def execLostArbitration (t : Count) (s : State) : Outcome State Fault Refusal :=
  .next (finish (loseArbitration (advanceTo t s)))

/-- The entry whose attempt failed, after the line fault count has been charged: offered again, dropped at
its third error, or dropped as muted (R28, R33, R40). It is gone already on entry to CUT OFF (R41). -/
def keepAfterError (e : TxEntry) (s : State) : State :=
  match entryOf e.cls s.line.txq with
  | none => s
  | some _ =>
    if mutedLoss e s ∨ 3 ≤ e.attempts + 1 then countDrops 1 (removeEntry e.cls s)
    else
      s.withLine { s.line with
        txq := setEntry { e with onLine := false, attempts := e.attempts + 1 } s.line.txq }

/-- A readback error: the attempt fails, and the line fault count is charged (R28, R33, R34, R39). -/
def failSend (s : State) : State :=
  match onLineEntry s.line.txq with
  | some e =>
    if s.line.phase = .sending then
      let s1 := withPhase .busy s
      let s2 :=
        if e.withdrawn then chargeLine (claimGone e (removeEntry e.cls s1))
        else keepAfterError e (chargeLine s1)
      settleFlush (takeReplacement s2)
    else s
  | none => s

def execReadbackError (t : Count) (s : State) : Outcome State Fault Refusal :=
  .next (finish (failSend (advanceTo t s)))

/-- The completion report of a clean send to its owner: the frost guard places its CLAIM, the fan drive
takes the CEIL of a PHASE or CHANGE of the half-cycle as its reference (R29, R110, R142; log 25). -/
def reportSend (e : TxEntry) (stamp : Count) (s : State) : State :=
  match e.cls, e.payload with
  | .claim, [k, severity] =>
    placeOwnClaim k severity.toNat (Count.earlier stamp (frameCounts 2)) s
  | .phase, k :: _ :: _ :: ceil :: _ =>
    if s.mode.mode = .run ∧ s.own.k = some k then s.withFan { s.fan with ceilRef := some ceil.toNat } else s
  | .change, k :: _ :: _ :: ceil :: _ =>
    if s.mode.mode = .run ∧ s.own.k = some k then s.withFan { s.fan with ceilRef := some ceil.toNat } else s
  | _, _ => s

/-- The line fault count falls by 1, with a floor of 0 (R29, R39). -/
def creditLine (s : State) : State :=
  s.withLine { s.line with faultCount := s.line.faultCount - 1 }

/-- A clean send: the entry leaves the queue and is reported, and a replacement takes its place (R29,
R31). -/
def endCleanSend (s : State) : State :=
  match onLineEntry s.line.txq with
  | some e =>
    if s.line.phase = .sending then
      let s1 := creditLine (removeEntry e.cls (withPhase .busy s))
      settleFlush (takeReplacement (reportSend e s1.time.now s1))
    else s
  | none => s

def execCleanSend (t : Count) (s : State) : Outcome State Fault Refusal :=
  .next (finish (endCleanSend (advanceTo t s)))

/-! ### Fault confinement (R39, R41, R42) -/

/-- Each full 50 ms of continuous ACTIVE while the station is not sending counts as a readback error; the
line is then not idle (R22, R42). In START with STRAP INVALID the count stays 0 (R176). -/
def chargeStuckLine (s : State) : State :=
  if s.line.sampling ∧ s.line.phase ≠ .sending ∧ invalidStart s = false then
    let s1 := if s.line.phase = .idle then withPhase .busy s else s
    settleFlush (chargeLine s1)
  else s

def execLineStuckCharge (t : Count) (s : State) : Outcome State Fault Refusal :=
  .next (finish (chargeStuckLine (advanceTo t s)))

/-- The CUT OFF timer expires: the line fault count becomes 0, the state OPEN (R41). -/
def endCutOff (s : State) : State :=
  match s.line.cutOff with
  | some i =>
    let s1 := advanceTo i s
    s1.withLine { s1.line with cutOff := none, faultCount := 0 }
  | none => s

def execCutOffTimerExpiry (s : State) : Outcome State Fault Refusal := .next (finish (endCutOff s))

end Sys2Proof.Machine
end

