-- ==== Sys2Proof/Machine/Notices.lean ====
section
/-! DEFINITION. The notice handler: taking a frame, and PHASE, CHANGE, STATUS, CLAIM and HOUSE notices as they are
applied (R10 to R18, R45, R61 to R63, R70, R85, R158). -/

namespace Sys2Proof.Machine

open Host (Outcome)

/-! ### Taking a frame (R36, R45) -/

/-- The notice handler takes the oldest frame, when no balance pass holds the peer table and the frame is
of the command's class: it is discarded in a mode that does not apply it, counted as a format error when it
fails a check, or handed to `apply` when it is a notice that the command takes (R10, R36, R45; log 9). -/
def takeNotice (cls : NoticeClass) (accepts : Notice → Bool) (apply : RxFrame → Notice → State → State)
    (s : State) : State :=
  if tableHeld s then s
  else match s.line.rxq with
    | [] => s
    | f :: rest =>
      if f.cls ≠ some cls then s
      else
        let s1 := s.withLine { s.line with rxq := rest }
        if modeDiscards s.mode.mode cls then s1
        else match decodeNotice f with
          | none => countRxFault s1
          | some n => if accepts n then apply f n s1 else s

/-! ### Records (R9 to R14, R17) -/

/-- The announced fields of a PHASE or CHANGE, with want and ceiling stored as at most 120 (R10, R12). -/
def announce (a : Announcement) (agree : Bool) (r : PeerRecord) : PeerRecord :=
  { r with kp := some a.k, direction := a.direction, want := min a.want 120, ceil := min a.ceil 120,
           stage := a.stage, agree := agree, age := 0 }

/-- The record of a node, or one created for it (R11). -/
def recordFor (s : State) (node : Nat) : PeerRecord := (peerOf node s.peers.records).getD (blankPeer node)

def writePeer (r : PeerRecord) (s : State) : State :=
  s.withPeers { s.peers with records := putPeer r s.peers.records }

/-- The node is in the node set of the pass record made in the current half-cycle (R85). -/
def inCurrentPass (s : State) (node : Nat) : Bool := s.pass.current && s.pass.record.nodes.contains node

/-- The record of a node meets the participant conditions of R77 (R85). -/
def takesPart (s : State) (node : Nat) : Bool :=
  match s.own.k, peerOf node s.peers.records with
  | some k, some r => (participantOf k r).isSome
  | _, _ => false

/-- The re-pass trigger of an applied PHASE or CHANGE (R85). -/
def noticeTrigger (node : Nat) (s : State) : State :=
  if inCurrentPass s node || takesPart s node then trigger s else s

/-! ### PHASE (R12, R61 to R63, R69, R70) -/

/-- The sender's reversal instant t_r, δ being 4095 for a late PHASE (R12, R46). -/
def reversalInstant (f : RxFrame) (a : Announcement) (delay : Nat) : Count :=
  Count.earlier f.start (if a.late then 4095 else delay)

/-- The offset of a PHASE, if its K_p is the own k or the next number. Where a pending number makes the two equal
it is measured from the own reversal instant, the model's choice (R61; log 39). -/
def phaseOffset (s : State) (kp : HalfNo) (tr : Count) : Option Int :=
  match s.own.k, s.own.instant, s.rev.next with
  | some h, some instant, some next =>
    if kp = h then some (Count.since tr instant)
    else if kp = nextNumber s then some (Count.since tr next)
    else none
  | _, _, _ => none

/-- An offset of at most L/4 in size agrees (R62). -/
def offsetAgrees (s : State) (o : Option Int) : Bool :=
  match o with
  | some v => decide (v.natAbs ≤ agreeLimit s)
  | none => false

/-- The tally entry of a measured PHASE (R62, R63). -/
def tallyEntry (s : State) (node : Nat) (a : Announcement) (tr : Count) : TallyEntry :=
  let o := phaseOffset s a.k tr
  let agreeing := offsetAgrees s o
  { node := node, kp := a.k, agreeing := agreeing
    offset := if agreeing = true ∧ a.quality = .crystal ∧ a.late = false then o else none
    tr := tr }

/-- The tally without a node's entry. -/
def withoutTally (node : Nat) (tally : List TallyEntry) : List TallyEntry :=
  tally.filter fun e => e.node ≠ node

/-- In RUN a PHASE is measured and entered in the half tally as its newest entry (R61 to R63). -/
def measurePhase (node : Nat) (a : Announcement) (tr : Count) (s : State) : State :=
  s.withRev { s.rev with tally := withoutTally node s.rev.tally ++ [tallyEntry s node a tr] }

/-- While listening in JOIN, a PHASE is remembered, and the first from a CRYSTAL sender with late 0 sets k
and the next scheduled reversal and ends listening (R69, R70). -/
def hearPhase (a : Announcement) (tr : Count) (s : State) : State :=
  if s.rev.listening.isNone then s
  else if a.quality = .crystal ∧ a.late = false then
    (s.withOwn { s.own with k := some a.k }).withRev { s.rev with
      listening := none, lastHeard := none, next := some (Count.later tr (halfLength s)) }
  else s.withRev { s.rev with lastHeard := some { kp := a.k, tr := tr } }

/-- A PHASE with leaving 0 is applied in JOIN, RUN or REST (R12). -/
def applyPhase (f : RxFrame) (a : Announcement) (delay : Nat) (s : State) : State :=
  let tr := reversalInstant f a delay
  match s.mode.mode with
  | .run =>
    let agree := (tallyEntry s f.node a tr).agreeing
    noticeTrigger f.node (measurePhase f.node a tr (writePeer (announce a agree (recordFor s f.node)) s))
  | .join => hearPhase a tr (writePeer (announce a false (recordFor s f.node)) s)
  | _ => writePeer (announce a false (recordFor s f.node)) s

def isPhase : Notice → Bool
  | .phase a _ => !a.leaving
  | _ => false

def applyPhaseNotice (f : RxFrame) (n : Notice) (s : State) : State :=
  match n with
  | .phase a delay => applyPhase f a delay s
  | _ => s

def execPhaseNotice (t : Count) (s : State) : Outcome State Fault Refusal :=
  .next (finish (takeNotice .phase isPhase applyPhaseNotice (advanceTo t s)))

/-! ### LEAVE (R17, R63) -/

def isLeaveNotice : Notice → Bool
  | .phase a _ => a.leaving
  | _ => false

/-- The record and the tally entry of a leaving station are removed; the removal of a participant is a
re-pass trigger (R17, R63, R85). -/
def applyLeave (f : RxFrame) (_n : Notice) (s : State) : State :=
  let known := (peerOf f.node s.peers.records).isSome
  let s1 := s.withPeers { s.peers with records := withoutPeer f.node s.peers.records }
  let s2 := s1.withRev { s1.rev with tally := withoutTally f.node s1.rev.tally }
  if known && inCurrentPass s f.node then trigger s2 else s2

def execLeaveNotice (t : Count) (s : State) : Outcome State Fault Refusal :=
  .next (finish (takeNotice .phase isLeaveNotice applyLeave (advanceTo t s)))

/-! ### CHANGE (R13) -/

def isChange : Notice → Bool
  | .change _ => true
  | _ => false

/-- The agree flag after a CHANGE: kept when its K is the record's k_p, except in REST, where it is written
0 (R13, R18). -/
def agreeAfterChange (s : State) (a : Announcement) (r : PeerRecord) : Bool :=
  r.kp = some a.k && r.agree && s.mode.mode ≠ .rest

def applyChange (f : RxFrame) (n : Notice) (s : State) : State :=
  match n with
  | .change a =>
    let r := recordFor s f.node
    noticeTrigger f.node (writePeer (announce a (agreeAfterChange s a r) r) s)
  | _ => s

def execChangeNotice (t : Count) (s : State) : Outcome State Fault Refusal :=
  .next (finish (takeNotice .change isChange applyChange (advanceTo t s)))

/-! ### STATUS (R14) -/

def isStatus : Notice → Bool
  | .status _ _ => true
  | _ => false

/-- The climate part of the record is written, and nothing else of it (R14). DEDUCED: in REST too the agree flag
stays, though R18 says that notices applied there write it 0 (log 60). -/
def applyStatus (f : RxFrame) (n : Notice) (s : State) : State :=
  match n with
  | .status outdoor facade =>
    writePeer { recordFor s f.node with climate := some { outdoor := outdoor, facade := facade, age := 0 } } s
  | _ => s

def execStatusNotice (t : Count) (s : State) : Outcome State Fault Refusal :=
  .next (finish (takeNotice .status isStatus applyStatus (advanceTo t s)))

/-! ### CLAIM (R47, R141) -/

def isClaimNotice : Notice → Bool
  | .claim _ _ => true
  | _ => false

def applyClaim (f : RxFrame) (n : Notice) (s : State) : State :=
  match n with
  | .claim k severity => receiveClaim f.node k severity f.start s
  | _ => s

def execClaimNotice (t : Count) (s : State) : Outcome State Fault Refusal :=
  .next (finish (takeNotice .claim isClaimNotice applyClaim (advanceTo t s)))

/-! ### HOUSE (R48, R157 to R163) -/

def isHouseLevel : Notice → Bool
  | .house (.level _ _) => true
  | _ => false

def applyHouseLevel (f : RxFrame) (n : Notice) (s : State) : State :=
  match n with
  | .house (.level level hold) => applyLevel f.node level hold s
  | _ => s

def execHouseLevel (t : Count) (s : State) : Outcome State Fault Refusal :=
  .next (finish (takeNotice .house isHouseLevel applyHouseLevel (advanceTo t s)))

def isHouseRest : Notice → Bool
  | .house (.rest _) => true
  | _ => false

/-- A REST; a LEAVE that CUT OFF discards leaves the flush nothing to wait for (R41, R160; log 31). -/
def applyHouseRest (_f : RxFrame) (n : Notice) (s : State) : State :=
  match n with
  | .house (.rest arg) => settleFlush (applyRest arg s)
  | _ => s

def execHouseRest (t : Count) (s : State) : Outcome State Fault Refusal :=
  .next (finish (takeNotice .house isHouseRest applyHouseRest (advanceTo t s)))

def isHouseResume : Notice → Bool
  | .house .resume => true
  | _ => false

def applyHouseResume (f : RxFrame) (_n : Notice) (s : State) : State := applyResume f.node s

def execHouseResume (t : Count) (s : State) : Outcome State Fault Refusal :=
  .next (finish (takeNotice .house isHouseResume applyHouseResume (advanceTo t s)))

def isHouseWake : Notice → Bool
  | .house .wake => true
  | _ => false

def applyHouseWake (_f : RxFrame) (_n : Notice) (s : State) : State := applyWake s

def execHouseWake (t : Count) (s : State) : Outcome State Fault Refusal :=
  .next (finish (takeNotice .house isHouseWake applyHouseWake (advanceTo t s)))

end Sys2Proof.Machine
end

