-- ==== Sys2Proof/Machine/Service.lean ====
section
/-! DEFINITION. The service unit, the store and the indicator: service requests and their replies, SETUP, store writes
(R51, R178 to R185). -/

namespace Sys2Proof.Machine

open Host (Outcome)

/-! ### READ pages (R19, R51) -/

/-- The four data characters of a reply. -/
structure PageData where
  d1 : Byte
  d2 : Byte
  d3 : Byte
  d4 : Byte
  deriving DecidableEq, Repr

def zeroPage : PageData := { d1 := 0, d2 := 0, d3 := 0, d4 := 0 }

/-- The peer summary of a node; present 0 and zeros for the own node or a node without a record (R19). -/
def peerPage (s : State) (node : Nat) : PageData :=
  match peerOf node s.peers.records with
  | some r =>
    if node = s.own.node then zeroPage
    else { d1 := 1, d2 := r.kp.getD 0, d3 := byteOf (dirCode r.direction), d4 := byteOf r.age }
  | none => zeroPage

/-- The parameter on pages 32 to 52, as stored (R51). -/
def paramPage (s : State) (i : Nat) : Option PageData :=
  (paramIndex i).map fun j =>
    { d1 := highByte (param s j), d2 := lowByte (param s j), d3 := 0, d4 := 0 }

/-- Pages 0 to 9 (R51). -/
def blockPage (s : State) : Nat → Option PageData
  | 0 => some { d1 := byteOf (modeCode s.mode.mode), d2 := s.own.k.getD 0,
                d3 := byteOf (dirCode s.own.direction), d4 := byteOf s.own.flow }
  | 1 => some { d1 := byteOf s.own.want, d2 := byteOf s.own.ceil, d3 := byteOf (levelCode s.own.level),
                d4 := byteOf (stageCode s.frost.stage) }
  | 2 => some { d1 := highByte (tempCode s.own.outdoor), d2 := lowByte (tempCode s.own.outdoor),
                d3 := highByte (tempCode s.own.roomTemp), d4 := lowByte (tempCode s.own.roomTemp) }
  | 3 => some { d1 := byteOf s.own.rh, d2 := highByte s.own.ratio, d3 := lowByte s.own.ratio, d4 := 0 }
  | 4 => some { d1 := byteOf (s.filt.loading / 5), d2 := highByte s.filt.wind, d3 := lowByte s.filt.wind,
                d4 := byteOf (filterCode s.filt.state) }
  | 5 => some { d1 := highByte s.filt.hours, d2 := lowByte s.filt.hours, d3 := byteOf s.fan.shortfall,
                d4 := 0 }
  | 6 => some { d1 := byteOf s.line.faultCount, d2 := byteOf (lineCode (lineState s)),
                d3 := byteOf s.line.rxFaults, d4 := 0 }
  | 7 => some { d1 := byteOf s.line.overruns, d2 := byteOf s.line.drops, d3 := byteOf s.line.clashes,
                d4 := 0 }
  | 8 => some { d1 := highByte s.frost.thawTotal, d2 := lowByte s.frost.thawTotal,
                d3 := highByte s.frost.failedTotal, d4 := lowByte s.frost.failedTotal }
  | 9 => some { d1 := BitVec.ofNat 8 (s.cond.set.toNat / 256), d2 := BitVec.ofNat 8 (s.cond.set.toNat % 256),
                d3 := byteOf s.cond.leading, d4 := 0 }
  | _ => none

/-- The data of a READ page, none for an unknown page (R51). -/
def readPage (s : State) (page : Nat) : Option PageData :=
  if 17 ≤ page ∧ page ≤ 28 then some (peerPage s (page - 16))
  else if 32 ≤ page ∧ page ≤ 52 then paramPage s (page - 32)
  else blockPage s page

/-! ### Replies (R182) -/

/-- The reply to a request: its kind and index are copied, its payload is fixed at queueing (R51). -/
def reply (f : RxFrame) (kind : RequestKind) (status : ReplyStatus) (index : Byte) (d : PageData)
    (s : State) : State :=
  queueReply (replyBytes f.node kind status index d.d1 d.d2 d.d3 d.d4) s

/-- Each request applied in SETUP reloads the inactivity timer (R180). -/
def reloadInactivity (s : State) : State :=
  if s.mode.mode = .setup then
    s.withMode { s.mode with inactivity := some (Count.later s.time.now inactivityCounts) }
  else s

/-- A service request is taken; in START it draws no reply and, but for CLEAR and SETUP ENTER, has no
effect (R176, R178, R182). A waiting flush ends when the queue no longer holds its notices. -/
def serve (answer : State → State) (s : State) : State :=
  if s.mode.mode = .start then s else settleFlush (answer (reloadInactivity s))

/-! ### READ and SET (R51, R181) -/

def isRequest (kind : RequestKind) : Notice → Bool
  | .request k _ _ => k = kind
  | _ => false

def answerRead (f : RxFrame) (index : Byte) (s : State) : State :=
  match readPage s index.toNat with
  | some d => reply f .read .done index d s
  | none => reply f .read .noSuch index zeroPage s

def applyRead (f : RxFrame) (n : Notice) (s : State) : State :=
  match n with
  | .request _ index _ => serve (answerRead f index) s
  | _ => s

def execRead (t : Count) (s : State) : Outcome State Fault Refusal :=
  .next (finish (takeNotice .request (isRequest .read) applyRead (advanceTo t s)))

/-- A parameter is written; a value different from the one held sets the changed mark (R181). -/
def writeParam (i : Fin 21) (v : BitVec 16) (s : State) : State :=
  s.withSvc { s.svc with
    params := s.svc.params.set i v
    changed := s.svc.changed || decide (s.svc.params[i] ≠ v) }

/-- The answer to a SET in SETUP (R181). -/
def answerSetIn (f : RxFrame) (index value : Byte) (s : State) : State :=
  match paramIndex index.toNat with
  | none => reply f .set .noSuch index zeroPage s
  | some i =>
    let taken := carriedTaken s i value.toNat
    reply f .set (if taken = (value.toNat : Int) then .done else .clamped) index
      { zeroPage with d1 := BitVec.ofInt 8 taken }
      (writeParam i (BitVec.ofInt 16 (storedForm i taken)) s)

/-- The answer to a SET: the mode is checked before the index (R181, R182). -/
def answerSet (f : RxFrame) (index value : Byte) (s : State) : State :=
  if s.mode.mode = .setup then answerSetIn f index value s
  else reply f .set .notInSetup index zeroPage s

def applySet (f : RxFrame) (n : Notice) (s : State) : State :=
  match n with
  | .request _ index value => serve (answerSet f index value) s
  | _ => s

def execSet (t : Count) (s : State) : Outcome State Fault Refusal :=
  .next (finish (takeNotice .request (isRequest .set) applySet (advanceTo t s)))

/-! ### SETUP ENTER and SETUP LEAVE (R178 to R180) -/

/-- SETUP ENTER in JOIN, RUN and REST enters SETUP with its reply after the LEAVE; in SETUP it is answered
(R179, R182). -/
def answerEnter (f : RxFrame) (index : Byte) (s : State) : State :=
  if s.mode.mode = .setup then reply f .setupEnter .done index zeroPage s
  else reply f .setupEnter .done index zeroPage (setupFromModes s)

/-- SETUP ENTER: in the SETUP window of START it enters SETUP with its reply (R178). -/
def applyEnter (f : RxFrame) (n : Notice) (s : State) : State :=
  match n with
  | .request _ index _ =>
    if s.mode.mode = .start then
      if s.mode.setupWindow.isSome then reply f .setupEnter .done index zeroPage (setupFromStart s) else s
    else serve (answerEnter f index) s
  | _ => s

def execSetupEnter (t : Count) (s : State) : Outcome State Fault Refusal :=
  .next (finish (takeNotice .request (isRequest .setupEnter) applyEnter (advanceTo t s)))

/-- SETUP LEAVE in SETUP: DONE, and JOIN at once or at the end of the flush; NOT IN SETUP elsewhere (R180,
R182). -/
def answerLeave (f : RxFrame) (index : Byte) (s : State) : State :=
  if s.mode.mode = .setup then
    let s1 := reply f .setupLeave .done index zeroPage s
    if s1.mode.setupFlush.isSome then s1.withMode { s1.mode with leaveAsked := true } else joinFromSetup s1
  else reply f .setupLeave .notInSetup index zeroPage s

def applySetupLeave (f : RxFrame) (n : Notice) (s : State) : State :=
  match n with
  | .request _ index _ => serve (answerLeave f index) s
  | _ => s

def execSetupLeave (t : Count) (s : State) : Outcome State Fault Refusal :=
  .next (finish (takeNotice .request (isRequest .setupLeave) applySetupLeave (advanceTo t s)))

/-! ### CLEAR and FILTER RESET (R174, R185) -/

def answerClear (f : RxFrame) (index : Byte) (s : State) : State :=
  reply f .clear .done index zeroPage (clearLatches s)

/-- A CLEAR, which in START acts without a reply (R176, R178, R185). -/
def applyClear (f : RxFrame) (n : Notice) (s : State) : State :=
  match n with
  | .request _ index _ =>
    if s.mode.mode = .start then clearLatches s else serve (answerClear f index) s
  | _ => s

def execClear (t : Count) (s : State) : Outcome State Fault Refusal :=
  .next (finish (takeNotice .request (isRequest .clear) applyClear (advanceTo t s)))

def answerFilterReset (f : RxFrame) (index : Byte) (s : State) : State :=
  reply f .filterReset .done index zeroPage (resetFilter s)

def applyFilterReset (f : RxFrame) (n : Notice) (s : State) : State :=
  match n with
  | .request _ index _ => serve (answerFilterReset f index) s
  | _ => s

def execFilterReset (t : Count) (s : State) : Outcome State Fault Refusal :=
  .next (finish (takeNotice .request (isRequest .filterReset) applyFilterReset (advanceTo t s)))

/-! ### The timers of SETUP (R178 to R180) -/

def inactivityEnds (s : State) : State :=
  match s.mode.inactivity with
  | some i => if s.mode.mode = .setup then joinFromSetup (advanceTo i s) else s
  | none => s

/-- Ten minutes in SETUP without a request (R180). -/
def execInactivityTimerExpiry (s : State) : Outcome State Fault Refusal := .next (finish (inactivityEnds s))

/-- The SETUP flush ends: a LEAVE still queued at its end instant is withdrawn (R179). -/
def setupFlushEnds (s : State) : State :=
  match s.mode.setupFlush with
  | some i =>
    if s.mode.mode = .setup then
      if leaveQueued s then endSetupFlush (withdraw isLeave (advanceTo i s)) else endSetupFlush s
    else s
  | none => s

def execSetupFlushEnd (s : State) : Outcome State Fault Refusal := .next (finish (setupFlushEnds s))

def setupWindowEnds (s : State) : State :=
  match s.mode.setupWindow with
  | some i => if s.mode.mode = .start then joinEntry (advanceTo i s) else s
  | none => s

/-- The SETUP window of START ends, and JOIN is entered (R178). -/
def execSetupWindowEnd (s : State) : Outcome State Fault Refusal := .next (finish (setupWindowEnds s))

/-! ### Store writes (R183) -/

/-- A store write ends with the image read back: a match ends STORE DEFAULT, a mismatch makes it active;
the RUN timer restarts, and a further write starts (R183). -/
def endWrite (readBack : StoreImage) (s : State) : State :=
  match s.svc.writing with
  | none => s
  | some image =>
    let s1 := s.withSvc { s.svc with
      writing := none, store := readBack, storeDefault := decide (readBack ≠ image) }
    let s2 := s1.withTime { s1.time with runTime := 0 }
    if s2.svc.further then startWrite s2 else s2

def execStoreWriteComplete (t : Count) (readBack : StoreImage) (s : State) :
    Outcome State Fault Refusal :=
  .next (finish (endWrite readBack (advanceTo t s)))

/-- Eight hours in RUN since the last write: a store write is requested (R183). -/
def runTimerEnds (s : State) : State :=
  if s.mode.mode = .run ∧ eightHourCounts ≤ s.time.runTime then
    requestWrite (s.withTime { s.time with runTime := s.time.runTime - eightHourCounts })
  else s

def execStoreRunTimerExpiry (t : Count) (s : State) : Outcome State Fault Refusal :=
  .next (finish (runTimerEnds (advanceTo t s)))

/-! ### The indicator (R184) -/

/-- The next part of the indicator's pattern begins (R184). -/
def nextPart (s : State) : State :=
  if s.mode.startHold.isSome then s
  else
    s.withCond { s.cond with
      phase := (s.cond.phase + 1) % (patternParts (patternOf s.cond.leading)).length }

def execIndicatorCycle (t : Count) (s : State) : Outcome State Fault Refusal :=
  .next (finish (nextPart (advanceTo t s)))

end Sys2Proof.Machine
end

