-- ==== Sys2Proof/Machine/ModeCtl.lean ====
section
/-! DEFINITION. Power-on and the end of the START hold (R2, R74, R166, R176 to R178). -/

namespace Sys2Proof.Machine

open Host (Outcome)

/-! ### POWER_ON_RESET (R176) -/

/-- A store image from its 54 bytes as one number: 26 words from the lowest bits up, then the filter state
and the check byte (log 6). -/
def imageOfBits (b : BitVec 432) : StoreImage :=
  { params := Vector.ofFn fun i => b.extractLsb' (16 * i.val) 16
    refIn := b.extractLsb' 336 16
    refOut := b.extractLsb' 352 16
    hours := b.extractLsb' 368 16
    thawTotal := b.extractLsb' 384 16
    failedTotal := b.extractLsb' 400 16
    filterState := filterOf ((b.extractLsb' 416 8).toNat % 4)
    check := b.extractLsb' 424 8 }

/-- What the store holds at power-on: its image, or after a write cut short a free value (R183; log 6). -/
def storeAtPowerOn (v : ServiceUnit) : StoreImage :=
  if v.writing.isSome then imageOfBits (Config.tornImage v.freeUses) else v.store

/-- The uses of free values that a power-on makes. -/
def usesAtPowerOn (v : ServiceUnit) : Nat :=
  if v.writing.isSome then v.freeUses + 1 else v.freeUses

/-- Every block takes its power-on value; the store and the waiting commands are kept. The time base and
the instants of START count from `t`; a flap whose closed contact is not made travels toward closed (R101,
R176; log 11, log 28). STORE DEFAULT is off until the store is checked, also where a failed write had set it: the spec
states no power-on value for it, and this one is the model's choice (R183; log 56). -/
def powerOn (t : Count) (flapClosed : Bool) (s : State) : State :=
  let r := State.reset
  let s1 := r.withTime { r.time with now := t }
  let s2 := s1.withMode { s1.mode with startHold := some (Count.later t startHoldCounts) }
  let s3 := s2.withFan { s2.fan with
    nextStep := Count.later t stepCounts
    travel := if flapClosed then none else some (Count.later t travelCounts) }
  let s4 := s3.withSvc { s3.svc with store := storeAtPowerOn s.svc, freeUses := usesAtPowerOn s.svc }
  s4.withPending s.pending

def execPowerOnReset (t : Count) (flapClosed : Bool) (s : State) : Outcome State Fault Refusal :=
  .next (finish (powerOn t flapClosed s))

/-! ### START_HOLD_END (R176, R177) -/

/-- The straps are read into the own record (R1, R176). -/
def readStraps (x : Straps) (s : State) : State :=
  s.withOwn { s.own with
    node := x.node.toNat, lead := x.lead, facade := x.facade, room := x.room }

/-- The crystal check at the end of the hold (R74). -/
def checkCrystal (s : State) : State :=
  if s.time.crystalReady then s.withTime { s.time with quality := .crystal, crystalReady := false } else s

/-- The values of an image that passes its check (R127, R166, R177; log 35). -/
def takeImage (i : StoreImage) (s : State) : State :=
  let s1 := s.withSvc { s.svc with params := i.params }
  let s2 := s1.withFilt { s1.filt with
    refIn := i.refIn.toNat, refOut := i.refOut.toNat
    learning := if i.refIn = 0 ∧ i.refOut = 0 then some 0 else none
    state := i.filterState, hours := i.hours.toNat }
  s2.withFrost { s2.frost with thawTotal := i.thawTotal.toNat, failedTotal := i.failedTotal.toNat }

/-- The values taken when the check fails, with STORE DEFAULT active (R177). -/
def takeDefaults (s : State) : State :=
  let s1 := s.withSvc { s.svc with params := defaultParams, storeDefault := true }
  let s2 := s1.withFilt { s1.filt with
    refIn := 250, refOut := 250, learning := none, state := .clean, hours := 0 }
  s2.withFrost { s2.frost with thawTotal := 0, failedTotal := 0 }

/-- The store image is read and checked (R177). -/
def readStore (s : State) : State :=
  if imageOk s.svc.store then takeImage s.svc.store s else takeDefaults s

/-- A valid NODE opens the SETUP window, any other makes STRAP INVALID active; the indicator begins its
pattern (R176, R178, R184). -/
def openSetupWindow (s : State) : State :=
  let valid := ventilatorNode s.own.node
  let s1 := s.withMode { s.mode with
    startHold := none
    strapInvalid := !valid
    setupWindow := if valid then some (Count.later s.time.now setupWindowCounts) else none }
  s1.withCond { s1.cond with phase := 0 }

/-- Line sampling starts (R20, R176). -/
def startSampling (s : State) : State := s.withLine { s.line with sampling := true }

def endStartHold (straps : Straps) (s : State) : State :=
  match s.mode.startHold with
  | some i =>
    openSetupWindow (startSampling (readStore (readStraps straps (checkCrystal (advanceTo i s)))))
  | none => s

def execStartHoldEnd (straps : Straps) (s : State) : Outcome State Fault Refusal :=
  .next (finish (endStartHold straps s))

end Sys2Proof.Machine
end

