-- ==== Sys2Proof/Machine/Dispatch.lean ====
section
/-! DEFINITION. The dispatch: one arm per command, each one call of its meaning. -/

namespace Sys2Proof.Machine

def exec (i : Instr) (s : State) : Host.Outcome State Fault Refusal :=
  match i with
  | .powerOnReset t flapClosed => Sys2Proof.Machine.execPowerOnReset t flapClosed s
  | .startHoldEnd straps => Sys2Proof.Machine.execStartHoldEnd straps s
  | .setupWindowEnd => Sys2Proof.Machine.execSetupWindowEnd s
  | .crystalLoss t => Sys2Proof.Machine.execCrystalLoss t s
  | .crystalReady t => Sys2Proof.Machine.execCrystalReady t s
  | .lineIdle t => Sys2Proof.Machine.execLineIdle t s
  | .sendAttempt t => Sys2Proof.Machine.execSendAttempt t s
  | .lostArbitration t => Sys2Proof.Machine.execLostArbitration t s
  | .readbackError t => Sys2Proof.Machine.execReadbackError t s
  | .cleanSend t => Sys2Proof.Machine.execCleanSend t s
  | .lineStuckCharge t => Sys2Proof.Machine.execLineStuckCharge t s
  | .cutOffTimerExpiry => Sys2Proof.Machine.execCutOffTimerExpiry s
  | .frameAbandoned t cause => Sys2Proof.Machine.execFrameAbandoned t cause s
  | .frameReceived t levels => Sys2Proof.Machine.execFrameReceived t levels s
  | .phaseNotice t => Sys2Proof.Machine.execPhaseNotice t s
  | .leaveNotice t => Sys2Proof.Machine.execLeaveNotice t s
  | .changeNotice t => Sys2Proof.Machine.execChangeNotice t s
  | .statusNotice t => Sys2Proof.Machine.execStatusNotice t s
  | .claimNotice t => Sys2Proof.Machine.execClaimNotice t s
  | .houseLevel t => Sys2Proof.Machine.execHouseLevel t s
  | .houseRest t => Sys2Proof.Machine.execHouseRest t s
  | .houseResume t => Sys2Proof.Machine.execHouseResume t s
  | .houseWake t => Sys2Proof.Machine.execHouseWake t s
  | .read t => Sys2Proof.Machine.execRead t s
  | .set t => Sys2Proof.Machine.execSet t s
  | .setupEnter t => Sys2Proof.Machine.execSetupEnter t s
  | .setupLeave t => Sys2Proof.Machine.execSetupLeave t s
  | .clear t => Sys2Proof.Machine.execClear t s
  | .filterReset t => Sys2Proof.Machine.execFilterReset t s
  | .inactivityTimerExpiry => Sys2Proof.Machine.execInactivityTimerExpiry s
  | .setupFlushEnd => Sys2Proof.Machine.execSetupFlushEnd s
  | .reversalExpiry => Sys2Proof.Machine.execReversalExpiry s
  | .enterRun => Sys2Proof.Machine.execEnterRun s
  | .listenEnd => Sys2Proof.Machine.execListenEnd s
  | .gatherWindowClose => Sys2Proof.Machine.execGatherWindowClose s
  | .claimWindowClose => Sys2Proof.Machine.execClaimWindowClose s
  | .statusTimerExpiry => Sys2Proof.Machine.execStatusTimerExpiry s
  | .passGrant t => Sys2Proof.Machine.execPassGrant t s
  | .evaluationGrant t => Sys2Proof.Machine.execEvaluationGrant t s
  | .passComplete t => Sys2Proof.Machine.execPassComplete t s
  | .fanStep => Sys2Proof.Machine.execFanStep s
  | .coastEnd => Sys2Proof.Machine.execCoastEnd s
  | .rampUpEnd => Sys2Proof.Machine.execRampUpEnd s
  | .flowShort => Sys2Proof.Machine.execFlowShort s
  | .stall => Sys2Proof.Machine.execStall s
  | .tachometerPulse t micros => Sys2Proof.Machine.execTachometerPulse t micros s
  | .speedTimeout => Sys2Proof.Machine.execSpeedTimeout s
  | .flapEndReached t => Sys2Proof.Machine.execFlapEndReached t s
  | .flapFault => Sys2Proof.Machine.execFlapFault s
  | .trialStart t => Sys2Proof.Machine.execTrialStart t s
  | .midHalfPoint => Sys2Proof.Machine.execMidHalfPoint s
  | .endOfHalfPoint => Sys2Proof.Machine.execEndOfHalfPoint s
  | .conversionComplete t result => Sys2Proof.Machine.execConversionComplete t result s
  | .climateEvaluationComplete t => Sys2Proof.Machine.execClimateEvaluationComplete t s
  | .restSamplingTimerExpiry => Sys2Proof.Machine.execRestSamplingTimerExpiry s
  | .filterEvaluationComplete t => Sys2Proof.Machine.execFilterEvaluationComplete t s
  | .filterHours t => Sys2Proof.Machine.execFilterHours t s
  | .buttonPress t => Sys2Proof.Machine.execButtonPress t s
  | .buttonRelease t => Sys2Proof.Machine.execButtonRelease t s
  | .buttonHold10s => Sys2Proof.Machine.execButtonHold10s s
  | .buttonBoostExpiry => Sys2Proof.Machine.execButtonBoostExpiry s
  | .humidityRunOnExpiry => Sys2Proof.Machine.execHumidityRunOnExpiry s
  | .holdExpiry => Sys2Proof.Machine.execHoldExpiry s
  | .restTimerExpiry => Sys2Proof.Machine.execRestTimerExpiry s
  | .restFlushEnd => Sys2Proof.Machine.execRestFlushEnd s
  | .storeWriteComplete t readBack => Sys2Proof.Machine.execStoreWriteComplete t readBack s
  | .storeRunTimerExpiry t => Sys2Proof.Machine.execStoreRunTimerExpiry t s
  | .indicatorCycle t => Sys2Proof.Machine.execIndicatorCycle t s
  | .frameStart t => Sys2Proof.Machine.execFrameStart t s

end Sys2Proof.Machine
end

