-- ==== Sys2Proof/Machine/Step.lean ====
section
/-! DEFINITION. One step: the front command is taken from the queue and run; with no command waiting, one count of the
time base passes. -/

namespace Sys2Proof.Machine

/-- The step of the block. On an empty queue the own time base advances by one count (R53; DESIGN CHOICE, log 2). -/
def step (s : State) : Host.Outcome State Fault Refusal :=
  match s.pending with
  | [] => .next (finish (tick s))
  | c :: rest => exec c (s.withPending rest)

/-- `s` with the command that a word spells put at the front of its queue. The table gives no row any bits,
so no word spells a command (log 8). -/
def State.withFetchWord (s : State) (nbits w : Nat) : State :=
  match decodeTableWord nbits w with
  | some c => s.withPending (c :: s.pending)
  | none => s

end Sys2Proof.Machine
end

