-- ==== Sys2Proof/Safety.lean ====
section
/-! DEFINITION. What counts as a safe state: the ranges and relations that the spec states for the station's state, as
the invariants that statements use. -/

namespace Sys2Proof.Safety

open Sys2Proof.Machine

/-! ### Frames -/

/-- The blocks of the station's state, and the queue of waiting commands. -/
inductive Block where
  | mode | own | line | peers | rev | time | unit | pass | fan | clim | frost | demand | filt | cond | svc
  | pending
  deriving DecidableEq, Repr

/-- A block is the same in two states. -/
def kept (s t : State) : Block → Prop
  | .mode => t.mode = s.mode
  | .own => t.own = s.own
  | .line => t.line = s.line
  | .peers => t.peers = s.peers
  | .rev => t.rev = s.rev
  | .time => t.time = s.time
  | .unit => t.unit = s.unit
  | .pass => t.pass = s.pass
  | .fan => t.fan = s.fan
  | .clim => t.clim = s.clim
  | .frost => t.frost = s.frost
  | .demand => t.demand = s.demand
  | .filt => t.filt = s.filt
  | .cond => t.cond = s.cond
  | .svc => t.svc = s.svc
  | .pending => t.pending = s.pending

/-- Every block but those listed is the same in two states. -/
def othersKept (changed : List Block) (s t : State) : Prop := ∀ b, b ∉ changed → kept s t b

/-! ### Ranges and relations -/

/-- The line fault count lies within 0 to 64, the event counts within 0 to 255, the clash age within 0 to 8
(R37, R38, R39). -/
def countsInRange (l : LineControl) : Prop :=
  l.faultCount ≤ 64 ∧ l.rxFaults ≤ 255 ∧ l.overruns ≤ 255 ∧ l.drops ≤ 255 ∧ l.clashes ≤ 255 ∧
    l.clashAge ≤ 8

/-- The receive queue holds at most 2 frames (R36). -/
def receiveQueueFits (l : LineControl) : Prop := l.rxq.length ≤ 2

/-- Each element's key lies below the keys of all that follow. -/
def ascending {α : Type} (key : α → Nat) (xs : List α) : Prop := xs.Pairwise fun a b => key a < key b

/-- The entry on the line, if any, is the only one, and only while the station sends (R26). -/
def oneOnLine (l : LineControl) : Prop :=
  (l.txq.filter fun e => e.onLine).length ≤ 1 ∧ ((∃ e ∈ l.txq, e.onLine = true) → l.phase = .sending)

/-- A replacement waits only while the entry of its class is on the line (R30, R31). -/
def replacementWaits (l : LineControl) : Prop :=
  ∀ r ∈ l.replacement.toList, r.onLine = false ∧ ∃ e ∈ l.txq, e.onLine = true ∧ e.cls = r.cls

/-- The transmit queue: at most 4 entries, at most one of each class, in ascending RANK order, all from one
node, with attempt counts 0 to 2 (R30). -/
def sendQueueShaped (l : LineControl) : Prop :=
  l.txq.length ≤ 4 ∧ (l.txq.map fun e => e.cls).Nodup ∧ ascending TxEntry.rank l.txq ∧
    (∀ e ∈ l.txq, e.attempts ≤ 2)

/-- F lies at or below C, and while the direction is HALT D, C and F are 0 (R3, R4, R5). -/
def flowBounded (o : OwnRecord) : Prop :=
  o.flow ≤ o.ceil ∧ (o.direction = .halt → o.want = 0 ∧ o.ceil = 0 ∧ o.flow = 0)

/-- Records are of age 0 to 3, climate parts of climate age 0 to 15 (R15, R16). -/
def tableAged (p : PeerTable) : Prop :=
  ∀ r ∈ p.records, r.age < 4 ∧ ∀ c ∈ r.climate.toList, c.age < 16

/-- The peer table is kept in ascending node order, one record a node (R9). -/
def tableSorted (p : PeerTable) : Prop := ascending PeerRecord.node p.records

/-- The fan states in which the flap is commanded open (R101). -/
def flapOpenState : FanState → Bool
  | .flapOpening => true
  | .rampUp => true
  | .running => true
  | .rampDown => true
  | .coast => true
  | .flapClosing => false
  | .stopped => false

/-- The flap command is OPEN in FLAP OPENING, RAMP UP, RUNNING, RAMP DOWN and COAST, and CLOSED in FLAP
CLOSING and STOPPED (R101). -/
def flapFollows (f : FanDrive) : Prop := f.flap = if flapOpenState f.state then .openFlap else .closed

/-- The duty lies within 0 to 1000, the measured speed within 0 to 2550, the sample window within 120
entries (R95, R112). -/
def driveInRange (f : FanDrive) : Prop := f.duty ≤ 1000 ∧ f.speed ≤ 2550 ∧ f.window.length ≤ 120

/-- The counts of the frost guard within their ranges (R127). -/
def frostInRange (f : FrostGuard) : Prop :=
  f.severity ≤ 7 ∧ f.rise ≤ 3 ∧ f.fall ≤ 2 ∧ f.warm ≤ 2 ∧ f.lockHalves ≤ 20 ∧ f.thawHalves ≤ 4 ∧
    f.holdOff ≤ 6 ∧ f.failed ≤ 3 ∧ f.thawTotal ≤ 65535 ∧ f.failedTotal ≤ 65535

/-- A lockout cause is held exactly in LOCKOUT (R127). -/
def causeHeld (f : FrostGuard) : Prop := f.cause.isSome = true ↔ f.stage = .lockout

/-- No post-thaw window is open in LOCKOUT, whose entry closes it (R136). -/
def windowClosedInLockout (f : FrostGuard) : Prop := f.stage = .lockout → f.postThaw = none

/-- A sensor's invalid count, with the third invalid result latching it (R115), and the lengths that climate
sensing keeps (R122). -/
def climateInRange (c : ClimateSensing) : Prop :=
  c.outer.invalid ≤ 2 ∧ c.inner.invalid ≤ 2 ∧ c.rhSensor.invalid ≤ 2 ∧ c.ratios.length ≤ 8

/-- The filter supervisor's values within their ranges (R166, R171). -/
def filterInRange (f : FilterSupervisor) : Prop :=
  f.loadIn ≤ 1000 ∧ f.loadOut ≤ 1000 ∧ f.loading ≤ 1000 ∧ f.ceilIn ≤ 120 ∧ f.ceilOut ≤ 120 ∧
    f.runLoaded ≤ 30 ∧ f.runChange ≤ 30 ∧ f.runBlocked ≤ 30 ∧ f.hours ≤ 65535

/-- The conditions that the condition unit shows are those whose causes hold, and the leading condition is
the highest of them (R184). -/
def conditionsFollow (s : State) : Prop :=
  s.cond.set = conditionBits (activeConditions s) ∧ s.cond.leading = leadingOf (activeConditions s)

/-- RUN work ends with RUN: outside RUN no window is open, no tally kept, no point fixed, no claim listed,
no sample held (R72, R125, R145, R168). -/
def runWorkOnlyInRun (s : State) : Prop :=
  s.mode.mode ≠ .run →
    s.rev.gather = none ∧ s.rev.claimWindow = none ∧ s.rev.statusTimer = none ∧ s.rev.tally = [] ∧
    s.clim.midPoint = none ∧ s.clim.endPoint = none ∧ s.frost.claims = [] ∧ s.filt.held = none

/-- The transmit queue as a whole, for a station with a node number of 4 bits: its shape, one entry on the line, a
replacement only behind it, and every entry from a node below 16, as RANK has room for (R30, R31, R43). -/
def sendQueueWhole (s : State) : Prop :=
  sendQueueShaped s.line ∧ oneOnLine s.line ∧ replacementWaits s.line ∧ s.own.node ≤ 15 ∧
    (∀ e ∈ s.line.txq, e.node ≤ 15) ∧ (∀ e ∈ s.line.replacement.toList, e.node ≤ 15)

/-! ### What statements measure -/

/-- The sum of the flows that a balance pass gives the participants of a side (R83). -/
def flowSum (side : Side) (xs : List (Participant × Nat)) : Nat :=
  ((xs.filter fun x => x.1.side = side).map fun x => x.2).sum

/-- A CLEAR check of a source waits, or is being converted (R114, R116). -/
def checkAsked (c : ClimateSensing) (src : Source) : Bool :=
  (waitingFor c src).contains .clearCheck ||
    c.converting.any fun x => x.source = src && x.purposes.contains .clearCheck

/-- `u` stands at the entry to JOIN, made from `s`: the mode block and the own record, the reversal timer listening for
2L + 3072 counts, the pass and its record, the sample sets and REST sampling, the claims, the REST timer and flush, the
fan's references and the peer table (R2, R18, R69, R76, R95, R117, R124, R145, R147, R180). -/
def joinEntered (s u : State) : Prop :=
  u.mode.mode = .join ∧ u.mode.setupWindow = none ∧ u.mode.inactivity = none ∧ u.mode.setupFlush = none ∧
    u.own.k = none ∧ u.own.instant = none ∧ u.own.leaving = false ∧ u.own.direction = .halt ∧
    u.own.want = 0 ∧ u.own.ceil = 0 ∧ u.own.flow = 0 ∧
    u.rev.next = none ∧ u.rev.pendingNumber = none ∧ u.rev.gather = none ∧ u.rev.claimWindow = none ∧
    u.rev.statusTimer = none ∧ u.rev.tally = [] ∧
    u.rev.listening = some (Count.later u.time.now (2 * (paramNat s 0 * 10240) + 3072)) ∧
    u.pass.state = .idle ∧ u.pass.record = { nodes := [], n := 0, thaws := 0 } ∧
    u.fan.cap = none ∧ u.fan.ceilRef = none ∧ u.fan.window = [] ∧ u.fan.wanted = .halt ∧
    u.clim.current = emptySet ∧ u.clim.previous = emptySet ∧ u.clim.restSampling = none ∧
    u.frost.claims = [] ∧ u.frost.granted = false ∧ u.frost.ownClaim = .idle ∧
    u.demand.restTimer = none ∧ u.demand.flush = none ∧ u.demand.heldWake = none ∧ u.filt.held = none ∧
    (tableHeld s = true → u.peers.owedEmptying = true ∧ u.peers.records = s.peers.records) ∧
    (tableHeld s = false → u.peers.records = [])

end Sys2Proof.Safety
end

