-- ==== Sys2Proof/Certificates/Slice0/Obligations.lean ====
section
/-! DEFINITION. The statements for the provers, one proposition each. -/

open Sys2Proof Sys2Proof.Machine Sys2Proof.Safety

/-- A step runs the command at the front of the queue on the state with the rest of the queue. -/
def Obligations.StepRunsTheFrontCommand : Prop :=
  ∀ (i : Instr) (q : List Instr) (s : State), step (s.withPending (i :: q)) = exec i (s.withPending q)

/-- The own time base moves forward only, by one count on an empty queue, and no command but power-on moves it back.
A convention of the model: log 1, 2. -/
def Obligations.TimeBaseAdvances : Prop :=
  (∀ s : State, s.pending = [] →
    ∃ u, step s = .next u ∧ u.time.now = s.time.now + 1 ∧ u.time.quality = s.time.quality ∧
      u.time.crystalReady = s.time.crystalReady ∧ othersKept [.time, .cond] s u) ∧
  (∀ (t : Count) (s : State),
    (advanceTo t s).time.now = (if 0 < Count.since t s.time.now then t else s.time.now) ∧
      (advanceTo t s).time.quality = s.time.quality ∧
      (advanceTo t s).time.crystalReady = s.time.crystalReady ∧ othersKept [.time] s (advanceTo t s)) ∧
  (∀ (i : Instr) (s u : State), (∀ t b, i ≠ .powerOnReset t b) → exec i s = .next u →
    0 ≤ Count.since u.time.now s.time.now)

/-- Every command answers a next state whose conditions follow their causes, and leaves the queue of waiting
commands alone. Rests on R184. -/
def Obligations.EveryCommandAnswersWithItsConditions : Prop :=
  ∀ (i : Instr) (s : State), ∃ u, exec i s = .next u ∧ conditionsFollow u ∧ u.pending = s.pending ∧
    (let cause : Nat → Bool := fun c =>
      (c = 1 && (u.demand.humidity = .active || u.demand.humidity = .runOn)) ||
      (c = 2 && u.filt.state = .change) ||
      (c = 3 && u.svc.storeDefault) ||
      (c = 4 && u.time.quality = .coarse) ||
      (c = 5 && 32 ≤ u.line.faultCount && u.line.faultCount < 64) ||
      (c = 6 && u.line.clashAge < 8) ||
      (c = 7 && 64 ≤ u.line.faultCount) ||
      (c = 8 && (u.frost.stage = .trim || u.frost.stage = .claiming || u.frost.stage = .thaw)) ||
      (c = 9 && u.filt.state = .blocked) ||
      (c = 10 && u.frost.stage = .lockout) ||
      (c = 11 && (u.clim.outer.latched || u.clim.inner.latched || u.clim.rhSensor.latched)) ||
      (c = 12 && u.fan.latch.isSome) ||
      (c = 13 && u.mode.strapInvalid)
    (∀ c, c < 16 → u.cond.set.getLsbD c = cause c) ∧
      (∀ c, c ≤ 13 → cause c = true → c ≤ u.cond.leading) ∧
      (u.cond.leading = 0 ∨ cause u.cond.leading = true))

/-- Every step keeps the line fault count within 0 to 64, the event counts within 255, the clash age within 8, the
receive queue within 2. -/
def Obligations.LineCountsStayInRange : Prop :=
  ∀ s u : State, (countsInRange s.line ∧ receiveQueueFits s.line) → step s = .next u → (countsInRange u.line ∧ receiveQueueFits u.line)

/-- Every step keeps the transmit queue at most 4 entries, one a class, in ascending RANK, with one entry on the
line while sending. -/
def Obligations.SendQueueKeepsItsShape : Prop :=
  ∀ s u : State, sendQueueWhole s → step s = .next u → sendQueueWhole u

/-- Every step keeps F at or below C, and D, C and F at 0 while the direction is HALT. Rests on R3, R4, R5. -/
def Obligations.FlowStaysBelowItsCeiling : Prop :=
  ∀ s u : State, flowBounded s.own → step s = .next u → flowBounded u.own

/-- Every step keeps peer records at age 0 to 3 and climate age 0 to 15, one a node in ascending order. Rests on R9,
R15, R16. -/
def Obligations.PeerTableStaysYoungAndSorted : Prop :=
  ∀ s u : State, (tableAged s.peers ∧ tableSorted s.peers) → step s = .next u → (tableAged u.peers ∧ tableSorted u.peers)

/-- Every step keeps the flap command OPEN exactly in the open states of the fan, and duty, speed and sample window
in range. Rests on R95, R96, R101, R112. -/
def Obligations.FlapFollowsTheFanState : Prop :=
  ∀ s u : State, (flapFollows s.fan ∧ driveInRange s.fan) → step s = .next u → (flapFollows u.fan ∧ driveInRange u.fan)

/-- Every step keeps the counts of the frost guard in their ranges, a lockout cause exactly in LOCKOUT, and the
post-thaw window closed in LOCKOUT. Rests on R127, R136. -/
def Obligations.FrostCountsStayInRange : Prop :=
  (∀ s u : State, (frostInRange s.frost ∧ causeHeld s.frost) → step s = .next u →
    (frostInRange u.frost ∧ causeHeld u.frost)) ∧
  (∀ s u : State, windowClosedInLockout s.frost → step s = .next u → windowClosedInLockout u.frost)

/-- Every step keeps the invalid counts, the ratio list, and the values of the filter supervisor in their ranges.
Rests on R115, R122, R166. -/
def Obligations.SensingAndFilterStayInRange : Prop :=
  ∀ s u : State, (climateInRange s.clim ∧ filterInRange s.filt) → step s = .next u → (climateInRange u.clim ∧ filterInRange u.filt)

/-- Every step keeps this: outside RUN no window is open, no tally or claim kept, no half-cycle point fixed, no
sample held. Rests on R72, R125, R145. -/
def Obligations.RunWorkEndsWithRun : Prop :=
  ∀ s u : State, runWorkOnlyInRun s → step s = .next u → runWorkOnlyInRun u

/-- The state right after reset meets every invariant, in START with its hold running and nothing queued, sampled or
requested. Rests on R2, R76, R95, R176; the model's choice in log 4. That the timing quality is COARSE at reset
is the model's choice, read from R74 (log 4). -/
def Obligations.ResetMeetsTheInvariants : Prop :=
  countsInRange State.reset.line ∧ receiveQueueFits State.reset.line ∧ sendQueueWhole State.reset ∧
  flowBounded State.reset.own ∧ tableAged State.reset.peers ∧ tableSorted State.reset.peers ∧
  flapFollows State.reset.fan ∧ driveInRange State.reset.fan ∧ frostInRange State.reset.frost ∧
  causeHeld State.reset.frost ∧ windowClosedInLockout State.reset.frost ∧ climateInRange State.reset.clim ∧ filterInRange State.reset.filt ∧
  conditionsFollow State.reset ∧ runWorkOnlyInRun State.reset ∧
  State.reset.mode.mode = .start ∧ State.reset.mode.startHold = some (Count.later State.reset.time.now 2048) ∧
  State.reset.line.sampling = false ∧ State.reset.own.k = none ∧ State.reset.own.instant = none ∧
  State.reset.own.direction = .halt ∧ State.reset.own.want = 0 ∧ State.reset.own.ceil = 0 ∧
  State.reset.own.flow = 0 ∧ State.reset.peers.records = [] ∧ State.reset.line.txq = [] ∧
  State.reset.line.rxq = [] ∧ State.reset.unit.engine = .free ∧ State.reset.fan.state = .stopped ∧
  State.reset.fan.flap = .closed ∧ State.reset.fan.duty = 0 ∧ sensorFault State.reset = false ∧
  State.reset.frost.stage = .noFrost ∧ State.reset.time.quality = .coarse

/-- A two-sided balance pass assigns equal sums to both sides within every ceiling; a completed pass writes F_self,
n and the THAW count. Rests on R81, R82, R83. -/
def Obligations.PassBalancesTheHouse : Prop :=
  (∀ ps : List Participant,
    ((passFlows ps).map fun x => x.1).Perm ps ∧ (∀ x ∈ passFlows ps, x.2 ≤ x.1.ceil) ∧
    (onSide .inward ps = [] ∨ onSide .outward ps = [] →
      ∀ x ∈ passFlows ps, x.2 = min x.1.want x.1.ceil) ∧
    (onSide .inward ps ≠ [] ∧ onSide .outward ps ≠ [] →
      flowSum .inward (passFlows ps) = flowSum .outward (passFlows ps) ∧
      (∀ side, workSum (onSide side ps) ≤ workSum (onSide (otherSide side) ps) →
        ∀ x ∈ passFlows ps,
          (x.1.side = side → min x.1.want x.1.ceil ≤ x.2) ∧
          (x.1.side = otherSide side → x.2 ≤ min x.1.want x.1.ceil)))) ∧
  (∀ (ps : List Participant) (side : Side), ps.Pairwise (fun a b => a.node < b.node) →
    (let takers := ps.filter fun p => p.side = side
     let givers := ps.filter fun p => p.side = otherSide side
     let w : Participant → Nat := fun p => min p.want p.ceil
     let h : Participant → Nat := fun p => p.ceil - w p
     let excess := (givers.map w).sum - (takers.map w).sum
     let room := (takers.map h).sum
     let part : Nat → (Participant → Nat) → List Participant → Participant → Nat :=
       fun total weight xs p =>
         let share : Participant → Nat := fun q => total * weight q / (xs.map weight).sum
         let left := total - (xs.map share).sum
         share p +
           (if share p < weight p ∧
               (xs.filter fun q => q.node < p.node ∧ share q < weight q).length < left then 1 else 0)
     takers ≠ [] → (takers.map w).sum < (givers.map w).sum →
       (excess ≤ room → ∀ x ∈ passFlows ps,
         x.2 = if x.1.side = side then w x.1 + part excess h takers x.1 else w x.1) ∧
       (room < excess → ∀ x ∈ passFlows ps,
         x.2 = if x.1.side = side then x.1.ceil else w x.1 - part (excess - room) w givers x.1))) ∧
  (∀ (t : Count) (s : State) (since : Count) (ms : Nat), s.unit.engine = .pass since ms false →
    ∃ u, exec (.passComplete t) s = .next u ∧
      u.own = { s.own with
        flow := match selfFlow s.own.node s.pass.snapshot with
          | some f => min f s.own.ceil
          | none => s.own.flow } ∧
      u.pass.record.nodes = s.pass.snapshot.map (fun p => p.node) ∧
      u.pass.record.n = s.pass.snapshot.length ∧
      u.pass.record.thaws =
        (s.pass.snapshot.filter fun p => p.stage = .thaw ∧ p.node ≠ s.own.node).length ∧
      u.pass.current = true ∧ u.pass.snapshot = [] ∧ u.unit.engine = .free ∧
      u.pass.state = (match s.pass.state with
        | .idle => .idle
        | .waiting => .waiting
        | .running => .idle
        | .runningOneMore => .waiting) ∧
      u.unit = { s.unit with
        engine := .free, waitPass := s.unit.waitPass || decide (s.pass.state = .runningOneMore) } ∧
      u.peers.records = (if s.peers.owedEmptying then []
        else ageTimes s.peers.owedAgeings s.peers.records) ∧
      u.peers.owedAgeings = 0 ∧ u.peers.owedEmptying = false ∧
      othersKept [.own, .pass, .unit, .peers, .cond] (advanceTo t s) u)

/-- A frame of 0 to 8 payload characters, driven bit by bit, is read back as the good frame that was sent. Rests on
R20, R21, R22, R23. -/
def Obligations.FramesReadAsDriven : Prop :=
  (∀ (rank : Byte) (payload : List Byte), payload.length ≤ 8 →
    readFrame (driveFrame rank payload) = .good rank payload) ∧
  (∀ (rank : Byte) (payload : List Byte) (gap : Nat), payload.length ≤ 8 →
    readFrame ((frameBytes rank payload).flatMap fun b => driveChar b ++ List.replicate gap true) =
      if gap ≤ 48 then .good rank payload else .abandoned) ∧
  (∀ n : Nat, 1 ≤ n → n ≤ 7 → readFrame (List.replicate n false) = .falseStart)

/-- Every PHASE, CHANGE, CLAIM, HOUSE, STATUS and SERVICE REQUEST decodes to the fields placed in it; a wrong sender
or code of a HOUSE or REQUEST is a format error. Rests on R14, R43, R44, R45, R46, R47, R48, R49, R50. -/
def Obligations.AnnouncementsDecodeAsSent : Prop :=
  (∀ (node delay severity : Nat) (urgent : Bool) (a : Announcement) (k : HalfNo) (stamp : Count),
    1 ≤ node → node ≤ 12 → delay < 4096 → severity ≤ 7 → a.want < 256 → a.ceil < 256 → a.cond ≤ 13 →
    decodeNotice { rank := byteOf (rankOf .phase urgent node), payload := phaseBytes a delay, stamp := stamp }
      = some (.phase a delay) ∧
    decodeNotice { rank := byteOf (rankOf .change urgent node), payload := announceBytes a, stamp := stamp }
      = some (.change a) ∧
    decodeNotice { rank := byteOf (rankOf .claim urgent node), payload := claimBytes k severity, stamp := stamp }
      = some (.claim k severity)) ∧
  (∀ (node : Nat) (urgent : Bool) (target kind arg hold : Byte) (stamp : Count), node ≤ 15 →
    decodeNotice
        { rank := byteOf (rankOf .house urgent node), payload := [target, kind, arg, hold], stamp := stamp }
      = (if 13 ≤ node then
          if kind = 0 then
            if arg = 0 then some (.house (.level .setback hold.toNat))
            else if arg = 1 then some (.house (.level .base hold.toNat))
            else if arg = 2 then some (.house (.level .raised hold.toNat))
            else if arg = 3 then some (.house (.level .boost hold.toNat)) else none
          else if kind = 1 then some (.house (.rest arg.toNat))
          else if kind = 2 then some (.house .resume) else none
        else if 1 ≤ node ∧ node ≤ 12 ∧ kind = 3 then some (.house .wake) else none)) ∧
  (∀ (node : Nat) (urgent : Bool) (target kind index value : Byte) (stamp : Count), node ≤ 15 →
    decodeNotice
        { rank := byteOf (rankOf .request urgent node), payload := [target, kind, index, value], stamp := stamp }
      = (if 13 ≤ node then
          if kind = 0 then some (.request .read index value)
          else if kind = 1 then some (.request .set index value)
          else if kind = 2 then some (.request .setupEnter index value)
          else if kind = 3 then some (.request .setupLeave index value)
          else if kind = 4 then some (.request .clear index value)
          else if kind = 5 then some (.request .filterReset index value) else none
        else none)) ∧
  (∀ (node : Nat) (urgent : Bool) (p1 p2 p3 p4 p5 p6 p7 p8 : Byte) (stamp : Count), 1 ≤ node → node ≤ 12 →
    decodeNotice { rank := byteOf (rankOf .status urgent node)
                   payload := [p1, p2, p3, p4, p5, p6, p7, p8], stamp := stamp }
      = (let n : Int := 256 * p1.toNat + p2.toNat
         let v := if n < 32768 then n else n - 65536
         some (.status (if -400 ≤ v ∧ v ≤ 600 then some v else none)
           (if 128 ≤ p8.toNat then .rear else .front)))) ∧
  (∀ s : State, -32768 ≤ s.own.outdoor.getD 0 → s.own.outdoor.getD 0 ≤ 32767 →
    -32768 ≤ s.own.roomTemp.getD 0 → s.own.roomTemp.getD 0 ≤ 32767 →
    ∃ o1 o2 r1 r2 : Byte,
      statusBytes s =
        [o1, o2, r1, r2, byteOf s.own.rh, byteOf (s.own.ratio / 5), byteOf (s.filt.loading / 5),
          byteOf ((match s.own.facade with
              | .front => 0
              | .rear => 128) +
            (match s.own.room with
              | .dry => 0
              | .wet => 32
              | .kitchen => 64
              | .hall => 96) +
            (if s.clim.outer.latched || s.clim.inner.latched || s.clim.rhSensor.latched then 16 else 0))] ∧
      ((256 * o1.toNat + o2.toNat : Nat) : Int) = (s.own.outdoor.getD (-32768)) % 65536 ∧
      ((256 * r1.toNat + r2.toNat : Nat) : Int) = (s.own.roomTemp.getD (-32768)) % 65536)

/-- POWER_ON_RESET puts every block at its power-on value in START with its 2 s hold, and keeps the store and the
waiting commands. Rests on R101, R176, R183; the model's choice in log 4, 5, 28, 56. Four clauses are the
model's choice: that STORE DEFAULT is off, whatever a failed write before had set (log 56); that the time base
begins at the operand (log 28); NODE 0, LEAD 0, FRONT, DRY, default parameters, references 250, hours and totals
0, CLEAN and COARSE as the values before the end of the hold (log 4); that the store keeps its image (log 5). -/
def Obligations.PowerOnPutsEveryBlockAtItsPowerOnValue : Prop :=
  ∀ (t : Count) (closed : Bool) (s : State),
        ∃ u, exec (.powerOnReset t closed) s = .next u ∧
        u.mode = { State.reset.mode with startHold := some (Count.later t 2048) } ∧
        u.own = State.reset.own ∧ u.line = State.reset.line ∧ u.peers = State.reset.peers ∧
        u.rev = State.reset.rev ∧ u.time = { State.reset.time with now := t } ∧
        u.unit = State.reset.unit ∧ u.pass = State.reset.pass ∧
        u.fan = { State.reset.fan with
          nextStep := Count.later t 256
          travel := if closed then none else some (Count.later t 10240) } ∧
        u.clim = State.reset.clim ∧ u.frost = State.reset.frost ∧ u.demand = State.reset.demand ∧
        u.filt = State.reset.filt ∧ u.svc.params = defaultParams ∧ u.svc.changed = false ∧
        u.svc.writing = none ∧ u.svc.further = false ∧ u.svc.storeDefault = false ∧
        (s.svc.writing = none → u.svc.store = s.svc.store) ∧ u.pending = s.pending

/-- START_HOLD_END reads the straps and the store, starts line sampling, makes the crystal check, and opens the
SETUP window for NODE 1 to 12 only. Rests on R74, R166, R176, R177, R178. -/
def Obligations.HoldEndReadsStrapsAndStore : Prop :=
  ∀ (x : Straps) (s : State) (i : Count),
        s.mode.startHold = some i →
        ∃ u, exec (.startHoldEnd x) s = .next u ∧
        u.own = { s.own with node := x.node.toNat, lead := x.lead, facade := x.facade, room := x.room } ∧
        u.line = { s.line with sampling := true } ∧
        (1 ≤ x.node.toNat ∧ x.node.toNat ≤ 12 →
          u.mode = { s.mode with
            startHold := none, strapInvalid := false
            setupWindow := some (Count.later (advanceTo i s).time.now 10240) }) ∧
        (x.node.toNat = 0 ∨ 13 ≤ x.node.toNat →
          u.mode = { s.mode with startHold := none, strapInvalid := true, setupWindow := none }) ∧
        u.time.now = (advanceTo i s).time.now ∧
        u.time.quality = (if s.time.crystalReady then .crystal else s.time.quality) ∧
        (imageOk s.svc.store = true →
          u.svc = { s.svc with params := s.svc.store.params } ∧
          u.filt = { s.filt with
            refIn := s.svc.store.refIn.toNat, refOut := s.svc.store.refOut.toNat
            learning := if s.svc.store.refIn = 0 ∧ s.svc.store.refOut = 0 then some 0 else none
            state := s.svc.store.filterState, hours := s.svc.store.hours.toNat } ∧
          u.frost = { s.frost with
            thawTotal := s.svc.store.thawTotal.toNat, failedTotal := s.svc.store.failedTotal.toNat }) ∧
        (imageOk s.svc.store = false →
          u.svc = { s.svc with params := defaultParams, storeDefault := true } ∧
          u.filt = { s.filt with
            refIn := 250, refOut := 250, learning := none, state := .clean, hours := 0 } ∧
          u.frost = { s.frost with thawTotal := 0, failedTotal := 0 }) ∧
        othersKept [.mode, .own, .line, .time, .frost, .filt, .cond, .svc] s u

/-- CRYSTAL_LOSS makes the timing COARSE at once, CRYSTAL_READY the crystal ready; a TACHOMETER_PULSE sets the
speed, SPEED_TIMEOUT makes it 0. The model's choice in log 12. -/
def Obligations.CrystalAndTachometerInputs : Prop :=
  (∀ (t : Count) (s : State),
        ∃ u, exec (.crystalLoss t) s = .next u ∧
        u.time = { (advanceTo t s).time with quality := .coarse, crystalReady := false } ∧
        othersKept [.time, .cond] s u) ∧
  (∀ (t : Count) (s : State),
        ∃ u, exec (.crystalReady t) s = .next u ∧
        u.time = { (advanceTo t s).time with
          crystalReady := if s.time.quality = .coarse then true else s.time.crystalReady } ∧
        othersKept [.time, .cond] s u) ∧
  (∀ (t : Count) (micros : Nat) (s : State),
        0 < micros →
        ∃ u, exec (.tachometerPulse t micros) s = .next u ∧
        u.fan = { s.fan with
          speed := min (30000000 / micros) 2550, lastPulse := some (advanceTo t s).time.now } ∧
        othersKept [.fan, .cond] (advanceTo t s) u) ∧
  (∀ (s : State) (i : Count),
        s.fan.lastPulse = some i →
        ∃ u, exec (.speedTimeout) s = .next u ∧
        u.fan = { s.fan with speed := 0, lastPulse := none } ∧
        othersKept [.fan, .cond] (advanceTo (Count.later i 512) s) u)

/-- LINE_IDLE, FRAME_START and FRAME_ABANDONED move a sampling line between idle, receiving and waiting for idle,
counting an abandoned frame. Rests on R22. -/
def Obligations.IdleFramesAndAbandonment : Prop :=
  (∀ (t : Count) (s : State),
        s.line.sampling = true →
        s.line.phase = .busy →
        ∃ u, exec (.lineIdle t) s = .next u ∧
        u.line = { s.line with phase := .idle } ∧ othersKept [.line, .cond] (advanceTo t s) u) ∧
  (∀ (t : Count) (s : State),
        s.line.sampling = true →
        s.line.phase = .idle →
        ∃ u, exec (.frameStart t) s = .next u ∧
        u.line = { s.line with phase := .receiving } ∧ othersKept [.line, .cond] (advanceTo t s) u) ∧
  (∀ (t : Count) (cause : AbandonCause) (s : State),
        s.line.sampling = true →
        (s.line.phase = .idle ∨ s.line.phase = .receiving) →
        ∃ u, exec (.frameAbandoned t cause) s = .next u ∧
        u.line = { s.line with phase := .busy, rxFaults := min (s.line.rxFaults + 1) 255 } ∧
        othersKept [.line, .cond] (advanceTo t s) u)

/-- FRAME_RECEIVED of a good frame is decided by the first receive filter that applies; a damaged frame is counted,
a false start is not. Rests on R21, R22, R23, R35, R36, R38. -/
def Obligations.GoodFramesPassTheFilters : Prop :=
  (∀ (t : Count) (rank : Byte) (payload : List Byte) (s : State),
        payload.length ≤ 8 →
        s.line.sampling = true →
        (s.line.phase = .idle ∨ s.line.phase = .receiving) →
        ∃ u, exec (.frameReceived t (driveFrame rank payload)) s = .next u ∧
        u.line =
          (if rank.toNat / 32 = 7 then
            { s.line with phase := .busy, rxFaults := min (s.line.rxFaults + 1) 255 }
          else if rank.toNat % 16 = s.own.node ∧ ¬ (s.mode.mode = .start ∧ s.mode.strapInvalid = true) then
            { s.line with phase := .busy, clashes := min (s.line.clashes + 1) 255, clashAge := 0 }
          else if rank.toNat / 32 = 6 then { s.line with phase := .busy }
          else if (rank.toNat / 32 = 3 ∨ rank.toNat / 32 = 5) ∧
              payload.head?.any (fun x => x.toNat ≠ 0 && x.toNat ≠ s.own.node) = true then
            { s.line with phase := .busy }
          else if s.line.rxq.length < 2 then
            { s.line with
              phase := .busy
              rxq := s.line.rxq ++
                [{ rank := rank, payload := payload, stamp := (advanceTo t s).time.now }] }
          else { s.line with phase := .busy, overruns := min (s.line.overruns + 1) 255 }) ∧
        othersKept [.line, .cond] (advanceTo t s) u) ∧
  (∀ (t : Count) (levels : List LineLevel) (s : State),
        (readFrame levels = .checkFailure ∨ readFrame levels = .abandoned) →
        s.line.sampling = true →
        (s.line.phase = .idle ∨ s.line.phase = .receiving) →
        ∃ u, exec (.frameReceived t levels) s = .next u ∧
        u.line = { s.line with phase := .busy, rxFaults := min (s.line.rxFaults + 1) 255 } ∧
        othersKept [.line, .cond] (advanceTo t s) u) ∧
  (∀ (t : Count) (levels : List LineLevel) (s : State),
        readFrame levels = .falseStart →
        s.line.sampling = true →
        (s.line.phase = .idle ∨ s.line.phase = .receiving) →
        ∃ u, exec (.frameReceived t levels) s = .next u ∧
        u.line = { s.line with phase := .busy } ∧ othersKept [.line, .cond] (advanceTo t s) u)

/-- SEND_ATTEMPT on an idle line puts the first entry not withdrawn on the line with its payload filled from the own
record. Rests on R8, R26, R60; the model's choice in log 13, 29. Three clauses are the model's choice: direction
HALT, DELAY 0 and late 0 of a LEAVE while the own direction still stands (log 13); DELAY 0 and late 0 of a PHASE
without an own reversal instant (log 29); K 0 of a PHASE or CHANGE, not a LEAVE, while k is undefined (log 29). -/
def Obligations.SendAttemptOffersTheLowestRank : Prop :=
  ∀ (t : Count) (s : State) (e : TxEntry),
        s.line.sampling = true →
        s.line.phase = .idle →
        s.line.faultCount < 64 →
        s.line.txq.find? (fun x => !x.withdrawn) = some e →
        ∃ u, exec (.sendAttempt t) s = .next u ∧
        u.line = { s.line with
          phase := .sending
          txq := setEntry
            { e with
              onLine := true
              payload := match e.cls with
                | .phase =>
                  if e.leave then phaseBytes (ownAnnouncement s .halt false) 0
                  else match s.own.instant with
                    | some i =>
                      let d := (Count.since (advanceTo t s).time.now i).toNat
                      if d ≤ 4095 then phaseBytes (ownAnnouncement s s.own.direction false) d
                      else phaseBytes (ownAnnouncement s s.own.direction true) 4095
                    | none => phaseBytes (ownAnnouncement s s.own.direction false) 0
                | .change => announceBytes (ownAnnouncement s s.own.direction false)
                | .status => statusBytes s
                | _ => e.payload }
            s.line.txq } ∧
        othersKept [.line, .cond] (advanceTo t s) u

/-- LOST_ARBITRATION makes the sender a receiver and keeps its entry off the line with its attempt count, or gives
its place to a replacement. Rests on R27, R31, R34, R140; the model's choice in log 34. What the own claim
becomes when a withdrawn CLAIM loses arbitration, NONE, or still QUEUED while a new CLAIM waits as its
replacement, is the model's choice (log 34). -/
def Obligations.LostArbitrationKeepsTheEntry : Prop :=
  ∀ (t : Count) (s : State) (e : TxEntry),
        s.line.phase = .sending →
        s.line.txq.find? (fun x => x.onLine) = some e →
        ¬ (lineState s = .muted ∧ mutedClass e.cls = true) →
        s.mode.setupFlush = none →
        s.demand.flush = none →
        ∃ u, exec (.lostArbitration t) s = .next u ∧
        u.line.phase = .receiving ∧
        u.line.txq =
          (let kept := if e.withdrawn then withoutClass e.cls s.line.txq
            else setEntry { e with onLine := false } s.line.txq
          match s.line.replacement with
          | some r => placeEntry r (withoutClass r.cls kept)
          | none => kept) ∧
        u.line.replacement = none ∧
        u.line = { s.line with phase := u.line.phase, txq := u.line.txq, replacement := u.line.replacement } ∧
        u.frost = { s.frost with
          ownClaim := if e.cls = .claim ∧ e.withdrawn = true ∧ s.frost.ownClaim = .queued ∧
            s.line.replacement = none then .idle else s.frost.ownClaim } ∧
        othersKept [.line, .frost, .cond] (advanceTo t s) u

/-- READBACK_ERROR adds 4 to the line fault count and 1 to the attempt count, and drops the entry at its third
error; a lost arbitration never drops an entry. Rests on R33. -/
def Obligations.ReadbackErrorsChargeAndDrop : Prop :=
  (∀ (t : Count) (s : State) (e : TxEntry),
        s.line.phase = .sending →
        s.line.txq.find? (fun x => x.onLine) = some e →
        e.withdrawn = false →
        s.line.replacement = none →
        s.line.faultCount + 4 < 32 →
        s.mode.setupFlush = none →
        s.demand.flush = none →
        ∃ u, exec (.readbackError t) s = .next u ∧
        u.line = (if e.attempts < 2 then
            { s.line with
              phase := .busy, faultCount := s.line.faultCount + 4
              txq := setEntry { e with onLine := false, attempts := e.attempts + 1 } s.line.txq }
          else
            { s.line with
              phase := .busy, faultCount := s.line.faultCount + 4, drops := min (s.line.drops + 1) 255
              txq := withoutClass e.cls s.line.txq }) ∧
        othersKept [.line, .cond] (advanceTo t s) u) ∧
  (∀ (t : Count) (s : State) (e : TxEntry),
        s.line.phase = .sending →
        s.line.txq.find? (fun x => x.onLine) = some e →
        ∃ u, exec (.readbackError t) s = .next u ∧
        u.line.faultCount = min (s.line.faultCount + 4) 64 ∧
        (2 ≤ e.attempts → s.line.replacement = none → s.mode.mode = .run →
          entryOf e.cls u.line.txq = none ∧
          (e.withdrawn = false → s.line.drops < 255 → s.line.drops < u.line.drops))) ∧
  (∀ (t : Count) (s : State) (e : TxEntry),
        s.line.phase = .sending →
        s.line.txq.find? (fun x => x.onLine) = some e →
        e.withdrawn = false →
        s.line.replacement = none →
        lineState s = .openLine →
        s.mode.setupFlush = none →
        s.demand.flush = none →
        ∃ u, exec (.lostArbitration t) s = .next u ∧
        u.line.txq = setEntry { e with onLine := false } s.line.txq ∧
        u.line.drops = s.line.drops ∧ u.line.faultCount = s.line.faultCount)

/-- CLEAN_SEND removes the entry, takes 1 off the line fault count, lets a replacement in, and reports CEIL and
CLAIM to their owners. Rests on R29, R31, R110, R142; the model's choice in log 25. -/
def Obligations.CleanSendsLeaveAndReport : Prop :=
  (∀ (t : Count) (s : State) (e : TxEntry),
        s.line.phase = .sending →
        s.line.txq.find? (fun x => x.onLine) = some e →
        s.mode.setupFlush = none →
        s.demand.flush = none →
        ∃ u, exec (.cleanSend t) s = .next u ∧
        u.line = { s.line with
          phase := .busy
          faultCount := s.line.faultCount - 1
          txq := match s.line.replacement with
            | some r => placeEntry r (withoutClass r.cls (withoutClass e.cls s.line.txq))
            | none => withoutClass e.cls s.line.txq
          replacement := none } ∧
        (e.cls = .phase ∨ e.cls = .change → e.payload.length = 8 ∨ e.payload.length = 6 →
          u.fan = { s.fan with
            ceilRef := if s.mode.mode = .run ∧ s.own.k = e.payload.head?
              then (e.payload[3]?).map BitVec.toNat else s.fan.ceilRef }) ∧
        (e.cls = .phase ∨ e.cls = .change → u.frost = s.frost) ∧ (e.cls = .claim → u.fan = s.fan) ∧
        (e.cls ≠ .phase ∧ e.cls ≠ .change ∧ e.cls ≠ .claim → u.fan = s.fan ∧ u.frost = s.frost) ∧
        othersKept [.line, .fan, .frost, .cond] (advanceTo t s) u) ∧
  (∀ (t : Count) (s : State) (e : TxEntry) (k : HalfNo) (severity : Byte) (i : Count),
        s.line.phase = .sending →
        s.line.txq.find? (fun x => x.onLine) = some e →
        e.cls = .claim →
        e.payload = [k, severity] →
        s.mode.mode = .run →
        s.own.k = some k →
        s.own.instant = some i →
        0 ≤ Count.since (Count.earlier (advanceTo t s).time.now 5) i →
        Count.since (Count.earlier (advanceTo t s).time.now 5) i < 10240 →
        (∀ x ∈ s.frost.claims, x.node ≠ s.own.node) →
        ∃ u, exec (.cleanSend t) s = .next u ∧
        (let start := Count.earlier (advanceTo t s).time.now 5
        let position := 1 + (s.frost.claims.filter fun x =>
          Count.since x.start i < Count.since start i).length
        u.frost.claims.Perm
            ({ node := s.own.node, k := k, severity := severity.toNat, start := start } :: s.frost.claims) ∧
          u.frost.ownClaim = .placed position ∧
          (s.frost.stage = .claiming →
            u.frost.granted = decide ((position : Int) ≤
              (max 1 (s.pass.record.n / 4) : Nat) - (s.pass.record.thaws : Int))) ∧
          u.frost.stage = s.frost.stage ∧ u.frost.severity = s.frost.severity))

/-- A charge that reaches 32 clears STATUS, HOUSE and REPLY entries; one that reaches 64 empties the queue and
starts the 30 s timer, whose end opens the line. Rests on R39, R40, R41, R42, R176. -/
def Obligations.LineFaultLimitsActAtOnce : Prop :=
  (∀ (t : Count) (s : State),
        s.line.sampling = true →
        s.line.phase ≠ .sending →
        ¬ (s.mode.mode = .start ∧ s.mode.strapInvalid = true) →
        (s.mode.mode = .run ∨ s.line.faultCount + 4 < 32) →
        s.mode.setupFlush = none →
        s.demand.flush = none →
        ∃ u, exec (.lineStuckCharge t) s = .next u ∧
        u.line.faultCount = min (s.line.faultCount + 4) 64 ∧
        (s.line.faultCount + 4 < 32 →
          u.line = { s.line with
            faultCount := s.line.faultCount + 4
            phase := if s.line.phase = .idle then .busy else s.line.phase }) ∧
        (s.line.faultCount < 32 ∧ 32 ≤ s.line.faultCount + 4 →
          u.line.txq = s.line.txq.filter (fun x =>
            !((x.cls = .status || x.cls = .house || x.cls = .reply) && !x.onLine)) ∧
          u.line.replacement =
            s.line.replacement.filter (fun x => !(x.cls = .status || x.cls = .house || x.cls = .reply)) ∧
          u.line.drops = min (s.line.drops
            + (s.line.txq.filter fun x =>
                (x.cls = .status || x.cls = .house || x.cls = .reply) && !x.onLine).length
            + (s.line.replacement.toList.filter fun x =>
                x.cls = .status || x.cls = .house || x.cls = .reply).length) 255) ∧
        (s.line.faultCount < 64 ∧ 64 ≤ s.line.faultCount + 4 →
          u.line.txq = [] ∧ u.line.replacement = none ∧
          u.line.cutOff = some (Count.later (advanceTo t s).time.now 30720) ∧
          u.line.drops = min (s.line.drops + s.line.txq.length + s.line.replacement.toList.length) 255) ∧
        (s.line.faultCount = 64 → u.line.cutOff = s.line.cutOff) ∧
        othersKept [.line, .cond] (advanceTo t s) u) ∧
  (∀ (t : Count) (s : State),
        s.mode.mode = .start →
        s.mode.strapInvalid = true →
        ∃ u, exec (.lineStuckCharge t) s = .next u ∧
        u.line = s.line ∧ othersKept [.cond] (advanceTo t s) u) ∧
  (∀ (t : Count) (s : State) (e : TxEntry),
        s.line.phase = .sending →
        s.line.txq.find? (fun x => x.onLine) = some e →
        s.line.faultCount < 64 →
        64 ≤ s.line.faultCount + 4 →
        e.withdrawn = false →
        s.mode.setupFlush = none →
        s.demand.flush = none →
        ∃ u, exec (.readbackError t) s = .next u ∧
        u.line.txq = [] ∧ u.line.replacement = none ∧ u.line.faultCount = 64 ∧
        u.line.cutOff = some (Count.later (advanceTo t s).time.now 30720) ∧
        u.line.drops = min (s.line.drops + s.line.txq.length + s.line.replacement.toList.length) 255 ∧
        othersKept [.line, .cond] (advanceTo t s) u) ∧
  (∀ (t : Count) (s : State) (e : TxEntry),
        s.line.phase = .sending →
        s.line.txq.find? (fun x => x.onLine) = some e →
        s.line.faultCount < 32 →
        32 ≤ s.line.faultCount + 4 →
        e.withdrawn = false →
        s.line.replacement = none →
        s.mode.setupFlush = none →
        s.demand.flush = none →
        ∃ u, exec (.readbackError t) s = .next u ∧
        u.line.faultCount = s.line.faultCount + 4 ∧ u.line.cutOff = s.line.cutOff ∧
        (∀ x ∈ u.line.txq, x.cls = .status ∨ x.cls = .house ∨ x.cls = .reply →
          x.onLine = true ∧ x.cls ≠ e.cls) ∧
        u.line.drops = min (s.line.drops
          + (s.line.txq.filter fun x =>
              (x.cls = .status || x.cls = .house || x.cls = .reply) && !x.onLine).length
          + (if e.cls = .status ∨ e.cls = .house ∨ e.cls = .reply ∨ 2 ≤ e.attempts then 1 else 0)) 255 ∧
        othersKept [.line, .cond] (advanceTo t s) u) ∧
  (∀ (s : State) (i : Count),
        s.line.cutOff = some i →
        ∃ u, exec (.cutOffTimerExpiry) s = .next u ∧
        u.line = { s.line with cutOff := none, faultCount := 0 } ∧ lineState u = .openLine ∧
        othersKept [.line, .cond] (advanceTo i s) u)

/-- A queued notice supersedes the entry of its class, waits while that entry is on the line, takes a free place, or
is decided by RANK in a full queue. Rests on R31, R32, R40, R41, R58. -/
def Obligations.NoticesQueueBySupersession : Prop :=
  (∀ (e : TxEntry) (s : State), s.line.faultCount < 32 →
    (∀ old, entryOf e.cls s.line.txq = some old → old.onLine = true →
      queueNotice e s = s.withLine { s.line with replacement := some e }) ∧
    (∀ old, entryOf e.cls s.line.txq = some old → old.onLine = false →
      queueNotice e s = s.withLine { s.line with txq := placeEntry e (withoutClass e.cls s.line.txq) }) ∧
    (entryOf e.cls s.line.txq = none → s.line.txq.length < 4 →
      queueNotice e s = s.withLine { s.line with txq := placeEntry e s.line.txq }) ∧
    (entryOf e.cls s.line.txq = none → 4 ≤ s.line.txq.length → ∀ top,
      (s.line.txq.filter fun x => !x.onLine).getLast? = some top →
      queueNotice e s = s.withLine { s.line with
        drops := min (s.line.drops + 1) 255
        txq := if e.rank < top.rank then placeEntry e (withoutClass top.cls s.line.txq)
          else s.line.txq })) ∧
  (∀ (e : TxEntry) (s : State), 32 ≤ s.line.faultCount → s.line.faultCount < 64 →
    (e.cls = .status ∨ e.cls = .house ∨ e.cls = .reply) →
    queueNotice e s = s.withLine { s.line with drops := min (s.line.drops + 1) 255 }) ∧
  (∀ (e : TxEntry) (s : State), 64 ≤ s.line.faultCount → queueNotice e s = s) ∧
  (∀ (s : State) (i : Count), s.mode.mode = .run → s.rev.statusTimer = some i →
    ∃ u, exec .statusTimerExpiry s = .next u ∧
      u.line = (queueNotice (newEntry .status false s.own.node false []) s).line ∧
      u.rev = { s.rev with statusTimer := none } ∧
      othersKept [.line, .rev, .cond] (advanceTo i s) u)

/-- PHASE_NOTICE in RUN writes the sender record, measures the offset, classifies it by L/4 and enters it as the
newest of the half tally. Rests on R10, R12, R61, R62, R63, R77, R85, R86; the model's choice in log 39, 55.
That a K equal to both the own k and the next number, as after an adoption, is measured from the own reversal
instant is the model's choice (log 39). A parameter outside its range, as only a checked store image can bring,
enters the same formula, a negative one as 0 where a number of 0 or more is meant: the model's choice (log 55). -/
def Obligations.PhaseInRunIsMeasured : Prop :=
  ∀ (t : Count) (s : State) (f : RxFrame) (rest : List RxFrame) (a : Announcement) (delay : Nat) (h : HalfNo) (i n : Count),
        tableHeld s = false →
        s.line.rxq = f :: rest →
        decodeNotice f = some (.phase a delay) →
        a.leaving = false →
        s.mode.mode = .run →
        s.own.k = some h →
        s.own.instant = some i →
        s.rev.next = some n →
        ∃ u, exec (.phaseNotice t) s = .next u ∧
        (let tr := Count.earlier (Count.earlier f.stamp 12) (if a.late then 4095 else delay)
        let offset : Option Int :=
          if a.k = h then some (Count.since tr i)
          else if a.k = s.rev.pendingNumber.getD (h + 1) then some (Count.since tr n) else none
        let agrees := offset.any fun o => decide (o.natAbs ≤ paramNat s 0 * 2560)
        u.line = { s.line with rxq := rest } ∧
          peerOf f.node u.peers.records = some
            { recordFor s f.node with
              kp := some a.k, direction := a.direction, want := min a.want 120, ceil := min a.ceil 120
              stage := a.stage, agree := agrees, age := 0 } ∧
          withoutPeer f.node u.peers.records = withoutPeer f.node s.peers.records ∧
          u.rev = { s.rev with
            tally := s.rev.tally.filter (fun e => e.node ≠ f.node) ++
              [{ node := f.node, kp := a.k, agreeing := agrees
                 offset := if agrees ∧ a.quality = .crystal ∧ a.late = false then offset else none
                 tr := tr }] } ∧
          (s.pass.current = true ∧ f.node ∈ s.pass.record.nodes ∧ s.rev.gather = none →
            u.pass.state ≠ .idle) ∧
          (s.rev.gather.isSome = true → u.pass = s.pass ∧ u.unit = s.unit) ∧
          (let again : Bool := decide (s.mode.mode = .run ∧ s.rev.gather = none ∧ ((s.pass.current = true ∧ f.node ∈ s.pass.record.nodes) ∨
            (agrees = true ∧ a.k = h ∧ a.direction ≠ .halt)))
        u.pass = { s.pass with
              state := if again then
                  (match s.pass.state with
                  | .idle => .waiting
                  | .waiting => .waiting
                  | .running => .runningOneMore
                  | .runningOneMore => .runningOneMore)
                else s.pass.state } ∧
            u.unit = { s.unit with
              waitPass := s.unit.waitPass || (again && decide (s.pass.state = .idle)) }) ∧
          othersKept [.line, .peers, .rev, .unit, .pass, .cond] (advanceTo t s) u)

/-- PHASE_NOTICE in JOIN writes the record with agree 0; while listening the first CRYSTAL PHASE with late 0 sets k
and the entry at t_r + L. Rests on R12, R18, R69, R70, R71; the model's choice in log 55. A parameter outside
its range, as only a checked store image can bring, enters the same formula, a negative one as 0 where a number
of 0 or more is meant: the model's choice (log 55). -/
def Obligations.PhaseInJoinIsHeard : Prop :=
  ∀ (t : Count) (s : State) (f : RxFrame) (rest : List RxFrame) (a : Announcement) (delay : Nat),
        tableHeld s = false →
        s.line.rxq = f :: rest →
        decodeNotice f = some (.phase a delay) →
        a.leaving = false →
        (s.mode.mode = .join ∨ s.mode.mode = .rest) →
        ∃ u, exec (.phaseNotice t) s = .next u ∧
        (let tr := Count.earlier (Count.earlier f.stamp 12) (if a.late then 4095 else delay)
        u.line = { s.line with rxq := rest } ∧
          peerOf f.node u.peers.records = some
            { recordFor s f.node with
              kp := some a.k, direction := a.direction, want := min a.want 120, ceil := min a.ceil 120
              stage := a.stage, agree := false, age := 0 } ∧
          withoutPeer f.node u.peers.records = withoutPeer f.node s.peers.records ∧
          (s.mode.mode = .join ∧ s.rev.listening.isSome = true ∧ a.quality = .crystal ∧ a.late = false →
            u.own = { s.own with k := some a.k } ∧
            u.rev = { s.rev with
              listening := none, lastHeard := none
              next := some (Count.later tr (paramNat s 0 * 10240)) }) ∧
          (s.mode.mode = .join ∧ s.rev.listening.isSome = true ∧ (a.quality = .coarse ∨ a.late = true) →
            u.own = s.own ∧ u.rev = { s.rev with lastHeard := some { kp := a.k, tr := tr } }) ∧
          (s.rev.listening = none ∨ s.mode.mode = .rest → u.own = s.own ∧ u.rev = s.rev) ∧
          othersKept [.own, .line, .peers, .rev, .cond] (advanceTo t s) u)

/-- LEAVE_NOTICE removes the record and the tally entry of its sender and nothing else of the table; the loss of a
participant is a re-pass trigger. Rests on R17, R63, R85. -/
def Obligations.LeaveRemovesTheSender : Prop :=
  ∀ (t : Count) (s : State) (f : RxFrame) (rest : List RxFrame) (a : Announcement) (delay : Nat),
        tableHeld s = false →
        s.line.rxq = f :: rest →
        decodeNotice f = some (.phase a delay) →
        a.leaving = true →
        (s.mode.mode = .join ∨ s.mode.mode = .run ∨ s.mode.mode = .rest) →
        ∃ u, exec (.leaveNotice t) s = .next u ∧
        u.line = { s.line with rxq := rest } ∧
        u.peers = { s.peers with records := s.peers.records.filter (fun r => r.node ≠ f.node) } ∧
        u.rev = { s.rev with tally := s.rev.tally.filter (fun e => e.node ≠ f.node) } ∧
        (s.mode.mode = .run ∧ s.rev.gather = none ∧ s.pass.current = true ∧
            f.node ∈ s.pass.record.nodes ∧ (peerOf f.node s.peers.records).isSome = true →
          u.pass.state ≠ .idle) ∧
        (s.mode.mode ≠ .run ∨ s.rev.gather.isSome = true ∨ s.pass.current = false ∨
            f.node ∉ s.pass.record.nodes → u.pass = s.pass ∧ u.unit = s.unit) ∧
        (let again : Bool := decide (s.mode.mode = .run ∧ s.rev.gather = none ∧ s.pass.current = true ∧ f.node ∈ s.pass.record.nodes ∧
            (peerOf f.node s.peers.records).isSome = true)
        u.pass = { s.pass with
              state := if again then
                  (match s.pass.state with
                  | .idle => .waiting
                  | .waiting => .waiting
                  | .running => .runningOneMore
                  | .runningOneMore => .runningOneMore)
                else s.pass.state } ∧
            u.unit = { s.unit with
              waitPass := s.unit.waitPass || (again && decide (s.pass.state = .idle)) }) ∧
        othersKept [.line, .peers, .rev, .unit, .pass, .cond] (advanceTo t s) u

/-- CHANGE_NOTICE writes the announced fields with age 0, and keeps the agree flag only when its K is the k_p of the
record. Rests on R13, R18, R46, R77, R85, R86; the model's choice in log 33. That a CHANGE in REST writes the
agree flag 0 whatever its K is the model's choice, read from R13 against R18 (log 33). -/
def Obligations.ChangeUpdatesTheRecord : Prop :=
  ∀ (t : Count) (s : State) (f : RxFrame) (rest : List RxFrame) (a : Announcement),
        tableHeld s = false →
        s.line.rxq = f :: rest →
        decodeNotice f = some (.change a) →
        (s.mode.mode = .join ∨ s.mode.mode = .run ∨ s.mode.mode = .rest) →
        ∃ u, exec (.changeNotice t) s = .next u ∧
        u.line = { s.line with rxq := rest } ∧
        peerOf f.node u.peers.records = some
          { recordFor s f.node with
            kp := some a.k, direction := a.direction, want := min a.want 120, ceil := min a.ceil 120
            stage := a.stage, age := 0
            agree := if (recordFor s f.node).kp = some a.k ∧ s.mode.mode ≠ .rest
              then (recordFor s f.node).agree else false } ∧
        withoutPeer f.node u.peers.records = withoutPeer f.node s.peers.records ∧
        (s.mode.mode ≠ .run ∨ s.rev.gather.isSome = true → u.pass = s.pass ∧ u.unit = s.unit) ∧
        (s.mode.mode = .run ∧ s.rev.gather = none ∧ s.pass.current = true ∧
          f.node ∈ s.pass.record.nodes → u.pass.state ≠ .idle) ∧
        (let again : Bool := decide (s.mode.mode = .run ∧ s.rev.gather = none ∧ ((s.pass.current = true ∧ f.node ∈ s.pass.record.nodes) ∨
            ((recordFor s f.node).kp = some a.k ∧ (recordFor s f.node).agree = true ∧ s.own.k = some a.k ∧
              a.direction ≠ .halt)))
        u.pass = { s.pass with
              state := if again then
                  (match s.pass.state with
                  | .idle => .waiting
                  | .waiting => .waiting
                  | .running => .runningOneMore
                  | .runningOneMore => .runningOneMore)
                else s.pass.state } ∧
            u.unit = { s.unit with
              waitPass := s.unit.waitPass || (again && decide (s.pass.state = .idle)) }) ∧
        othersKept [.line, .peers, .unit, .pass, .cond] (advanceTo t s) u

/-- STATUS_NOTICE writes only the climate part of its sender record: outdoor in −400 to 600 or invalid, facade,
climate age 0. Rests on R14, R18; the model's choice in log 60. That a STATUS in REST keeps the agree flag is
the model's choice, read from R14 against R18 (log 60). -/
def Obligations.StatusWritesTheClimatePart : Prop :=
  ∀ (t : Count) (s : State) (f : RxFrame) (rest : List RxFrame) (outdoor : Option Int) (facade : Facade),
        tableHeld s = false →
        s.line.rxq = f :: rest →
        decodeNotice f = some (.status outdoor facade) →
        (s.mode.mode = .join ∨ s.mode.mode = .run ∨ s.mode.mode = .rest) →
        ∃ u, exec (.statusNotice t) s = .next u ∧
        u.line = { s.line with rxq := rest } ∧
        peerOf f.node u.peers.records = some
          { recordFor s f.node with
            climate := some
              { outdoor :=
                  if -400 ≤ signedPair (f.payload.getD 0 0) (f.payload.getD 1 0) ∧
                    signedPair (f.payload.getD 0 0) (f.payload.getD 1 0) ≤ 600
                  then some (signedPair (f.payload.getD 0 0) (f.payload.getD 1 0)) else none
                facade := if (f.payload.getD 7 0).toNat / 128 = 1 then .rear else .front
                age := 0 } } ∧
        withoutPeer f.node u.peers.records = withoutPeer f.node s.peers.records ∧
        othersKept [.line, .peers, .cond] (advanceTo t s) u

/-- CLAIM_NOTICE in RUN enters a claim with the own K whose frame started inside the claim window, once a node; any
other leaves the list as it is. Rests on R47, R140, R141. -/
def Obligations.ClaimsEnterTheList : Prop :=
  ∀ (t : Count) (s : State) (f : RxFrame) (rest : List RxFrame) (k : HalfNo) (severity : Nat) (i : Count),
        tableHeld s = false →
        s.line.rxq = f :: rest →
        decodeNotice f = some (.claim k severity) →
        s.mode.mode = .run →
        s.own.instant = some i →
        ∃ u, exec (.claimNotice t) s = .next u ∧
        (let start := Count.earlier f.stamp 5
        u.line = { s.line with rxq := rest } ∧
          (s.own.k = some k ∧ 0 ≤ Count.since start i ∧ Count.since start i < 10240 ∧
              (∀ x ∈ s.frost.claims, x.node ≠ f.node) →
            u.frost.claims.Perm
              ({ node := f.node, k := k, severity := severity, start := start } :: s.frost.claims)) ∧
          (s.own.k ≠ some k ∨ Count.since start i < 0 ∨ 10240 ≤ Count.since start i ∨
              (∃ x ∈ s.frost.claims, x.node = f.node) → u.frost.claims = s.frost.claims) ∧
          u.frost = { s.frost with claims := u.frost.claims } ∧
          othersKept [.line, .frost, .cond] (advanceTo t s) u)

/-- A frame that fails the checks of its class is taken, counted as a receive fault and applied nowhere; a frame its
mode does not apply is taken without counting. Rests on R10, R45; the model's choice in log 9. -/
def Obligations.MalformedFramesAreCounted : Prop :=
  (∀ (t : Count) (s : State) (f : RxFrame) (rest : List RxFrame),
        tableHeld s = false →
        s.line.rxq = f :: rest →
        f.cls = some .phase →
        decodeNotice f = none →
        modeDiscards s.mode.mode .phase = false →
        ∃ u, exec (.phaseNotice t) s = .next u ∧
        u.line = { s.line with rxq := rest, rxFaults := min (s.line.rxFaults + 1) 255 } ∧
        othersKept [.line, .cond] (advanceTo t s) u) ∧
  (∀ (t : Count) (s : State) (f : RxFrame) (rest : List RxFrame),
        tableHeld s = false →
        s.line.rxq = f :: rest →
        f.cls = some .change →
        decodeNotice f = none →
        modeDiscards s.mode.mode .change = false →
        ∃ u, exec (.changeNotice t) s = .next u ∧
        u.line = { s.line with rxq := rest, rxFaults := min (s.line.rxFaults + 1) 255 } ∧
        othersKept [.line, .cond] (advanceTo t s) u) ∧
  (∀ (t : Count) (s : State) (f : RxFrame) (rest : List RxFrame),
        tableHeld s = false →
        s.line.rxq = f :: rest →
        f.cls = some .status →
        decodeNotice f = none →
        modeDiscards s.mode.mode .status = false →
        ∃ u, exec (.statusNotice t) s = .next u ∧
        u.line = { s.line with rxq := rest, rxFaults := min (s.line.rxFaults + 1) 255 } ∧
        othersKept [.line, .cond] (advanceTo t s) u) ∧
  (∀ (t : Count) (s : State) (f : RxFrame) (rest : List RxFrame),
        tableHeld s = false →
        s.line.rxq = f :: rest →
        f.cls = some .claim →
        decodeNotice f = none →
        modeDiscards s.mode.mode .claim = false →
        ∃ u, exec (.claimNotice t) s = .next u ∧
        u.line = { s.line with rxq := rest, rxFaults := min (s.line.rxFaults + 1) 255 } ∧
        othersKept [.line, .cond] (advanceTo t s) u) ∧
  (∀ (t : Count) (s : State) (f : RxFrame) (rest : List RxFrame),
        tableHeld s = false →
        s.line.rxq = f :: rest →
        f.cls = some .house →
        decodeNotice f = none →
        modeDiscards s.mode.mode .house = false →
        ∃ u, exec (.houseLevel t) s = .next u ∧
        u.line = { s.line with rxq := rest, rxFaults := min (s.line.rxFaults + 1) 255 } ∧
        othersKept [.line, .cond] (advanceTo t s) u) ∧
  (∀ (t : Count) (s : State) (f : RxFrame) (rest : List RxFrame),
        tableHeld s = false →
        s.line.rxq = f :: rest →
        f.cls = some .house →
        decodeNotice f = none →
        modeDiscards s.mode.mode .house = false →
        ∃ u, exec (.houseRest t) s = .next u ∧
        u.line = { s.line with rxq := rest, rxFaults := min (s.line.rxFaults + 1) 255 } ∧
        othersKept [.line, .cond] (advanceTo t s) u) ∧
  (∀ (t : Count) (s : State) (f : RxFrame) (rest : List RxFrame),
        tableHeld s = false →
        s.line.rxq = f :: rest →
        f.cls = some .request →
        decodeNotice f = none →
        modeDiscards s.mode.mode .request = false →
        ∃ u, exec (.read t) s = .next u ∧
        u.line = { s.line with rxq := rest, rxFaults := min (s.line.rxFaults + 1) 255 } ∧
        othersKept [.line, .cond] (advanceTo t s) u) ∧
  (∀ (t : Count) (s : State) (f : RxFrame) (rest : List RxFrame),
        tableHeld s = false →
        s.line.rxq = f :: rest →
        f.cls = some .request →
        decodeNotice f = none →
        modeDiscards s.mode.mode .request = false →
        ∃ u, exec (.set t) s = .next u ∧
        u.line = { s.line with rxq := rest, rxFaults := min (s.line.rxFaults + 1) 255 } ∧
        othersKept [.line, .cond] (advanceTo t s) u) ∧
  (∀ (t : Count) (s : State) (f : RxFrame) (rest : List RxFrame),
        tableHeld s = false →
        s.line.rxq = f :: rest →
        f.cls = some .phase →
        (s.mode.mode = .start ∨ s.mode.mode = .setup) →
        ∃ u, exec (.phaseNotice t) s = .next u ∧
        u.line = { s.line with rxq := rest } ∧ othersKept [.line, .cond] (advanceTo t s) u) ∧
  (∀ (t : Count) (s : State) (f : RxFrame) (rest : List RxFrame),
        tableHeld s = false →
        s.line.rxq = f :: rest →
        f.cls = some .change →
        (s.mode.mode = .start ∨ s.mode.mode = .setup) →
        ∃ u, exec (.changeNotice t) s = .next u ∧
        u.line = { s.line with rxq := rest } ∧ othersKept [.line, .cond] (advanceTo t s) u) ∧
  (∀ (t : Count) (s : State) (f : RxFrame) (rest : List RxFrame),
        tableHeld s = false →
        s.line.rxq = f :: rest →
        f.cls = some .status →
        (s.mode.mode = .start ∨ s.mode.mode = .setup) →
        ∃ u, exec (.statusNotice t) s = .next u ∧
        u.line = { s.line with rxq := rest } ∧ othersKept [.line, .cond] (advanceTo t s) u) ∧
  (∀ (t : Count) (s : State) (f : RxFrame) (rest : List RxFrame),
        tableHeld s = false →
        s.line.rxq = f :: rest →
        f.cls = some .claim →
        s.mode.mode ≠ .run →
        ∃ u, exec (.claimNotice t) s = .next u ∧
        u.line = { s.line with rxq := rest } ∧ othersKept [.line, .cond] (advanceTo t s) u)

/-- HOUSE_LEVEL fills the house request slot with level, source and hold in JOIN, RUN and REST, and has no effect in
START and SETUP. Rests on R157, R176. -/
def Obligations.HouseLevelFillsTheSlot : Prop :=
  ∀ (t : Count) (s : State) (f : RxFrame) (rest : List RxFrame) (level : Level) (hold : Nat),
        tableHeld s = false →
        s.line.rxq = f :: rest →
        decodeNotice f = some (.house (.level level hold)) →
        ∃ u, exec (.houseLevel t) s = .next u ∧
        u.line = { s.line with rxq := rest } ∧
        u.demand = (if s.mode.mode = .start ∨ s.mode.mode = .setup then s.demand
          else { s.demand with
            slot := some
              { level := level, source := f.node
                hold := if hold = 0 then none
                  else some (Count.later (advanceTo t s).time.now (hold * 614400)) } }) ∧
        othersKept [.line, .demand, .cond] (advanceTo t s) u

/-- HOUSE_REST enters REST from RUN with a LEAVE and a flush and from JOIN without them, loads the REST timer, and
in REST only reloads it. Rests on R72, R87, R124, R125, R159, R160, R161, R168; the model's choice in log 32.
That C stays as it was while the cap becomes absent is the model's choice (log 32). -/
def Obligations.HouseRestEntersRest : Prop :=
  (∀ (t : Count) (s : State) (f : RxFrame) (rest : List RxFrame) (arg : Nat),
        tableHeld s = false →
        s.line.rxq = f :: rest →
        decodeNotice f = some (.house (.rest arg)) →
        s.mode.mode = .run →
        s.line.faultCount < 64 →
        s.line.txq.length < 4 →
        ∃ u, exec (.houseRest t) s = .next u ∧
        u.mode.mode = .rest ∧ u.own = { s.own with leaving := true } ∧ leaveQueued u = true ∧
        u.line.rxq = rest ∧ u.demand.restTimer =
          some (Count.later (advanceTo t s).time.now (if arg = 0 then 29491200 else arg * 614400)) ∧
        u.demand.flush = some (Count.later (advanceTo t s).time.now 2048) ∧
        u.demand.buttonBoost = none ∧ u.demand.humidity = .off ∧ u.demand.runOn = none ∧
        u.demand.slot = s.demand.slot ∧ u.demand.dryGuard = s.demand.dryGuard ∧
        u.rev.next = none ∧ u.rev.pendingNumber = none ∧ runWorkOnlyInRun u ∧
        u.frost.granted = false ∧ u.frost.ownClaim = .idle ∧ u.frost.postThaw = none ∧
        u.frost.stage = s.frost.stage ∧ u.unit.waitPass = false ∧ u.unit.waitClimate = none ∧
        u.unit.waitFilter = none ∧
        u.unit.engine = (match s.unit.engine with
          | .pass a ms _ => .pass a ms true
          | .climate x a ms _ => .climate x a ms true
          | .filter x a ms _ => .filter x a ms true
          | .free => .free) ∧
        u.pass = { s.pass with
          current := false
          state := match s.pass.state with
            | .idle => .idle
            | .waiting => .idle
            | .running => .running
            | .runningOneMore => .running } ∧
        u.clim.restSampling = some (Count.later (advanceTo t s).time.now 61440) ∧
        u.fan = { s.fan with cap := none, ceilRef := none, window := [] } ∧
        othersKept [.mode, .own, .line, .rev, .unit, .pass, .fan, .clim, .frost, .demand, .filt, .cond]
          (advanceTo t s) u) ∧
  (∀ (t : Count) (s : State) (f : RxFrame) (rest : List RxFrame) (arg : Nat),
        tableHeld s = false →
        s.line.rxq = f :: rest →
        decodeNotice f = some (.house (.rest arg)) →
        s.mode.mode = .run →
        64 ≤ s.line.faultCount →
        s.line.txq = [] →
        s.line.replacement = none →
        s.demand.heldWake = none →
        ∃ u, exec (.houseRest t) s = .next u ∧
        u.mode.mode = .rest ∧ u.line = { s.line with rxq := rest } ∧ u.demand.flush = none ∧
        u.demand.restTimer =
          some (Count.later (advanceTo t s).time.now (if arg = 0 then 29491200 else arg * 614400)) ∧
        u.fan.wanted = .halt ∧ u.fan.restart = false ∧
        (s.fan.state = .running → u.fan.state = .rampDown ∧ u.fan.target = some .halt ∧
          u.own = { s.own with leaving := true }) ∧
        (s.fan.state = .stopped → u.fan.state = .stopped ∧
          u.own = { s.own with leaving := true, direction := .halt, want := 0, ceil := 0, flow := 0 }) ∧
        runWorkOnlyInRun u ∧ u.frost.stage = s.frost.stage ∧ u.demand.slot = s.demand.slot ∧
        u.unit.waitPass = false ∧ u.unit.waitClimate = none ∧ u.unit.waitFilter = none ∧
        u.unit.engine = (match s.unit.engine with
          | .pass a ms _ => .pass a ms true
          | .climate x a ms _ => .climate x a ms true
          | .filter x a ms _ => .filter x a ms true
          | .free => .free) ∧
        u.pass = { s.pass with
          current := false
          state := match s.pass.state with
            | .idle => .idle
            | .waiting => .idle
            | .running => .running
            | .runningOneMore => .running }) ∧
  (∀ (t : Count) (s : State) (f : RxFrame) (rest : List RxFrame) (arg : Nat),
        tableHeld s = false →
        s.line.rxq = f :: rest →
        decodeNotice f = some (.house (.rest arg)) →
        s.mode.mode = .join →
        s.demand.flush = none →
        ∃ u, exec (.houseRest t) s = .next u ∧
        u.mode = { s.mode with mode := .rest } ∧ u.line = { s.line with rxq := rest } ∧
        u.own = { s.own with direction := .halt, want := 0, ceil := 0, flow := 0 } ∧
        u.demand = { s.demand with
          buttonBoost := none, humidity := .off, runOn := none
          restTimer :=
            some (Count.later (advanceTo t s).time.now (if arg = 0 then 29491200 else arg * 614400)) } ∧
        u.rev.next = none ∧ u.rev.listening = none ∧
        u.clim = { s.clim with restSampling := some (Count.later (advanceTo t s).time.now 61440) } ∧
        u.fan = { s.fan with cap := none, ceilRef := none, window := [] } ∧
        othersKept [.mode, .own, .line, .rev, .fan, .clim, .demand, .filt, .cond] (advanceTo t s) u) ∧
  (∀ (t : Count) (s : State) (f : RxFrame) (rest : List RxFrame) (arg : Nat),
        tableHeld s = false →
        s.line.rxq = f :: rest →
        decodeNotice f = some (.house (.rest arg)) →
        s.mode.mode = .rest →
        (s.demand.flush = none ∨ s.line.txq ≠ []) →
        ∃ u, exec (.houseRest t) s = .next u ∧
        u.line = { s.line with rxq := rest } ∧
        u.demand = { s.demand with
          restTimer :=
            some (Count.later (advanceTo t s).time.now (if arg = 0 then 29491200 else arg * 614400)) } ∧
        othersKept [.line, .demand, .cond] (advanceTo t s) u)

/-- HOUSE_RESUME in RUN and JOIN empties the slot that its source set; HOUSE_WAKE outside REST, and both in START
and SETUP, only take the frame. Rests on R158, R162. -/
def Obligations.ResumeAndWakeOutsideRest : Prop :=
  (∀ (t : Count) (s : State) (f : RxFrame) (rest : List RxFrame),
        tableHeld s = false →
        s.line.rxq = f :: rest →
        decodeNotice f = some (.house .resume) →
        s.mode.mode ≠ .rest →
        ∃ u, exec (.houseResume t) s = .next u ∧
        u.line = { s.line with rxq := rest } ∧
        u.demand = { s.demand with
          slot := if (s.mode.mode = .run ∨ s.mode.mode = .join) ∧
            s.demand.slot.any (fun h => h.source = f.node) = true then none else s.demand.slot } ∧
        othersKept [.line, .demand, .cond] (advanceTo t s) u) ∧
  (∀ (t : Count) (s : State) (f : RxFrame) (rest : List RxFrame),
        tableHeld s = false →
        s.line.rxq = f :: rest →
        decodeNotice f = some (.house .wake) →
        s.mode.mode ≠ .rest →
        ∃ u, exec (.houseWake t) s = .next u ∧
        u.line = { s.line with rxq := rest } ∧ othersKept [.line, .cond] (advanceTo t s) u) ∧
  (∀ (t : Count) (s : State) (f : RxFrame) (rest : List RxFrame),
        tableHeld s = false →
        s.line.rxq = f :: rest →
        decodeNotice f = some (.house .resume) →
        s.mode.mode = .rest →
        s.demand.flush.isSome = true →
        ∃ u, exec (.houseResume t) s = .next u ∧
        u.line = { s.line with rxq := rest } ∧
        u.demand = { s.demand with
          heldWake := some (s.demand.heldWake.getD { cause := .resume, mark := false }) } ∧
        othersKept [.line, .demand, .cond] (advanceTo t s) u) ∧
  (∀ (t : Count) (s : State) (f : RxFrame) (rest : List RxFrame),
        tableHeld s = false →
        s.line.rxq = f :: rest →
        decodeNotice f = some (.house .wake) →
        s.mode.mode = .rest →
        s.demand.flush.isSome = true →
        ∃ u, exec (.houseWake t) s = .next u ∧
        u.line = { s.line with rxq := rest } ∧
        u.demand = { s.demand with
          heldWake := some (s.demand.heldWake.getD { cause := .wake, mark := false }) } ∧
        othersKept [.line, .demand, .cond] (advanceTo t s) u)

/-- READ outside START queues one reply with the data of its page as it stands, or NO SUCH with zeros for an unknown
page. Rests on R19, R51, R182. -/
def Obligations.ReadAnswersWithItsPage : Prop :=
  (∀ (t : Count) (s : State) (f : RxFrame) (rest : List RxFrame) (index value : Byte),
        tableHeld s = false →
        s.line.rxq = f :: rest →
        decodeNotice f = some (.request .read index value) →
        s.mode.mode ≠ .start →
        s.line.faultCount < 32 →
        (∀ x ∈ s.line.txq, x.cls ≠ .reply) →
        s.line.txq.length < 4 →
        s.mode.setupFlush = none →
        s.demand.flush = none →
        ∃ u, exec (.read t) s = .next u ∧
        (index = 0 → (∃ e ∈ u.line.txq, e.cls = .reply ∧ e.node = s.own.node ∧
          e.payload = replyBytes f.node .read .done index (byteOf (modeCode s.mode.mode)) (s.own.k.getD 0)
            (byteOf (dirCode s.own.direction)) (byteOf s.own.flow))) ∧
        (index = 1 → (∃ e ∈ u.line.txq, e.cls = .reply ∧ e.node = s.own.node ∧
          e.payload = replyBytes f.node .read .done index (byteOf s.own.want) (byteOf s.own.ceil)
            (byteOf (levelCode s.own.level)) (byteOf (stageCode s.frost.stage)))) ∧
        (index = 2 → (∃ e ∈ u.line.txq, e.cls = .reply ∧ e.node = s.own.node ∧
          e.payload = replyBytes f.node .read .done index (highByte (s.own.outdoor.getD (-32768)))
            (lowByte (s.own.outdoor.getD (-32768))) (highByte (s.own.roomTemp.getD (-32768)))
            (lowByte (s.own.roomTemp.getD (-32768))))) ∧
        (index = 3 → (∃ e ∈ u.line.txq, e.cls = .reply ∧ e.node = s.own.node ∧
          e.payload = replyBytes f.node .read .done index (byteOf s.own.rh) (highByte s.own.ratio) (lowByte s.own.ratio) 0)) ∧
        (index = 4 → (∃ e ∈ u.line.txq, e.cls = .reply ∧ e.node = s.own.node ∧
          e.payload = replyBytes f.node .read .done index (byteOf (s.filt.loading / 5)) (highByte s.filt.wind)
            (lowByte s.filt.wind) (byteOf (filterCode s.filt.state)))) ∧
        (index = 5 → (∃ e ∈ u.line.txq, e.cls = .reply ∧ e.node = s.own.node ∧
          e.payload = replyBytes f.node .read .done index (highByte s.filt.hours) (lowByte s.filt.hours) (byteOf s.fan.shortfall) 0)) ∧
        (index = 6 → (∃ e ∈ u.line.txq, e.cls = .reply ∧ e.node = s.own.node ∧
          e.payload = replyBytes f.node .read .done index (byteOf s.line.faultCount) 0 (byteOf s.line.rxFaults) 0)) ∧
        (index = 7 → (∃ e ∈ u.line.txq, e.cls = .reply ∧ e.node = s.own.node ∧
          e.payload = replyBytes f.node .read .done index (byteOf s.line.overruns) (byteOf s.line.drops)
            (byteOf s.line.clashes) 0)) ∧
        (index = 8 → (∃ e ∈ u.line.txq, e.cls = .reply ∧ e.node = s.own.node ∧
          e.payload = replyBytes f.node .read .done index (highByte s.frost.thawTotal) (lowByte s.frost.thawTotal)
            (highByte s.frost.failedTotal) (lowByte s.frost.failedTotal))) ∧
        (index = 9 → (∃ e ∈ u.line.txq, e.cls = .reply ∧ e.node = s.own.node ∧
          e.payload = replyBytes f.node .read .done index (BitVec.ofNat 8 (s.cond.set.toNat / 256))
            (BitVec.ofNat 8 (s.cond.set.toNat % 256)) (byteOf s.cond.leading) 0)) ∧
        (17 ≤ index.toNat ∧ index.toNat ≤ 28 →
            index.toNat - 16 = s.own.node ∨ (∀ r ∈ s.peers.records, r.node ≠ index.toNat - 16) →
          (∃ e ∈ u.line.txq, e.cls = .reply ∧ e.node = s.own.node ∧
          e.payload = replyBytes f.node .read .done index 0 0 0 0)) ∧
        (17 ≤ index.toNat ∧ index.toNat ≤ 28 → index.toNat - 16 ≠ s.own.node →
          ∀ r ∈ peerOf (index.toNat - 16) s.peers.records, (∃ e ∈ u.line.txq, e.cls = .reply ∧ e.node = s.own.node ∧
          e.payload = replyBytes f.node .read .done index 1 (r.kp.getD 0) (byteOf (dirCode r.direction)) (byteOf r.age))) ∧
        (32 ≤ index.toNat ∧ index.toNat ≤ 52 → ∀ p ∈ s.svc.params.toList[index.toNat - 32]?, (∃ e ∈ u.line.txq, e.cls = .reply ∧ e.node = s.own.node ∧
          e.payload = replyBytes f.node .read .done index (byteOf (p.toNat / 256)) (byteOf (p.toNat % 256)) 0 0)) ∧
        ((10 ≤ index.toNat ∧ index.toNat ≤ 16) ∨ (29 ≤ index.toNat ∧ index.toNat ≤ 31) ∨
            53 ≤ index.toNat → (∃ e ∈ u.line.txq, e.cls = .reply ∧ e.node = s.own.node ∧
          e.payload = replyBytes f.node .read .noSuch index 0 0 0 0)) ∧
        u.line.rxq = rest ∧ u.line.txq.length = s.line.txq.length + 1 ∧
        u.mode = { s.mode with
          inactivity := if s.mode.mode = .setup
            then some (Count.later (advanceTo t s).time.now 614400) else s.mode.inactivity } ∧
        othersKept [.mode, .line, .cond] (advanceTo t s) u) ∧
  (∀ (t : Count) (s : State) (f : RxFrame) (rest : List RxFrame) (index value : Byte),
        tableHeld s = false →
        s.line.rxq = f :: rest →
        decodeNotice f = some (.request .read index value) →
        s.mode.mode = .start →
        ∃ u, exec (.read t) s = .next u ∧
        u.line = { s.line with rxq := rest } ∧ othersKept [.line, .cond] (advanceTo t s) u)

/-- SET in SETUP writes the clamped value and answers DONE or CLAMPED with the value taken; outside SETUP it answers
NOT IN SETUP and writes nothing. Rests on R50, R181, R182; the model's choice in log 54, 55. That the lower
neighbour is taken where it lies above the upper one is the model's choice (log 54). A parameter outside its
range, as only a checked store image can bring, enters the same formula, a negative one as 0 where a number of 0
or more is meant: the model's choice (log 55). -/
def Obligations.SetClampsAndMarks : Prop :=
  (∀ (t : Count) (s : State) (f : RxFrame) (rest : List RxFrame) (index value : Byte) (p : Fin 21),
        tableHeld s = false →
        s.line.rxq = f :: rest →
        decodeNotice f = some (.request .set index value) →
        s.mode.mode = .setup →
        index.toNat = p.val →
        s.line.faultCount < 32 →
        (∀ x ∈ s.line.txq, x.cls ≠ .reply) →
        s.line.txq.length < 4 →
        s.mode.setupFlush = none →
        s.demand.flush = none →
        ∃ u, exec (.set t) s = .next u ∧
        (let wanted : Int := if index.toNat = 9 then (value.toNat - value.toNat % 5 : Nat) else value.toNat
        let range : Int × Int :=
          match p.val with
          | 0 => (4, 12)
          | 1 => (0, param s 2)
          | 2 => (param s 1, param s 3)
          | 3 => (param s 2, param s 4)
          | 4 => (param s 3, 120)
          | 5 => (0, 3)
          | 6 => (0, 60)
          | 7 => (0, 1)
          | 8 => (10, 120)
          | 9 => (25, 75)
          | 10 => (50, 150)
          | 11 => (0, 3)
          | 12 => (0, param s 13)
          | 13 => (param s 12, param s 14)
          | 14 => (param s 13, param s 15)
          | 15 => (param s 14, param s 16)
          | 16 => (param s 15, param s 17)
          | 17 => (param s 16, param s 18)
          | 18 => (param s 17, param s 19)
          | 19 => (param s 18, param s 20)
          | _ => (param s 19, 255)
        let taken := max range.1 (min wanted range.2)
        let stored := BitVec.ofInt 16 (if index.toNat = 10 then -2 * taken else taken)
        u.svc = { s.svc with
            params := s.svc.params.set p stored
            changed := s.svc.changed || decide (s.svc.params[p] ≠ stored) } ∧
          (∃ e ∈ u.line.txq, e.cls = .reply ∧ e.node = s.own.node ∧
          e.payload = replyBytes f.node .set (if taken = value.toNat then .done else .clamped) index (BitVec.ofInt 8 taken) 0 0 0) ∧
          u.mode = { s.mode with
            inactivity := some (Count.later (advanceTo t s).time.now 614400) } ∧
          u.line.rxq = rest ∧ othersKept [.mode, .line, .svc, .cond] (advanceTo t s) u)) ∧
  (∀ (t : Count) (s : State) (f : RxFrame) (rest : List RxFrame) (index value : Byte),
        tableHeld s = false →
        s.line.rxq = f :: rest →
        decodeNotice f = some (.request .set index value) →
        s.mode.mode ≠ .start →
        (s.mode.mode ≠ .setup ∨ 21 ≤ index.toNat) →
        s.line.faultCount < 32 →
        (∀ x ∈ s.line.txq, x.cls ≠ .reply) →
        s.line.txq.length < 4 →
        s.mode.setupFlush = none →
        s.demand.flush = none →
        ∃ u, exec (.set t) s = .next u ∧
        (∃ e ∈ u.line.txq, e.cls = .reply ∧ e.node = s.own.node ∧
          e.payload = replyBytes f.node .set (if s.mode.mode = .setup then .noSuch else .notInSetup) index 0 0 0 0) ∧
        u.svc = s.svc ∧ u.line.rxq = rest ∧ othersKept [.mode, .line, .cond] (advanceTo t s) u) ∧
  (∀ (t : Count) (s : State) (f : RxFrame) (rest : List RxFrame) (index value : Byte),
        tableHeld s = false →
        s.line.rxq = f :: rest →
        decodeNotice f = some (.request .set index value) →
        s.mode.mode = .start →
        ∃ u, exec (.set t) s = .next u ∧
        u.line = { s.line with rxq := rest } ∧ othersKept [.line, .cond] (advanceTo t s) u)

/-- SETUP_ENTER enters SETUP from JOIN, RUN and REST with a LEAVE, a flush and DONE, from the SETUP window with DONE
alone, and in SETUP only answers DONE. Rests on R87, R116, R125, R145, R147, R168, R178, R179, R182; the model's
choice in log 52. That SETUP ENTER in REST writes HALT, D, C and F at the entry, though the fan may still turn,
is the model's choice (log 52). -/
def Obligations.SetupEnterEntersSetup : Prop :=
  (∀ (t : Count) (s : State) (f : RxFrame) (rest : List RxFrame) (index value : Byte),
        tableHeld s = false →
        s.line.rxq = f :: rest →
        decodeNotice f = some (.request .setupEnter index value) →
        (s.mode.mode = .join ∨ s.mode.mode = .run ∨ s.mode.mode = .rest) →
        (s.line.txq.filter fun e => e.onLine).length ≤ 1 →
        ∃ u, exec (.setupEnter t) s = .next u ∧
        u.mode.mode = .setup ∧ u.mode.setupFlush = some (Count.later (advanceTo t s).time.now 2048) ∧
        u.mode.inactivity = some (Count.later (advanceTo t s).time.now 614400) ∧
        u.mode.leaveAsked = false ∧ u.own.leaving = true ∧ leaveQueued u = true ∧
        u.line.faultCount = 0 ∧ u.line.cutOff = none ∧ u.line.rxq = rest ∧ u.line.drops = s.line.drops ∧
        (∃ e ∈ u.line.txq ++ u.line.replacement.toList, e.withdrawn = false ∧ e.cls = .reply ∧
          e.node = s.own.node ∧ e.payload = replyBytes f.node .setupEnter .done index 0 0 0 0) ∧
        (∃ e ∈ u.line.txq ++ u.line.replacement.toList,
          e.withdrawn = false ∧ e.cls = .phase ∧ e.leave = true ∧ e.urgent = false ∧ e.node = s.own.node) ∧
        u.peers.records = [] ∧ u.rev.next = none ∧ runWorkOnlyInRun u ∧
        u.frost.stage = .noFrost ∧ u.frost.severity = 0 ∧ u.frost.cause = none ∧ u.frost.failed = 0 ∧
        u.frost.granted = false ∧ u.frost.ownClaim = .idle ∧
        u.demand.slot = none ∧ u.demand.buttonBoost = none ∧ u.demand.humidity = .off ∧
        u.demand.dryGuard = false ∧ u.demand.restTimer = none ∧ u.demand.flush = none ∧
        u.demand.heldWake = none ∧ u.clim.restSampling = none ∧
        u.fan.wanted = .halt ∧ u.fan.cap = none ∧ u.fan.ceilRef = none ∧ u.fan.window = [] ∧
        (s.mode.mode ≠ .run →
          u.own.direction = .halt ∧ u.own.want = 0 ∧ u.own.ceil = 0 ∧ u.own.flow = 0) ∧
        u.filt = { s.filt with held := none } ∧
        u.unit.waitPass = false ∧ u.unit.waitClimate = none ∧ u.unit.waitFilter = none ∧
        u.unit.engine = (match s.unit.engine with
          | .pass a ms _ => .pass a ms true
          | .climate x a ms _ => .climate x a ms true
          | .filter x a ms _ => .filter x a ms true
          | .free => .free) ∧
        u.pass = { s.pass with
          current := false
          state := match s.pass.state with
            | .idle => .idle
            | .waiting => .idle
            | .running => .running
            | .runningOneMore => .running } ∧
        (s.clim.outer.clearMark = true → checkAsked u.clim .outer = true) ∧
        (s.clim.inner.clearMark = true → checkAsked u.clim .inner = true) ∧
        (s.clim.rhSensor.clearMark = true → checkAsked u.clim .rh = true) ∧
        u.clim.outer.clearMark = false ∧ u.clim.inner.clearMark = false ∧
        u.clim.rhSensor.clearMark = false ∧
        othersKept [.mode, .own, .line, .peers, .rev, .unit, .pass, .fan, .clim, .frost, .demand, .filt,
          .cond] (advanceTo t s) u) ∧
  (∀ (t : Count) (s : State) (f : RxFrame) (rest : List RxFrame) (index value : Byte),
        tableHeld s = false →
        s.line.rxq = f :: rest →
        decodeNotice f = some (.request .setupEnter index value) →
        s.mode.mode = .start →
        s.mode.setupWindow.isSome = true →
        s.line.txq = [] →
        s.line.replacement = none →
        ∃ u, exec (.setupEnter t) s = .next u ∧
        u.mode.mode = .setup ∧ u.mode.setupWindow = none ∧ u.mode.setupFlush = s.mode.setupFlush ∧
        u.mode.inactivity = some (Count.later (advanceTo t s).time.now 614400) ∧
        u.line.txq = [newEntry .reply false s.own.node false
          (replyBytes f.node .setupEnter .done index 0 0 0 0)] ∧ u.own = s.own ∧
        (s.clim.outer.clearMark = true → checkAsked u.clim .outer = true) ∧
        (s.clim.inner.clearMark = true → checkAsked u.clim .inner = true) ∧
        (s.clim.rhSensor.clearMark = true → checkAsked u.clim .rh = true) ∧
        u.clim.outer.clearMark = false ∧ u.clim.inner.clearMark = false ∧
        u.clim.rhSensor.clearMark = false) ∧
  (∀ (t : Count) (s : State) (f : RxFrame) (rest : List RxFrame) (index value : Byte),
        tableHeld s = false →
        s.line.rxq = f :: rest →
        decodeNotice f = some (.request .setupEnter index value) →
        s.mode.mode = .setup →
        s.line.faultCount < 32 →
        (∀ x ∈ s.line.txq, x.cls ≠ .reply) →
        s.line.txq.length < 4 →
        s.mode.setupFlush = none →
        s.demand.flush = none →
        ∃ u, exec (.setupEnter t) s = .next u ∧
        (∃ e ∈ u.line.txq, e.cls = .reply ∧ e.node = s.own.node ∧
          e.payload = replyBytes f.node .setupEnter .done index 0 0 0 0) ∧
        u.mode = { s.mode with inactivity := some (Count.later (advanceTo t s).time.now 614400) } ∧
        u.line.rxq = rest ∧ othersKept [.mode, .line, .cond] (advanceTo t s) u) ∧
  (∀ (t : Count) (s : State) (f : RxFrame) (rest : List RxFrame) (index value : Byte),
        tableHeld s = false →
        s.line.rxq = f :: rest →
        decodeNotice f = some (.request .setupEnter index value) →
        s.mode.mode = .setup →
        s.mode.setupFlush.isSome = true →
        leaveQueued s = true →
        s.line.faultCount < 32 →
        (∀ x ∈ s.line.txq, x.cls ≠ .reply) →
        s.line.txq.length < 4 →
        ∃ u, exec (.setupEnter t) s = .next u ∧
        (∃ e ∈ u.line.txq, e.cls = .reply ∧ e.node = s.own.node ∧
          e.payload = replyBytes f.node .setupEnter .done index 0 0 0 0) ∧ leaveQueued u = true ∧
        u.mode = { s.mode with inactivity := some (Count.later (advanceTo t s).time.now 614400) } ∧
        u.line.rxq = rest ∧ othersKept [.mode, .line, .cond] (advanceTo t s) u)

/-- SETUP_WINDOW_END, INACTIVITY_TIMER_EXPIRY, SETUP_LEAVE, SETUP_FLUSH_END, REST_TIMER_EXPIRY, HOUSE_RESUME,
HOUSE_WAKE, a press and a humid RH reading enter JOIN. Rests on R69, R116, R163, R173, R178, R180; the model's
choice in log 55. A parameter outside its range, as only a checked store image can bring, enters the same
formula, a negative one as 0 where a number of 0 or more is meant: the model's choice (log 55). -/
def Obligations.JoinIsEnteredAlike : Prop :=
  (∀ (s : State) (i : Count),
        s.mode.mode = .start →
        s.mode.setupWindow = some i →
        ∃ u, exec (.setupWindowEnd) s = .next u ∧
        joinEntered s u ∧ u.line = s.line ∧ u.frost = { s.frost with claims := [], granted := false, ownClaim := .idle } ∧
        u.fan = { s.fan with wanted := .halt, cap := none, ceilRef := none, window := [] } ∧
        u.filt.refIn = s.filt.refIn ∧ u.filt.refOut = s.filt.refOut ∧ u.filt.hours = s.filt.hours ∧
        u.demand.slot = s.demand.slot ∧
        u.demand.buttonBoost = s.demand.buttonBoost ∧ u.demand.dryGuard = s.demand.dryGuard ∧
        u.clim.ratios = s.clim.ratios ∧ u.clim.outer.held = s.clim.outer.held ∧
        u.clim.inner.held = s.clim.inner.held ∧ u.own.node = s.own.node ∧ u.own.lead = s.own.lead ∧
        u.own.level = s.own.level ∧ u.own.outdoor = s.own.outdoor ∧ u.svc.params = s.svc.params ∧
        u.clim.lastRh = s.clim.lastRh ∧ u.unit.waitPass = false ∧
        u.unit.engine = (match s.unit.engine with
          | .pass a ms _ => .pass a ms true
          | e => e) ∧
        (s.clim.outer.clearMark = true → checkAsked u.clim .outer = true) ∧
        (s.clim.inner.clearMark = true → checkAsked u.clim .inner = true) ∧
        (s.clim.rhSensor.clearMark = true → checkAsked u.clim .rh = true) ∧
        u.clim.outer.clearMark = false ∧ u.clim.inner.clearMark = false ∧
        u.clim.rhSensor.clearMark = false ∧
        (paramNat s 8 * 100 ≤ s.filt.hours ∧ (s.filt.state = .clean ∨ s.filt.state = .loaded) →
          u.filt.state = .change ∧ u.filt.runLoaded = 0 ∧ u.filt.runChange = 0 ∧
          u.filt.runBlocked = s.filt.runBlocked ∧ u.svc.writing.isSome = true ∧
          (s.svc.writing.isSome = true → u.svc.further = true)) ∧
        (s.filt.hours < paramNat s 8 * 100 ∨ s.filt.state = .change ∨ s.filt.state = .blocked →
          u.filt.state = s.filt.state ∧ u.filt.runLoaded = s.filt.runLoaded ∧
          u.filt.runChange = s.filt.runChange ∧ u.filt.runBlocked = s.filt.runBlocked) ∧
        (∀ x ∈ u.clim.converting.toList, Purpose.rest ∉ x.purposes) ∧
        (∀ p ∈ u.clim.waitOuter ++ u.clim.waitInner ++ u.clim.waitRh, p ≠ Purpose.rest) ∧
        u.demand.humidity = s.demand.humidity ∧ u.clim.rhSensor.held = s.clim.rhSensor.held ∧
        u.own.rh = s.own.rh) ∧
  (∀ (s : State) (i : Count),
        s.mode.mode = .setup →
        s.mode.inactivity = some i →
        ∃ u, exec (.inactivityTimerExpiry) s = .next u ∧
        joinEntered s u ∧ u.line = s.line ∧ (s.svc.changed = true → u.svc.writing.isSome = true) ∧ u.frost = { s.frost with claims := [], granted := false, ownClaim := .idle } ∧
        u.fan = { s.fan with wanted := .halt, cap := none, ceilRef := none, window := [] } ∧
        u.filt.refIn = s.filt.refIn ∧ u.filt.refOut = s.filt.refOut ∧ u.filt.hours = s.filt.hours ∧
        u.demand.slot = s.demand.slot ∧
        u.demand.buttonBoost = s.demand.buttonBoost ∧ u.demand.dryGuard = s.demand.dryGuard ∧
        u.clim.ratios = s.clim.ratios ∧ u.clim.outer.held = s.clim.outer.held ∧
        u.clim.inner.held = s.clim.inner.held ∧ u.own.node = s.own.node ∧ u.own.lead = s.own.lead ∧
        u.own.level = s.own.level ∧ u.own.outdoor = s.own.outdoor ∧ u.svc.params = s.svc.params ∧
        u.clim.lastRh = s.clim.lastRh ∧ u.unit.waitPass = false ∧
        u.unit.engine = (match s.unit.engine with
          | .pass a ms _ => .pass a ms true
          | e => e) ∧
        (s.clim.outer.clearMark = true → checkAsked u.clim .outer = true) ∧
        (s.clim.inner.clearMark = true → checkAsked u.clim .inner = true) ∧
        (s.clim.rhSensor.clearMark = true → checkAsked u.clim .rh = true) ∧
        u.clim.outer.clearMark = false ∧ u.clim.inner.clearMark = false ∧
        u.clim.rhSensor.clearMark = false ∧
        (paramNat s 8 * 100 ≤ s.filt.hours ∧ (s.filt.state = .clean ∨ s.filt.state = .loaded) →
          u.filt.state = .change ∧ u.filt.runLoaded = 0 ∧ u.filt.runChange = 0 ∧
          u.filt.runBlocked = s.filt.runBlocked ∧ u.svc.writing.isSome = true ∧
          (s.svc.writing.isSome = true → u.svc.further = true)) ∧
        (s.filt.hours < paramNat s 8 * 100 ∨ s.filt.state = .change ∨ s.filt.state = .blocked →
          u.filt.state = s.filt.state ∧ u.filt.runLoaded = s.filt.runLoaded ∧
          u.filt.runChange = s.filt.runChange ∧ u.filt.runBlocked = s.filt.runBlocked) ∧
        (∀ x ∈ u.clim.converting.toList, Purpose.rest ∉ x.purposes) ∧
        (∀ p ∈ u.clim.waitOuter ++ u.clim.waitInner ++ u.clim.waitRh, p ≠ Purpose.rest) ∧
        u.demand.humidity = s.demand.humidity ∧ u.clim.rhSensor.held = s.clim.rhSensor.held ∧
        u.own.rh = s.own.rh) ∧
  (∀ (t : Count) (s : State) (f : RxFrame) (rest : List RxFrame) (index value : Byte),
        tableHeld s = false →
        s.line.rxq = f :: rest →
        decodeNotice f = some (.request .setupLeave index value) →
        s.mode.mode = .setup →
        s.mode.setupFlush = none →
        ∃ u, exec (.setupLeave t) s = .next u ∧
        joinEntered s u ∧ u.line.rxq = rest ∧ (s.svc.changed = true → u.svc.writing.isSome = true) ∧ u.frost = { s.frost with claims := [], granted := false, ownClaim := .idle } ∧
        u.fan = { s.fan with wanted := .halt, cap := none, ceilRef := none, window := [] } ∧
        u.filt.refIn = s.filt.refIn ∧ u.filt.refOut = s.filt.refOut ∧ u.filt.hours = s.filt.hours ∧
        u.demand.slot = s.demand.slot ∧
        u.demand.buttonBoost = s.demand.buttonBoost ∧ u.demand.dryGuard = s.demand.dryGuard ∧
        u.clim.ratios = s.clim.ratios ∧ u.clim.outer.held = s.clim.outer.held ∧
        u.clim.inner.held = s.clim.inner.held ∧ u.own.node = s.own.node ∧ u.own.lead = s.own.lead ∧
        u.own.level = s.own.level ∧ u.own.outdoor = s.own.outdoor ∧ u.svc.params = s.svc.params ∧
        u.clim.lastRh = s.clim.lastRh ∧ u.unit.waitPass = false ∧
        u.unit.engine = (match s.unit.engine with
          | .pass a ms _ => .pass a ms true
          | e => e) ∧
        (s.clim.outer.clearMark = true → checkAsked u.clim .outer = true) ∧
        (s.clim.inner.clearMark = true → checkAsked u.clim .inner = true) ∧
        (s.clim.rhSensor.clearMark = true → checkAsked u.clim .rh = true) ∧
        u.clim.outer.clearMark = false ∧ u.clim.inner.clearMark = false ∧
        u.clim.rhSensor.clearMark = false ∧
        (paramNat s 8 * 100 ≤ s.filt.hours ∧ (s.filt.state = .clean ∨ s.filt.state = .loaded) →
          u.filt.state = .change ∧ u.filt.runLoaded = 0 ∧ u.filt.runChange = 0 ∧
          u.filt.runBlocked = s.filt.runBlocked ∧ u.svc.writing.isSome = true ∧
          (s.svc.writing.isSome = true → u.svc.further = true)) ∧
        (s.filt.hours < paramNat s 8 * 100 ∨ s.filt.state = .change ∨ s.filt.state = .blocked →
          u.filt.state = s.filt.state ∧ u.filt.runLoaded = s.filt.runLoaded ∧
          u.filt.runChange = s.filt.runChange ∧ u.filt.runBlocked = s.filt.runBlocked) ∧
        (∀ x ∈ u.clim.converting.toList, Purpose.rest ∉ x.purposes) ∧
        (∀ p ∈ u.clim.waitOuter ++ u.clim.waitInner ++ u.clim.waitRh, p ≠ Purpose.rest) ∧
        u.demand.humidity = s.demand.humidity ∧ u.clim.rhSensor.held = s.clim.rhSensor.held ∧
        u.own.rh = s.own.rh) ∧
  (∀ (s : State) (i : Count),
        s.mode.mode = .setup →
        s.mode.setupFlush = some i →
        s.mode.leaveAsked = true →
        ∃ u, exec (.setupFlushEnd) s = .next u ∧
        joinEntered s u ∧
        (∀ e ∈ u.line.txq, isLeave e = true → e.onLine = true ∧ e.withdrawn = true) ∧
        (u.line.txq.filter fun e => !isLeave e) = (s.line.txq.filter fun e => !isLeave e) ∧
        u.line.replacement = (s.line.replacement.filter fun e => !isLeave e) ∧
        u.frost = { s.frost with claims := [], granted := false, ownClaim := .idle } ∧
        u.fan = { s.fan with wanted := .halt, cap := none, ceilRef := none, window := [] } ∧
        u.filt.refIn = s.filt.refIn ∧ u.filt.refOut = s.filt.refOut ∧ u.filt.hours = s.filt.hours ∧
        u.demand.slot = s.demand.slot ∧
        u.demand.buttonBoost = s.demand.buttonBoost ∧ u.demand.dryGuard = s.demand.dryGuard ∧
        u.clim.ratios = s.clim.ratios ∧ u.clim.outer.held = s.clim.outer.held ∧
        u.clim.inner.held = s.clim.inner.held ∧ u.own.node = s.own.node ∧ u.own.lead = s.own.lead ∧
        u.own.level = s.own.level ∧ u.own.outdoor = s.own.outdoor ∧ u.svc.params = s.svc.params ∧
        u.clim.lastRh = s.clim.lastRh ∧ u.unit.waitPass = false ∧
        u.unit.engine = (match s.unit.engine with
          | .pass a ms _ => .pass a ms true
          | e => e) ∧
        (s.clim.outer.clearMark = true → checkAsked u.clim .outer = true) ∧
        (s.clim.inner.clearMark = true → checkAsked u.clim .inner = true) ∧
        (s.clim.rhSensor.clearMark = true → checkAsked u.clim .rh = true) ∧
        u.clim.outer.clearMark = false ∧ u.clim.inner.clearMark = false ∧
        u.clim.rhSensor.clearMark = false ∧
        (paramNat s 8 * 100 ≤ s.filt.hours ∧ (s.filt.state = .clean ∨ s.filt.state = .loaded) →
          u.filt.state = .change ∧ u.filt.runLoaded = 0 ∧ u.filt.runChange = 0 ∧
          u.filt.runBlocked = s.filt.runBlocked ∧ u.svc.writing.isSome = true ∧
          (s.svc.writing.isSome = true → u.svc.further = true)) ∧
        (s.filt.hours < paramNat s 8 * 100 ∨ s.filt.state = .change ∨ s.filt.state = .blocked →
          u.filt.state = s.filt.state ∧ u.filt.runLoaded = s.filt.runLoaded ∧
          u.filt.runChange = s.filt.runChange ∧ u.filt.runBlocked = s.filt.runBlocked) ∧
        (∀ x ∈ u.clim.converting.toList, Purpose.rest ∉ x.purposes) ∧
        (∀ p ∈ u.clim.waitOuter ++ u.clim.waitInner ++ u.clim.waitRh, p ≠ Purpose.rest) ∧
        u.demand.humidity = s.demand.humidity ∧ u.clim.rhSensor.held = s.clim.rhSensor.held ∧
        u.own.rh = s.own.rh) ∧
  (∀ (s : State) (i : Count),
        s.mode.mode = .rest →
        s.demand.restTimer = some i →
        s.demand.flush = none →
        ∃ u, exec (.restTimerExpiry) s = .next u ∧
        joinEntered s u ∧ u.line = s.line ∧ u.frost = { s.frost with claims := [], granted := false, ownClaim := .idle } ∧
        u.fan = { s.fan with wanted := .halt, cap := none, ceilRef := none, window := [] } ∧
        u.filt.refIn = s.filt.refIn ∧ u.filt.refOut = s.filt.refOut ∧ u.filt.hours = s.filt.hours ∧
        u.demand.slot = s.demand.slot ∧
        u.demand.buttonBoost = s.demand.buttonBoost ∧ u.demand.dryGuard = s.demand.dryGuard ∧
        u.clim.ratios = s.clim.ratios ∧ u.clim.outer.held = s.clim.outer.held ∧
        u.clim.inner.held = s.clim.inner.held ∧ u.own.node = s.own.node ∧ u.own.lead = s.own.lead ∧
        u.own.level = s.own.level ∧ u.own.outdoor = s.own.outdoor ∧ u.svc.params = s.svc.params ∧
        u.clim.lastRh = s.clim.lastRh ∧ u.unit.waitPass = false ∧
        u.unit.engine = (match s.unit.engine with
          | .pass a ms _ => .pass a ms true
          | e => e) ∧
        (s.clim.outer.clearMark = true → checkAsked u.clim .outer = true) ∧
        (s.clim.inner.clearMark = true → checkAsked u.clim .inner = true) ∧
        (s.clim.rhSensor.clearMark = true → checkAsked u.clim .rh = true) ∧
        u.clim.outer.clearMark = false ∧ u.clim.inner.clearMark = false ∧
        u.clim.rhSensor.clearMark = false ∧
        (paramNat s 8 * 100 ≤ s.filt.hours ∧ (s.filt.state = .clean ∨ s.filt.state = .loaded) →
          u.filt.state = .change ∧ u.filt.runLoaded = 0 ∧ u.filt.runChange = 0 ∧
          u.filt.runBlocked = s.filt.runBlocked ∧ u.svc.writing.isSome = true ∧
          (s.svc.writing.isSome = true → u.svc.further = true)) ∧
        (s.filt.hours < paramNat s 8 * 100 ∨ s.filt.state = .change ∨ s.filt.state = .blocked →
          u.filt.state = s.filt.state ∧ u.filt.runLoaded = s.filt.runLoaded ∧
          u.filt.runChange = s.filt.runChange ∧ u.filt.runBlocked = s.filt.runBlocked) ∧
        (∀ x ∈ u.clim.converting.toList, Purpose.rest ∉ x.purposes) ∧
        (∀ p ∈ u.clim.waitOuter ++ u.clim.waitInner ++ u.clim.waitRh, p ≠ Purpose.rest) ∧
        u.demand.humidity = s.demand.humidity ∧ u.clim.rhSensor.held = s.clim.rhSensor.held ∧
        u.own.rh = s.own.rh) ∧
  (∀ (t : Count) (s : State) (f : RxFrame) (rest : List RxFrame),
        tableHeld s = false →
        s.line.rxq = f :: rest →
        decodeNotice f = some (.house .resume) →
        s.mode.mode = .rest →
        s.demand.flush = none →
        ∃ u, exec (.houseResume t) s = .next u ∧
        joinEntered s u ∧ u.line = { s.line with rxq := rest } ∧ u.frost = { s.frost with claims := [], granted := false, ownClaim := .idle } ∧
        u.fan = { s.fan with wanted := .halt, cap := none, ceilRef := none, window := [] } ∧
        u.filt.refIn = s.filt.refIn ∧ u.filt.refOut = s.filt.refOut ∧ u.filt.hours = s.filt.hours ∧
        u.demand.slot = s.demand.slot ∧
        u.demand.buttonBoost = s.demand.buttonBoost ∧ u.demand.dryGuard = s.demand.dryGuard ∧
        u.clim.ratios = s.clim.ratios ∧ u.clim.outer.held = s.clim.outer.held ∧
        u.clim.inner.held = s.clim.inner.held ∧ u.own.node = s.own.node ∧ u.own.lead = s.own.lead ∧
        u.own.level = s.own.level ∧ u.own.outdoor = s.own.outdoor ∧ u.svc.params = s.svc.params ∧
        u.clim.lastRh = s.clim.lastRh ∧ u.unit.waitPass = false ∧
        u.unit.engine = (match s.unit.engine with
          | .pass a ms _ => .pass a ms true
          | e => e) ∧
        (s.clim.outer.clearMark = true → checkAsked u.clim .outer = true) ∧
        (s.clim.inner.clearMark = true → checkAsked u.clim .inner = true) ∧
        (s.clim.rhSensor.clearMark = true → checkAsked u.clim .rh = true) ∧
        u.clim.outer.clearMark = false ∧ u.clim.inner.clearMark = false ∧
        u.clim.rhSensor.clearMark = false ∧
        (paramNat s 8 * 100 ≤ s.filt.hours ∧ (s.filt.state = .clean ∨ s.filt.state = .loaded) →
          u.filt.state = .change ∧ u.filt.runLoaded = 0 ∧ u.filt.runChange = 0 ∧
          u.filt.runBlocked = s.filt.runBlocked ∧ u.svc.writing.isSome = true ∧
          (s.svc.writing.isSome = true → u.svc.further = true)) ∧
        (s.filt.hours < paramNat s 8 * 100 ∨ s.filt.state = .change ∨ s.filt.state = .blocked →
          u.filt.state = s.filt.state ∧ u.filt.runLoaded = s.filt.runLoaded ∧
          u.filt.runChange = s.filt.runChange ∧ u.filt.runBlocked = s.filt.runBlocked) ∧
        (∀ x ∈ u.clim.converting.toList, Purpose.rest ∉ x.purposes) ∧
        (∀ p ∈ u.clim.waitOuter ++ u.clim.waitInner ++ u.clim.waitRh, p ≠ Purpose.rest) ∧
        u.demand.humidity = s.demand.humidity ∧ u.clim.rhSensor.held = s.clim.rhSensor.held ∧
        u.own.rh = s.own.rh) ∧
  (∀ (t : Count) (s : State) (f : RxFrame) (rest : List RxFrame),
        tableHeld s = false →
        s.line.rxq = f :: rest →
        decodeNotice f = some (.house .wake) →
        s.mode.mode = .rest →
        s.demand.flush = none →
        ∃ u, exec (.houseWake t) s = .next u ∧
        joinEntered s u ∧ u.line = { s.line with rxq := rest } ∧ u.frost = { s.frost with claims := [], granted := false, ownClaim := .idle } ∧
        u.fan = { s.fan with wanted := .halt, cap := none, ceilRef := none, window := [] } ∧
        u.filt.refIn = s.filt.refIn ∧ u.filt.refOut = s.filt.refOut ∧ u.filt.hours = s.filt.hours ∧
        u.demand.slot = s.demand.slot ∧
        u.demand.buttonBoost = s.demand.buttonBoost ∧ u.demand.dryGuard = s.demand.dryGuard ∧
        u.clim.ratios = s.clim.ratios ∧ u.clim.outer.held = s.clim.outer.held ∧
        u.clim.inner.held = s.clim.inner.held ∧ u.own.node = s.own.node ∧ u.own.lead = s.own.lead ∧
        u.own.level = s.own.level ∧ u.own.outdoor = s.own.outdoor ∧ u.svc.params = s.svc.params ∧
        u.clim.lastRh = s.clim.lastRh ∧ u.unit.waitPass = false ∧
        u.unit.engine = (match s.unit.engine with
          | .pass a ms _ => .pass a ms true
          | e => e) ∧
        (s.clim.outer.clearMark = true → checkAsked u.clim .outer = true) ∧
        (s.clim.inner.clearMark = true → checkAsked u.clim .inner = true) ∧
        (s.clim.rhSensor.clearMark = true → checkAsked u.clim .rh = true) ∧
        u.clim.outer.clearMark = false ∧ u.clim.inner.clearMark = false ∧
        u.clim.rhSensor.clearMark = false ∧
        (paramNat s 8 * 100 ≤ s.filt.hours ∧ (s.filt.state = .clean ∨ s.filt.state = .loaded) →
          u.filt.state = .change ∧ u.filt.runLoaded = 0 ∧ u.filt.runChange = 0 ∧
          u.filt.runBlocked = s.filt.runBlocked ∧ u.svc.writing.isSome = true ∧
          (s.svc.writing.isSome = true → u.svc.further = true)) ∧
        (s.filt.hours < paramNat s 8 * 100 ∨ s.filt.state = .change ∨ s.filt.state = .blocked →
          u.filt.state = s.filt.state ∧ u.filt.runLoaded = s.filt.runLoaded ∧
          u.filt.runChange = s.filt.runChange ∧ u.filt.runBlocked = s.filt.runBlocked) ∧
        (∀ x ∈ u.clim.converting.toList, Purpose.rest ∉ x.purposes) ∧
        (∀ p ∈ u.clim.waitOuter ++ u.clim.waitInner ++ u.clim.waitRh, p ≠ Purpose.rest) ∧
        u.demand.humidity = s.demand.humidity ∧ u.clim.rhSensor.held = s.clim.rhSensor.held ∧
        u.own.rh = s.own.rh) ∧
  (∀ (t : Count) (s : State),
        s.mode.mode = .rest →
        s.demand.flush = none →
        s.demand.button = none →
        ∃ u, exec (.buttonPress t) s = .next u ∧
        joinEntered s u ∧
        (s.line.faultCount < 32 ∧ s.line.txq.length < 4 ∧ (∀ x ∈ s.line.txq, x.cls ≠ .house) →
          newEntry .house false s.own.node false [0, 3, 0, 0] ∈ u.line.txq) ∧
        u.demand.button = some { since := (advanceTo t s).time.now, timed := false } ∧ u.frost = { s.frost with claims := [], granted := false, ownClaim := .idle } ∧
        u.fan = { s.fan with wanted := .halt, cap := none, ceilRef := none, window := [] } ∧
        u.filt.refIn = s.filt.refIn ∧ u.filt.refOut = s.filt.refOut ∧ u.filt.hours = s.filt.hours ∧
        u.demand.slot = s.demand.slot ∧
        u.demand.buttonBoost = s.demand.buttonBoost ∧ u.demand.dryGuard = s.demand.dryGuard ∧
        u.clim.ratios = s.clim.ratios ∧ u.clim.outer.held = s.clim.outer.held ∧
        u.clim.inner.held = s.clim.inner.held ∧ u.own.node = s.own.node ∧ u.own.lead = s.own.lead ∧
        u.own.level = s.own.level ∧ u.own.outdoor = s.own.outdoor ∧ u.svc.params = s.svc.params ∧
        u.clim.lastRh = s.clim.lastRh ∧ u.unit.waitPass = false ∧
        u.unit.engine = (match s.unit.engine with
          | .pass a ms _ => .pass a ms true
          | e => e) ∧
        (s.clim.outer.clearMark = true → checkAsked u.clim .outer = true) ∧
        (s.clim.inner.clearMark = true → checkAsked u.clim .inner = true) ∧
        (s.clim.rhSensor.clearMark = true → checkAsked u.clim .rh = true) ∧
        u.clim.outer.clearMark = false ∧ u.clim.inner.clearMark = false ∧
        u.clim.rhSensor.clearMark = false ∧
        (paramNat s 8 * 100 ≤ s.filt.hours ∧ (s.filt.state = .clean ∨ s.filt.state = .loaded) →
          u.filt.state = .change ∧ u.filt.runLoaded = 0 ∧ u.filt.runChange = 0 ∧
          u.filt.runBlocked = s.filt.runBlocked ∧ u.svc.writing.isSome = true ∧
          (s.svc.writing.isSome = true → u.svc.further = true)) ∧
        (s.filt.hours < paramNat s 8 * 100 ∨ s.filt.state = .change ∨ s.filt.state = .blocked →
          u.filt.state = s.filt.state ∧ u.filt.runLoaded = s.filt.runLoaded ∧
          u.filt.runChange = s.filt.runChange ∧ u.filt.runBlocked = s.filt.runBlocked) ∧
        (∀ x ∈ u.clim.converting.toList, Purpose.rest ∉ x.purposes) ∧
        (∀ p ∈ u.clim.waitOuter ++ u.clim.waitInner ++ u.clim.waitRh, p ≠ Purpose.rest) ∧
        u.demand.humidity = s.demand.humidity ∧ u.clim.rhSensor.held = s.clim.rhSensor.held ∧
        u.own.rh = s.own.rh) ∧
  (∀ (t : Count) (s : State) (x : Conversion) (result : Int),
        s.clim.converting = some x →
        x.source = .rh →
        Purpose.rest ∈ x.purposes →
        s.mode.mode = .rest →
        s.demand.flush = none →
        (s.own.room = .wet ∨ s.own.room = .kitchen) →
        s.clim.rhSensor.latched = false →
        (85 ≤ result ∨ (result < 0 ∧ s.clim.rhSensor.invalid < 2 ∧ s.clim.rhSensor.held.any (fun v => decide (85 ≤ v)) = true)) →
        ∃ u, exec (.conversionComplete t result) s = .next u ∧
        joinEntered s u ∧
        u.demand.humidity = .active ∧
        (s.line.faultCount < 32 ∧ s.line.txq.length < 4 ∧ (∀ x ∈ s.line.txq, x.cls ≠ .house) →
          newEntry .house false s.own.node false [0, 3, 0, 0] ∈ u.line.txq) ∧
        u.clim.rhSensor.held = (if result < 0 then s.clim.rhSensor.held else some (min result 100)) ∧
        u.own.rh = (if result < 0 then s.own.rh else (min result 100).toNat) ∧ u.frost = { s.frost with claims := [], granted := false, ownClaim := .idle } ∧
        u.fan = { s.fan with wanted := .halt, cap := none, ceilRef := none, window := [] } ∧
        u.filt.refIn = s.filt.refIn ∧ u.filt.refOut = s.filt.refOut ∧ u.filt.hours = s.filt.hours ∧
        u.demand.slot = s.demand.slot ∧
        u.demand.buttonBoost = s.demand.buttonBoost ∧ u.demand.dryGuard = s.demand.dryGuard ∧
        u.clim.ratios = s.clim.ratios ∧ u.clim.outer.held = s.clim.outer.held ∧
        u.clim.inner.held = s.clim.inner.held ∧ u.own.node = s.own.node ∧ u.own.lead = s.own.lead ∧
        u.own.level = s.own.level ∧ u.own.outdoor = s.own.outdoor ∧ u.svc.params = s.svc.params ∧
        u.clim.lastRh = s.clim.lastRh ∧ u.unit.waitPass = false ∧
        u.unit.engine = (match s.unit.engine with
          | .pass a ms _ => .pass a ms true
          | e => e) ∧
        (s.clim.outer.clearMark = true → checkAsked u.clim .outer = true) ∧
        (s.clim.inner.clearMark = true → checkAsked u.clim .inner = true) ∧
        (s.clim.rhSensor.clearMark = true → checkAsked u.clim .rh = true) ∧
        u.clim.outer.clearMark = false ∧ u.clim.inner.clearMark = false ∧
        u.clim.rhSensor.clearMark = false ∧
        (paramNat s 8 * 100 ≤ s.filt.hours ∧ (s.filt.state = .clean ∨ s.filt.state = .loaded) →
          u.filt.state = .change ∧ u.filt.runLoaded = 0 ∧ u.filt.runChange = 0 ∧
          u.filt.runBlocked = s.filt.runBlocked ∧ u.svc.writing.isSome = true ∧
          (s.svc.writing.isSome = true → u.svc.further = true)) ∧
        (s.filt.hours < paramNat s 8 * 100 ∨ s.filt.state = .change ∨ s.filt.state = .blocked →
          u.filt.state = s.filt.state ∧ u.filt.runLoaded = s.filt.runLoaded ∧
          u.filt.runChange = s.filt.runChange ∧ u.filt.runBlocked = s.filt.runBlocked) ∧
        (∀ x ∈ u.clim.converting.toList, Purpose.rest ∉ x.purposes) ∧
        (∀ p ∈ u.clim.waitOuter ++ u.clim.waitInner ++ u.clim.waitRh, p ≠ Purpose.rest))

/-- A flush ends at its end instant, withdrawing a LEAVE, or with the send or drop that takes it away; the REST
flush stops the fan and carries out a held wake. Rests on R28, R29, R33, R34, R160, R161, R162, R163, R179,
R180; the model's choice in log 31. That the flush ends in the very step of the send or drop is the model's
choice (log 31). -/
def Obligations.SetupAndRestFlushesEnd : Prop :=
  (∀ (s : State) (i : Count),
        s.mode.mode = .setup →
        s.mode.setupFlush = some i →
        s.mode.leaveAsked = false →
        ∃ u, exec (.setupFlushEnd) s = .next u ∧
        u.mode = { s.mode with setupFlush := none } ∧
        (∀ e ∈ u.line.txq, isLeave e = true → e.onLine = true ∧ e.withdrawn = true) ∧
        (u.line.txq.filter fun e => !isLeave e) = (s.line.txq.filter fun e => !isLeave e) ∧
        u.line.replacement = (s.line.replacement.filter fun e => !isLeave e) ∧
        u.line = { s.line with txq := u.line.txq, replacement := u.line.replacement } ∧
        othersKept [.mode, .line, .time, .cond] s u) ∧
  (∀ (t : Count) (s : State) (f : RxFrame) (rest : List RxFrame) (index value : Byte),
        tableHeld s = false →
        s.line.rxq = f :: rest →
        decodeNotice f = some (.request .setupLeave index value) →
        s.mode.mode = .setup →
        s.mode.setupFlush.isSome = true →
        leaveQueued s = true →
        s.line.faultCount < 32 →
        (∀ x ∈ s.line.txq, x.cls ≠ .reply) →
        s.line.txq.length < 4 →
        ∃ u, exec (.setupLeave t) s = .next u ∧
        (∃ e ∈ u.line.txq, e.cls = .reply ∧ e.node = s.own.node ∧
          e.payload = replyBytes f.node .setupLeave .done index 0 0 0 0) ∧
        u.mode = { s.mode with
          leaveAsked := true, inactivity := some (Count.later (advanceTo t s).time.now 614400) } ∧
        othersKept [.mode, .line, .cond] (advanceTo t s) u) ∧
  (∀ (t : Count) (s : State) (f : RxFrame) (rest : List RxFrame) (index value : Byte),
        tableHeld s = false →
        s.line.rxq = f :: rest →
        decodeNotice f = some (.request .setupLeave index value) →
        (s.mode.mode = .join ∨ s.mode.mode = .run ∨ s.mode.mode = .rest) →
        s.line.faultCount < 32 →
        (∀ x ∈ s.line.txq, x.cls ≠ .reply) →
        s.line.txq.length < 4 →
        s.mode.setupFlush = none →
        s.demand.flush = none →
        ∃ u, exec (.setupLeave t) s = .next u ∧
        (∃ e ∈ u.line.txq, e.cls = .reply ∧ e.node = s.own.node ∧
          e.payload = replyBytes f.node .setupLeave .notInSetup index 0 0 0 0) ∧
        u.line.rxq = rest ∧ othersKept [.line, .cond] (advanceTo t s) u) ∧
  (∀ (s : State) (i : Count),
        s.mode.mode = .rest →
        s.demand.flush = some i →
        s.demand.heldWake = none →
        ∃ u, exec (.restFlushEnd) s = .next u ∧
        u.mode = s.mode ∧ u.demand = { s.demand with flush := none } ∧ u.fan.wanted = .halt ∧
        (s.fan.state = .stopped →
          u.own = { s.own with direction := .halt, want := 0, ceil := 0, flow := 0 } ∧ u.fan.state = .stopped) ∧
        (s.fan.state = .running → u.fan.state = .rampDown ∧ u.fan.target = some .halt ∧ u.own = s.own) ∧
        (∀ e ∈ u.line.txq, isLeave e = true → e.onLine = true ∧ e.withdrawn = true) ∧
        (u.line.txq.filter fun e => !isLeave e) = (s.line.txq.filter fun e => !isLeave e) ∧
        u.line.replacement = (s.line.replacement.filter fun e => !isLeave e) ∧
        u.line = { s.line with txq := u.line.txq, replacement := u.line.replacement } ∧
        othersKept [.own, .line, .time, .fan, .demand, .cond] s u) ∧
  (∀ (s : State) (i : Count) (w : HeldWake),
        s.mode.mode = .rest →
        s.demand.flush = some i →
        s.demand.heldWake = some w →
        ∃ u, exec (.restFlushEnd) s = .next u ∧
        joinEntered s u ∧ u.fan.wanted = .halt ∧
        (w.mark = true ∧ s.line.faultCount < 32 ∧ s.line.txq.length < 4 ∧
            (∀ x ∈ s.line.txq, x.cls ≠ .house) →
          newEntry .house false s.own.node false [0, 3, 0, 0] ∈ u.line.txq) ∧
        (w.mark = false →
          (∀ e ∈ u.line.txq, isLeave e = true → e.onLine = true ∧ e.withdrawn = true) ∧
        (u.line.txq.filter fun e => !isLeave e) = (s.line.txq.filter fun e => !isLeave e) ∧
        u.line.replacement = (s.line.replacement.filter fun e => !isLeave e) ∧
          u.line = { s.line with txq := u.line.txq, replacement := u.line.replacement })) ∧
  (∀ (t : Count) (s : State) (e : TxEntry),
        s.line.phase = .sending →
        s.line.txq.find? (fun x => x.onLine) = some e →
        s.mode.mode = .rest →
        s.demand.flush.isSome = true →
        (∀ x ∈ s.line.txq, x.cls = e.cls) →
        s.line.replacement = none →
        s.demand.heldWake = none →
        ∃ u, exec (.cleanSend t) s = .next u ∧
        u.mode = s.mode ∧ u.demand = { s.demand with flush := none } ∧
        u.fan.wanted = .halt ∧
        (s.fan.state = .stopped →
          u.own = { s.own with direction := .halt, want := 0, ceil := 0, flow := 0 } ∧ u.fan.state = .stopped) ∧
        (s.fan.state = .running → u.fan.state = .rampDown ∧ u.fan.target = some .halt ∧ u.own = s.own) ∧
        u.line.txq = [] ∧ u.line.faultCount = s.line.faultCount - 1 ∧
        othersKept [.own, .line, .fan, .frost, .demand, .cond] (advanceTo t s) u) ∧
  (∀ (t : Count) (s : State) (e : TxEntry) (w : HeldWake),
        s.line.phase = .sending →
        s.line.txq.find? (fun x => x.onLine) = some e →
        s.mode.mode = .rest →
        s.demand.flush.isSome = true →
        (∀ x ∈ s.line.txq, x.cls = e.cls) →
        s.line.replacement = none →
        s.demand.heldWake = some w →
        ∃ u, exec (.cleanSend t) s = .next u ∧
        joinEntered s u ∧ u.line.faultCount = s.line.faultCount - 1 ∧
        u.line.txq = (if w.mark = true ∧ s.line.faultCount - 1 < 32
          then [newEntry .house false s.own.node false [0, 3, 0, 0]] else [])) ∧
  (∀ (t : Count) (s : State) (e : TxEntry),
        s.line.phase = .sending →
        s.line.txq.find? (fun x => x.onLine) = some e →
        s.mode.mode = .setup →
        s.mode.setupFlush.isSome = true →
        isLeave e = true →
        s.line.replacement.any isLeave = false →
        ∃ u, exec (.cleanSend t) s = .next u ∧
        leaveQueued u = false ∧ u.line.faultCount = s.line.faultCount - 1 ∧
        (s.mode.leaveAsked = false → u.mode = { s.mode with setupFlush := none } ∧
          othersKept [.mode, .line, .cond] (advanceTo t s) u) ∧
        (s.mode.leaveAsked = true → joinEntered s u ∧
          (s.svc.changed = true → u.svc.writing.isSome = true))) ∧
  (∀ (t : Count) (s : State) (e : TxEntry),
        s.line.phase = .sending →
        s.line.txq.find? (fun x => x.onLine) = some e →
        s.mode.mode = .rest →
        s.demand.flush.isSome = true →
        (∀ x ∈ s.line.txq, x.cls = e.cls) →
        s.line.replacement = none →
        (e.withdrawn = true ∨ 2 ≤ e.attempts) →
        s.demand.heldWake = none →
        sendQueueShaped s.line →
        countsInRange s.line →
        ∃ u, exec (.readbackError t) s = .next u ∧
        u.mode = s.mode ∧ u.demand = { s.demand with flush := none } ∧
        u.fan.wanted = .halt ∧
        (s.fan.state = .stopped →
          u.own = { s.own with direction := .halt, want := 0, ceil := 0, flow := 0 } ∧ u.fan.state = .stopped) ∧
        (s.fan.state = .running → u.fan.state = .rampDown ∧ u.fan.target = some .halt ∧ u.own = s.own) ∧
        u.line.drops = (if e.withdrawn = true then s.line.drops else min (s.line.drops + 1) 255) ∧
        u.line.txq = [] ∧ u.line.faultCount = min (s.line.faultCount + 4) 64 ∧
        othersKept [.own, .line, .fan, .frost, .demand, .cond] (advanceTo t s) u) ∧
  (∀ (t : Count) (s : State) (e : TxEntry) (w : HeldWake),
        s.line.phase = .sending →
        s.line.txq.find? (fun x => x.onLine) = some e →
        s.mode.mode = .rest →
        s.demand.flush.isSome = true →
        (∀ x ∈ s.line.txq, x.cls = e.cls) →
        s.line.replacement = none →
        (e.withdrawn = true ∨ 2 ≤ e.attempts) →
        s.demand.heldWake = some w →
        ∃ u, exec (.readbackError t) s = .next u ∧
        joinEntered s u ∧ u.line.faultCount = min (s.line.faultCount + 4) 64 ∧
        u.line.txq = (if w.mark = true ∧ min (s.line.faultCount + 4) 64 < 32
          then [newEntry .house false s.own.node false [0, 3, 0, 0]] else [])) ∧
  (∀ (t : Count) (s : State) (e : TxEntry),
        s.line.phase = .sending →
        s.line.txq.find? (fun x => x.onLine) = some e →
        s.mode.mode = .setup →
        s.mode.setupFlush.isSome = true →
        isLeave e = true →
        s.line.replacement.any isLeave = false →
        (e.withdrawn = true ∨ 2 ≤ e.attempts) →
        ∃ u, exec (.readbackError t) s = .next u ∧
        leaveQueued u = false ∧ u.line.faultCount = min (s.line.faultCount + 4) 64 ∧
        (s.mode.leaveAsked = false → u.mode = { s.mode with setupFlush := none } ∧
          othersKept [.mode, .line, .cond] (advanceTo t s) u) ∧
        (s.mode.leaveAsked = true → joinEntered s u ∧
          (s.svc.changed = true → u.svc.writing.isSome = true)))

/-- CLEAR and BUTTON_HOLD_10S ask a CLEAR check of every latched sensor and make a FAN STALL trial PENDING, and
unlatch nothing themselves. Rests on R107, R116, R154, R185. -/
def Obligations.ClearAsksForChecksAndATrial : Prop :=
  (∀ (t : Count) (s : State) (f : RxFrame) (rest : List RxFrame) (index value : Byte),
        tableHeld s = false →
        s.line.rxq = f :: rest →
        decodeNotice f = some (.request .clear index value) →
        s.mode.mode ≠ .start →
        s.line.faultCount < 32 →
        (∀ x ∈ s.line.txq, x.cls ≠ .reply) →
        s.line.txq.length < 4 →
        s.mode.setupFlush = none →
        s.demand.flush = none →
        ∃ u, exec (.clear t) s = .next u ∧
        u.fan = { s.fan with
            trial := if s.fan.latch.isSome ∧ s.fan.trial = .idle then .pending else s.fan.trial } ∧
          (s.clim.outer.latched = true → checkAsked u.clim .outer = true) ∧
          (s.clim.inner.latched = true → checkAsked u.clim .inner = true) ∧
          (s.clim.rhSensor.latched = true → checkAsked u.clim .rh = true) ∧
          u.clim.outer = s.clim.outer ∧ u.clim.inner = s.clim.inner ∧ u.clim.rhSensor = s.clim.rhSensor ∧
          (∃ e ∈ u.line.txq, e.cls = .reply ∧ e.node = s.own.node ∧
          e.payload = replyBytes f.node .clear .done index 0 0 0 0) ∧ u.line.rxq = rest ∧
          othersKept [.mode, .line, .fan, .clim, .cond] (advanceTo t s) u) ∧
  (∀ (t : Count) (s : State) (f : RxFrame) (rest : List RxFrame) (index value : Byte),
        tableHeld s = false →
        s.line.rxq = f :: rest →
        decodeNotice f = some (.request .clear index value) →
        s.mode.mode = .start →
        ∃ u, exec (.clear t) s = .next u ∧
        u.clim = { s.clim with
            outer := { s.clim.outer with clearMark := s.clim.outer.clearMark || s.clim.outer.latched }
            inner := { s.clim.inner with clearMark := s.clim.inner.clearMark || s.clim.inner.latched }
            rhSensor :=
              { s.clim.rhSensor with clearMark := s.clim.rhSensor.clearMark || s.clim.rhSensor.latched } } ∧
          u.fan = { s.fan with
            trial := if s.fan.latch.isSome ∧ s.fan.trial = .idle then .pending else s.fan.trial } ∧
          u.line = { s.line with rxq := rest } ∧ othersKept [.line, .fan, .clim, .cond] (advanceTo t s) u) ∧
  (∀ (s : State) (p : Press),
        s.demand.button = some p →
        p.timed = true →
        s.mode.mode ≠ .start →
        ∃ u, exec (.buttonHold10s) s = .next u ∧
        u.fan = { s.fan with
            trial := if s.fan.latch.isSome ∧ s.fan.trial = .idle then .pending else s.fan.trial } ∧
          (s.clim.outer.latched = true → checkAsked u.clim .outer = true) ∧
          (s.clim.inner.latched = true → checkAsked u.clim .inner = true) ∧
          (s.clim.rhSensor.latched = true → checkAsked u.clim .rh = true) ∧
          u.clim.outer = s.clim.outer ∧ u.clim.inner = s.clim.inner ∧ u.clim.rhSensor = s.clim.rhSensor ∧
          u.demand = { s.demand with button := some { p with timed := false } } ∧
          u.time = (advanceTo (Count.later p.since 10240) s).time ∧
          othersKept [.time, .fan, .clim, .demand, .cond] s u) ∧
  (∀ (s : State) (p : Press),
        s.demand.button = some p →
        p.timed = true →
        s.mode.mode = .start →
        ∃ u, exec (.buttonHold10s) s = .next u ∧
        u.clim = { s.clim with
            outer := { s.clim.outer with clearMark := s.clim.outer.clearMark || s.clim.outer.latched }
            inner := { s.clim.inner with clearMark := s.clim.inner.clearMark || s.clim.inner.latched }
            rhSensor :=
              { s.clim.rhSensor with clearMark := s.clim.rhSensor.clearMark || s.clim.rhSensor.latched } } ∧
          u.fan = { s.fan with
            trial := if s.fan.latch.isSome ∧ s.fan.trial = .idle then .pending else s.fan.trial } ∧
          u.demand = { s.demand with button := some { p with timed := false } } ∧
          u.time = (advanceTo (Count.later p.since 10240) s).time ∧
          othersKept [.time, .fan, .clim, .demand, .cond] s u)

/-- FILTER_RESET sets the filter state CLEAN, hours, loadings and run counts 0, both ceilings 120, references 0 with
learning at 0, and requests a store write. Rests on R108, R109, R110, R174, R182, R183; the model's choice in
log 51, 55. Outside RUN, while the direction still stands, that C follows the restored ceiling with the cap and
the stage in force is the model's choice (log 51). A parameter outside its range, as only a checked store image
can bring, enters the same formula, a negative one as 0 where a number of 0 or more is meant: the model's choice
(log 55). -/
def Obligations.FilterResetStartsLearning : Prop :=
  (∀ (t : Count) (s : State) (f : RxFrame) (rest : List RxFrame) (index value : Byte),
        tableHeld s = false →
        s.line.rxq = f :: rest →
        decodeNotice f = some (.request .filterReset index value) →
        s.mode.mode ≠ .start →
        s.mode.mode ≠ .run →
        s.line.faultCount < 32 →
        (∀ x ∈ s.line.txq, x.cls ≠ .reply) →
        s.line.txq.length < 4 →
        s.mode.setupFlush = none →
        s.demand.flush = none →
        ∃ u, exec (.filterReset t) s = .next u ∧
        u.filt =
          { refIn := 0, refOut := 0, learning := some 0, sumIn := 0, sumOut := 0, held := none,
            loadIn := 0, loadOut := 0, loading := 0, wind := 0, ceilIn := 120, ceilOut := 120,
            state := .clean, runLoaded := 0, runChange := 0, runBlocked := 0, hours := 0 } ∧
        u.time = { (advanceTo t s).time with fanTime := 0 } ∧ u.unit.waitFilter = none ∧
        u.unit.engine = (match s.unit.engine with
          | .filter p a ms _ => .filter p a ms true
          | e => e) ∧
        u.svc.writing.isSome = true ∧ (s.svc.writing.isSome = true → u.svc.further = true) ∧
        u.svc.params = s.svc.params ∧ (∃ e ∈ u.line.txq, e.cls = .reply ∧ e.node = s.own.node ∧
          e.payload = replyBytes f.node .filterReset .done index 0 0 0 0) ∧
        (s.own.direction = .halt ∧ s.own.ceil = 0 → u.own = s.own) ∧
        u.own = { s.own with ceil := u.own.ceil, flow := u.own.flow } ∧
        u.own.ceil = (match s.own.direction with
          | .halt => 0
          | .outward => (match s.fan.cap with
            | some x => min x 120
            | none => 120)
          | .inward =>
            let trim := if s.frost.stage = .trim ∨ s.frost.stage = .claiming then 120 * paramNat s 9 / 100
              else 120
            match s.fan.cap with
            | some x => min x trim
            | none => trim) ∧
        othersKept [.mode, .own, .line, .time, .unit, .filt, .cond, .svc] s u) ∧
  (∀ (t : Count) (s : State) (f : RxFrame) (rest : List RxFrame) (index value : Byte),
        tableHeld s = false →
        s.line.rxq = f :: rest →
        decodeNotice f = some (.request .filterReset index value) →
        s.mode.mode = .run →
        ∃ u, exec (.filterReset t) s = .next u ∧
        u.filt =
          { refIn := 0, refOut := 0, learning := some 0, sumIn := 0, sumOut := 0, held := none,
            loadIn := 0, loadOut := 0, loading := 0, wind := 0, ceilIn := 120, ceilOut := 120,
            state := .clean, runLoaded := 0, runChange := 0, runBlocked := 0, hours := 0 } ∧
        u.own.ceil = (match s.own.direction with
          | .halt => 0
          | .outward => (match s.fan.cap with
            | some x => min x 120
            | none => 120)
          | .inward =>
            let trim := if s.frost.stage = .trim ∨ s.frost.stage = .claiming then 120 * paramNat s 9 / 100
              else 120
            match s.fan.cap with
            | some x => min x trim
            | none => trim) ∧
        (s.line.faultCount < 64 ∧ s.line.txq.length < 3 ∧ (∀ x ∈ s.line.txq, x.cls ≠ .change) →
          (u.own.ceil < s.own.ceil ∧ s.fan.ceilRef.any (fun r => decide (u.own.ceil + 10 ≤ r)) = true →
            newEntry .change false s.own.node false [] ∈ u.line.txq) ∧
          (s.own.ceil ≤ u.own.ceil ∨ s.fan.ceilRef.any (fun r => decide (u.own.ceil + 10 ≤ r)) = false →
            ∀ x ∈ u.line.txq, x.cls ≠ .change)) ∧
        (flowBounded s.own → flowBounded u.own) ∧ u.own.flow = (if u.own.ceil = s.own.ceil then s.own.flow
          else if s.mode.mode = .run ∧ s.pass.current = false ∧ s.own.direction ≠ .halt then
            min s.own.want u.own.ceil
          else min s.own.flow u.own.ceil) ∧
        (let again : Bool := decide (s.mode.mode = .run ∧ s.rev.gather = none ∧ u.own.ceil ≠ s.own.ceil)
        u.pass = { s.pass with
              state := if again then
                  (match s.pass.state with
                  | .idle => .waiting
                  | .waiting => .waiting
                  | .running => .runningOneMore
                  | .runningOneMore => .runningOneMore)
                else s.pass.state } ∧
            u.unit = { s.unit with
              waitFilter := none, engine := u.unit.engine
              waitPass := s.unit.waitPass || (again && decide (s.pass.state = .idle)) }) ∧
        u.own = { s.own with ceil := u.own.ceil, flow := u.own.flow } ∧
        u.unit.waitFilter = none ∧
        u.unit.engine = (match s.unit.engine with
          | .filter p a ms _ => .filter p a ms true
          | e => e) ∧
        u.time = { (advanceTo t s).time with fanTime := 0 } ∧ u.svc.writing.isSome = true ∧
        (s.svc.writing.isSome = true → u.svc.further = true) ∧ u.svc.params = s.svc.params ∧
        u.line.rxq = rest ∧
        (s.line.faultCount < 32 ∧ (∀ x ∈ s.line.txq, x.cls ≠ .reply) ∧ s.line.txq.length < 3 →
          (∃ e ∈ u.line.txq, e.cls = .reply ∧ e.node = s.own.node ∧
          e.payload = replyBytes f.node .filterReset .done index 0 0 0 0)) ∧
        othersKept [.own, .line, .time, .unit, .pass, .filt, .cond, .svc] s u) ∧
  (∀ (t : Count) (s : State) (f : RxFrame) (rest : List RxFrame) (index value : Byte),
        tableHeld s = false →
        s.line.rxq = f :: rest →
        decodeNotice f = some (.request .filterReset index value) →
        s.mode.mode = .start →
        ∃ u, exec (.filterReset t) s = .next u ∧
        u.line = { s.line with rxq := rest } ∧ othersKept [.line, .cond] (advanceTo t s) u)

/-- REVERSAL_EXPIRY in RUN writes k, instant, direction, D, C and F for the new half-cycle, opens both windows, ages
the table and shifts the sample sets. Rests on R3, R4, R5, R15, R16, R55, R58, R59, R87, R108, R109, R112, R117,
R148, R149, R150, R167, R168; the model's choice in log 23, 43, 55. Two points are the model's choice: that a
filter evaluation already waiting keeps its pair (log 23), and that samples pair by direction and number over an
adoption too (log 43). A parameter outside its range, as only a checked store image can bring, enters the same
formula, a negative one as 0 where a number of 0 or more is meant: the model's choice (log 55). -/
def Obligations.ReversalExpiryWritesTheHalfCycle : Prop :=
  (∀ (s : State) (i : Count),
        s.mode.mode = .run →
        s.rev.next = some i →
        ∃ u, exec (.reversalExpiry) s = .next u ∧
        (let k := s.rev.pendingNumber.getD (s.own.k.getD 0 + 1)
        let level : Level :=
          if s.demand.buttonBoost.isSome = true ∨ s.demand.humidity = .active ∨ s.demand.humidity = .runOn then .boost
          else match s.demand.slot with
            | some h => h.level
            | none => if s.demand.dryGuard = true then .setback else .base
        let flow := match level with
          | .setback => paramNat s 1
          | .base => paramNat s 2
          | .raised => paramNat s 3
          | .boost => paramNat s 4
        let aged := (s.peers.records.filter fun r => decide (r.age < 3)).map fun r =>
          { r with
            age := r.age + 1
            climate := match r.climate with
              | some p => if p.age < 15 then some { p with age := p.age + 1 } else none
              | none => none }
        u.own.k = some k ∧ u.own.instant = some i ∧
          u.own.direction =
            (if u.frost.stage = .lockout ∨ s.fan.latch.isSome = true then .halt
            else if u.frost.stage = .thaw then .outward
            else if (k.toNat + s.own.lead.toNat) % 2 = 0 then .inward else .outward) ∧
          u.rev.tally = [] ∧ u.rev.gather = some (Count.later i 3072) ∧
          u.rev.claimWindow = some (Count.later i 10240) ∧
          u.rev.statusTimer =
            (if k.toNat % 4 = s.own.node % 4 then some (Count.later i 5120) else none) ∧
          u.own.level = level ∧
          u.own.want =
            (if u.own.direction = .halt then 0
            else if 64 ≤ s.line.faultCount then min flow (paramNat s 1)
            else flow) ∧
          u.own.ceil =
            (match u.own.direction with
            | .halt => 0
            | .inward =>
              if u.frost.stage = .trim ∨ u.frost.stage = .claiming then s.filt.ceilIn * paramNat s 9 / 100
              else s.filt.ceilIn
            | .outward => s.filt.ceilOut) ∧
          u.own.flow = min u.own.want u.own.ceil ∧
          u.fan.cap = none ∧ u.fan.ceilRef = some u.own.ceil ∧
          u.fan.window = (if s.own.direction = .halt then s.fan.window else []) ∧
          u.fan.latch = s.fan.latch ∧ u.pass.current = false ∧ u.pass.record = s.pass.record ∧
          u.unit.waitPass = false ∧ u.unit.waitClimate = s.unit.waitClimate ∧
          u.unit.engine = (match s.unit.engine with
            | .pass a ms _ => .pass a ms true
            | e => e) ∧
          u.pass.snapshot = s.pass.snapshot ∧
          u.pass.state = (match s.pass.state with
            | .idle => .idle
            | .waiting => .idle
            | .running => .running
            | .runningOneMore => .running) ∧
          u.line.clashAge = min (s.line.clashAge + 1) 8 ∧
          u.line.faultCount = s.line.faultCount ∧ u.line.rxq = s.line.rxq ∧
          u.peers = (if tableHeld s then { s.peers with owedAgeings := s.peers.owedAgeings + 1 }
            else { s.peers with records := aged }) ∧
          u.clim.current = { emptySet with direction := u.own.direction } ∧
          u.clim.previous = s.clim.current ∧ u.frost.claims = [] ∧ u.frost.granted = false ∧
          u.own.node = s.own.node ∧ u.own.outdoor = s.own.outdoor ∧ u.own.leaving = s.own.leaving ∧
          othersKept [.own, .line, .peers, .rev, .time, .unit, .pass, .fan, .clim, .frost, .filt, .cond] s u)) ∧
  (∀ (s : State) (i : Count),
        s.mode.mode = .run →
        s.rev.next = some i →
        ∃ u, exec (.reversalExpiry) s = .next u ∧
        (let d := u.own.direction
        (s.line.faultCount < 64 ∧ s.line.txq.length < 3 ∧ (∀ x ∈ s.line.txq, x.cls ≠ .phase) →
            newEntry .phase false s.own.node false [] ∈ u.line.txq) ∧
          (d = s.own.direction →
            u.fan.wanted = s.fan.wanted ∧ u.fan.state = s.fan.state ∧ u.fan.target = s.fan.target) ∧
          (d ≠ s.own.direction → u.fan.wanted = d) ∧
          (d ≠ s.own.direction ∧ d ≠ .halt →
            (s.fan.state = .stopped →
              u.fan.state = .flapOpening ∧ u.fan.flap = .openFlap ∧ dirOfSide u.fan.drive = d ∧
                u.fan.target = some d) ∧
            (s.fan.state = .running ∧ d = dirOfSide s.fan.drive → u.fan.state = .running) ∧
            (s.fan.state = .running ∧ d ≠ dirOfSide s.fan.drive →
              u.fan.state = .rampDown ∧ u.fan.target = some d) ∧
            (s.fan.state ≠ .stopped ∧ s.fan.state ≠ .running →
              u.fan.state = s.fan.state ∧ u.fan.target = s.fan.target)) ∧
          (d ≠ s.own.direction ∧ d = .halt →
            u.fan.restart = false ∧
            (s.fan.state = .running ∨ s.fan.state = .rampUp →
              u.fan.state = .rampDown ∧ u.fan.target = some .halt) ∧
            (s.fan.state = .rampDown ∨ s.fan.state = .coast →
              u.fan.state = s.fan.state ∧ u.fan.target = some .halt) ∧
            (s.fan.state = .flapOpening → u.fan.state = .flapClosing ∧ u.fan.flap = .closed)))) ∧
  (∀ (s : State) (i : Count) (side : Side) (k : HalfNo),
        s.mode.mode = .run →
        s.rev.next = some i →
        s.own.direction = dirOfSide side →
        s.own.k = some k →
        ∃ u, exec (.reversalExpiry) s = .next u ∧
        (let es := s.fan.window.filter fun e => e.state = .running ∧ e.drive = side
        let fits : Bool := es.length = 120 && es.all fun e => 300 ≤ e.speed
        let ratio := (es.map fun e => e.duty).sum / 120 * 1000 / ((es.map fun e => e.speed).sum / 120)
        let pairs : Bool := s.filt.held.any fun h => h.side ≠ side && h.k + 1 = k
        let other := (s.filt.held.map fun h => h.ratio).getD 0
        u.filt = { s.filt with
            held := if fits = false then s.filt.held
              else if pairs then none else some { side := side, ratio := ratio, k := k } } ∧
          u.unit.waitFilter =
            (if fits = true ∧ pairs = true then
              some (s.unit.waitFilter.getD
                (if side = .inward then { ratioIn := ratio, ratioOut := other }
                else { ratioIn := other, ratioOut := ratio }))
            else s.unit.waitFilter)))

/-- REVERSAL_EXPIRY sets the next reversal to L plus the correction, which lies within the jump limit, unless a
foreign group qualifies; it counts THAW half-cycles. Rests on R47, R64, R74, R118, R132, R133, R137, R139; the
model's choice in log 55. A parameter outside its range, as only a checked store image can bring, enters the
same formula, a negative one as 0 where a number of 0 or more is meant: the model's choice (log 55). -/
def Obligations.ReversalExpirySchedulesTheNext : Prop :=
  (∀ (s : State) (i : Count),
        s.mode.mode = .run →
        s.rev.next = some i →
        adoptedKp s.own.node s.rev.tally = none →
        ∃ u, exec (.reversalExpiry) s = .next u ∧
        (let coarse := s.time.quality = .coarse ∧ s.time.crystalReady = false
        let offsets := s.rev.tally.filterMap fun e => e.offset
        let limit : Int := if coarse then 2048 else 64
        let c : Int := if offsets = [] then 0
          else max (-limit) (min (offsets.sum.tdiv (2 * offsets.length)) limit)
        let next := i + BitVec.ofInt 32 ((paramNat s 0 * 10240 : Nat) + c)
        u.rev.next = some next ∧ u.rev.pendingNumber = none ∧
          u.clim.endPoint = some (next - 1024) ∧
          u.time.quality = (if coarse then .coarse else .crystal))) ∧
  (∀ (s : State) (i : Count),
        s.mode.mode = .run →
        s.rev.next = some i →
        ∃ u, exec (.reversalExpiry) s = .next u ∧
        (s.frost.stage = .claiming ∧ s.frost.granted = true →
          u.frost.stage = .thaw ∧ u.frost.thawHalves = 1 ∧
          u.frost.thawTotal = min (s.frost.thawTotal + 1) 65535) ∧
        (s.frost.stage = .thaw ∧ s.frost.thawHalves < 4 →
          u.frost.stage = .thaw ∧ u.frost.thawHalves = s.frost.thawHalves + 1) ∧
        (s.frost.stage = .thaw ∧ 4 ≤ s.frost.thawHalves →
          u.frost.stage = .trim ∧ u.frost.thawHalves = 0 ∧ u.frost.holdOff = 6 ∧
          u.frost.postThaw = some { seen := 0, high := false }) ∧
        (s.frost.stage = .lockout ∧ s.frost.cause = some LockCause.failed ∧ s.frost.lockHalves = 19 →
          u.frost.stage = .noFrost ∧ u.frost.cause = none) ∧
        (s.frost.stage ≠ .thaw → u.frost.holdOff = s.frost.holdOff - 1) ∧
        (u.frost.stage = .claiming ∧ s.line.faultCount < 64 → u.frost.ownClaim = .queued) ∧
        (u.frost.stage = .claiming ∧ s.line.faultCount < 64 ∧ s.line.txq.length < 3 ∧
            (∀ x ∈ s.line.txq, x.cls ≠ .claim) →
          newEntry .claim (decide (4 ≤ s.frost.severity)) s.own.node false
            [s.rev.pendingNumber.getD (s.own.k.getD 0 + 1), BitVec.ofNat 8 s.frost.severity] ∈ u.line.txq) ∧
        (u.frost.stage ≠ .claiming ∧ (∀ x ∈ s.line.txq, x.cls ≠ .claim) →
          ∀ x ∈ u.line.txq, x.cls ≠ .claim))

/-- An expiry adopts the best qualifying foreign group: the next reversal is a whole number of half-cycles after its
newest PHASE, 10,240 to L + 10,240 counts ahead. Rests on R65, R66, R67; the model's choice in log 55. A
parameter outside its range, as only a checked store image can bring, enters the same formula, a negative one as
0 where a number of 0 or more is meant: the model's choice (log 55). -/
def Obligations.AdoptionLandsOnTheOtherGroup : Prop :=
  ∀ (s : State) (i : Count) (kp : HalfNo) (e : TallyEntry),
    s.mode.mode = .run → s.rev.next = some i → adoptedKp s.own.node s.rev.tally = some kp →
    (s.rev.tally.filter fun x => !x.agreeing && x.kp = kp).getLast? = some e →
    0 < paramNat s 0 → paramNat s 0 ≤ 12 →
    0 < Count.since (Count.later i 10240) e.tr → Count.since (Count.later i 10240) e.tr < 2 ^ 30 →
    outranks (foreignGroup kp s.rev.tally) (ownGroup s.own.node s.rev.tally) = true ∧
    (∀ x ∈ s.rev.tally, x.agreeing = false →
      outranks (foreignGroup x.kp s.rev.tally) (ownGroup s.own.node s.rev.tally) = true →
      outranks (foreignGroup x.kp s.rev.tally) (foreignGroup kp s.rev.tally) = false) ∧
    ∃ u, exec .reversalExpiry s = .next u ∧ ∃ m : Nat, 1 ≤ m ∧
      m * (paramNat s 0 * 10240) < 2 ^ 31 ∧ ∃ n : Count,
      u.rev.next = some n ∧ n = Count.later e.tr (m * (paramNat s 0 * 10240)) ∧
      u.rev.pendingNumber = some (kp + BitVec.ofNat 8 m) ∧
      10240 ≤ Count.since n i ∧ Count.since n i < (paramNat s 0 * 10240 + 10240 : Nat)

/-- ENTER_RUN takes the scheduled entry from JOIN as an own reversal expiry; LISTEN_END enters RUN alone with k 0,
or schedules the entry from the last PHASE heard. Rests on R55, R64, R70, R71, R97; the model's choice in log
55. A parameter outside its range, as only a checked store image can bring, enters the same formula, a negative
one as 0 where a number of 0 or more is meant: the model's choice (log 55). -/
def Obligations.EntryToRun : Prop :=
  (∀ (s : State) (i : Count),
        s.mode.mode = .join →
        s.rev.next = some i →
        ∃ u, exec (.enterRun) s = .next u ∧
        u.mode = { s.mode with mode := .run } ∧ u.rev.listening = none ∧
        (let k := s.rev.pendingNumber.getD (s.own.k.getD 0 + 1)
        let level : Level :=
          if s.demand.buttonBoost.isSome = true ∨ s.demand.humidity = .active ∨ s.demand.humidity = .runOn then .boost
          else match s.demand.slot with
            | some h => h.level
            | none => if s.demand.dryGuard = true then .setback else .base
        let flow := match level with
          | .setback => paramNat s 1
          | .base => paramNat s 2
          | .raised => paramNat s 3
          | .boost => paramNat s 4
        let aged := (s.peers.records.filter fun r => decide (r.age < 3)).map fun r =>
          { r with
            age := r.age + 1
            climate := match r.climate with
              | some p => if p.age < 15 then some { p with age := p.age + 1 } else none
              | none => none }
        u.own.k = some k ∧ u.own.instant = some i ∧
          u.own.direction =
            (if u.frost.stage = .lockout ∨ s.fan.latch.isSome = true then .halt
            else if u.frost.stage = .thaw then .outward
            else if (k.toNat + s.own.lead.toNat) % 2 = 0 then .inward else .outward) ∧
          u.rev.tally = [] ∧ u.rev.gather = some (Count.later i 3072) ∧
          u.rev.claimWindow = some (Count.later i 10240) ∧
          u.rev.statusTimer =
            (if k.toNat % 4 = s.own.node % 4 then some (Count.later i 5120) else none) ∧
          u.own.level = level ∧
          u.own.want =
            (if u.own.direction = .halt then 0
            else if 64 ≤ s.line.faultCount then min flow (paramNat s 1)
            else flow) ∧
          u.own.ceil =
            (match u.own.direction with
            | .halt => 0
            | .inward =>
              if u.frost.stage = .trim ∨ u.frost.stage = .claiming then s.filt.ceilIn * paramNat s 9 / 100
              else s.filt.ceilIn
            | .outward => s.filt.ceilOut) ∧
          u.own.flow = min u.own.want u.own.ceil ∧
          u.fan.cap = none ∧ u.fan.ceilRef = some u.own.ceil ∧
          u.fan.window = (if s.own.direction = .halt then s.fan.window else []) ∧
          u.fan.latch = s.fan.latch ∧ u.pass.current = false ∧ u.pass.record = s.pass.record ∧
          u.unit.waitPass = false ∧ u.unit.waitClimate = s.unit.waitClimate ∧
          u.unit.engine = (match s.unit.engine with
            | .pass a ms _ => .pass a ms true
            | e => e) ∧
          u.pass.snapshot = s.pass.snapshot ∧
          u.pass.state = (match s.pass.state with
            | .idle => .idle
            | .waiting => .idle
            | .running => .running
            | .runningOneMore => .running) ∧
          u.line.clashAge = min (s.line.clashAge + 1) 8 ∧
          u.line.faultCount = s.line.faultCount ∧ u.line.rxq = s.line.rxq ∧
          u.peers = (if tableHeld s then { s.peers with owedAgeings := s.peers.owedAgeings + 1 }
            else { s.peers with records := aged }) ∧
          u.clim.current = { emptySet with direction := u.own.direction } ∧
          u.clim.previous = s.clim.current ∧ u.frost.claims = [] ∧ u.frost.granted = false ∧
          u.own.node = s.own.node ∧ u.own.outdoor = s.own.outdoor ∧ u.own.leaving = s.own.leaving)) ∧
  (∀ (s : State) (i : Count),
        s.mode.mode = .join →
        s.rev.next = some i →
        adoptedKp s.own.node s.rev.tally = none →
        ∃ u, exec (.enterRun) s = .next u ∧
        (let coarse := s.time.quality = .coarse ∧ s.time.crystalReady = false
        let offsets := s.rev.tally.filterMap fun e => e.offset
        let limit : Int := if coarse then 2048 else 64
        let c : Int := if offsets = [] then 0
          else max (-limit) (min (offsets.sum.tdiv (2 * offsets.length)) limit)
        let next := i + BitVec.ofInt 32 ((paramNat s 0 * 10240 : Nat) + c)
        u.rev.next = some next ∧ u.rev.pendingNumber = none ∧
          u.clim.endPoint = some (next - 1024) ∧
          u.time.quality = (if coarse then .coarse else .crystal))) ∧
  (∀ (s : State) (i : Count),
        s.mode.mode = .join →
        s.rev.next = some i →
        ∃ u, exec (.enterRun) s = .next u ∧
        (let d := u.own.direction
        (s.line.faultCount < 64 ∧ s.line.txq.length < 3 ∧ (∀ x ∈ s.line.txq, x.cls ≠ .phase) →
            newEntry .phase false s.own.node false [] ∈ u.line.txq) ∧
          (d = s.own.direction →
            u.fan.wanted = s.fan.wanted ∧ u.fan.state = s.fan.state ∧ u.fan.target = s.fan.target) ∧
          (d ≠ s.own.direction → u.fan.wanted = d) ∧
          (d ≠ s.own.direction ∧ d ≠ .halt →
            (s.fan.state = .stopped →
              u.fan.state = .flapOpening ∧ u.fan.flap = .openFlap ∧ dirOfSide u.fan.drive = d ∧
                u.fan.target = some d) ∧
            (s.fan.state = .running ∧ d = dirOfSide s.fan.drive → u.fan.state = .running) ∧
            (s.fan.state = .running ∧ d ≠ dirOfSide s.fan.drive →
              u.fan.state = .rampDown ∧ u.fan.target = some d) ∧
            (s.fan.state ≠ .stopped ∧ s.fan.state ≠ .running →
              u.fan.state = s.fan.state ∧ u.fan.target = s.fan.target)) ∧
          (d ≠ s.own.direction ∧ d = .halt →
            u.fan.restart = false ∧
            (s.fan.state = .running ∨ s.fan.state = .rampUp →
              u.fan.state = .rampDown ∧ u.fan.target = some .halt) ∧
            (s.fan.state = .rampDown ∨ s.fan.state = .coast →
              u.fan.state = s.fan.state ∧ u.fan.target = some .halt) ∧
            (s.fan.state = .flapOpening → u.fan.state = .flapClosing ∧ u.fan.flap = .closed)))) ∧
  (∀ (s : State) (i : Count),
        s.mode.mode = .join →
        s.rev.listening = some i →
        s.rev.lastHeard = none →
        s.rev.tally = [] →
        ∃ u, exec (.listenEnd) s = .next u ∧
        u.mode = { s.mode with mode := .run } ∧ u.own.k = some 0 ∧ u.own.instant = some i ∧
        u.rev.listening = none ∧ u.rev.next = some (Count.later i (paramNat s 0 * 10240)) ∧
        u.rev.gather = some (Count.later i 3072) ∧
        (s.fan.latch = none ∧ s.frost.stage = .noFrost →
          u.own.direction = if s.own.lead then .outward else .inward)) ∧
  (∀ (s : State) (i : Count) (h : Heard),
        s.mode.mode = .join →
        s.rev.listening = some i →
        s.rev.lastHeard = some h →
        0 < paramNat s 0 →
        paramNat s 0 ≤ 12 →
        0 ≤ Count.since i h.tr →
        Count.since i h.tr < 2 ^ 30 →
        ∃ u, exec (.listenEnd) s = .next u ∧
        u.mode = s.mode ∧ u.rev.listening = none ∧
        (∃ m : Nat, 1 ≤ m ∧ m * (paramNat s 0 * 10240) < 2 ^ 31 ∧
          u.rev.next = some (Count.later h.tr (m * (paramNat s 0 * 10240))) ∧
          u.rev.pendingNumber = some (h.kp + BitVec.ofNat 8 m) ∧
          0 < Count.since (Count.later h.tr (m * (paramNat s 0 * 10240))) i ∧
          Count.since (Count.later h.tr (m * (paramNat s 0 * 10240))) i ≤ (paramNat s 0 * 10240 : Nat)) ∧
        othersKept [.rev, .cond] (advanceTo i s) u)

/-- GATHER_WINDOW_CLOSE requests the first pass of the half-cycle; CLAIM_WINDOW_CLOSE withdraws a QUEUED own CLAIM.
Rests on R59, R84, R86, R140; the model's choice in log 34. That an own CLAIM on the line stays QUEUED, marked
withdrawn, until its send ends is the model's choice (log 34). -/
def Obligations.WindowsCloseToTheirOwners : Prop :=
  (∀ (s : State) (i : Count),
        s.mode.mode = .run →
        s.rev.gather = some i →
        ∃ u, exec (.gatherWindowClose) s = .next u ∧
        u.rev = { s.rev with gather := none } ∧
        u.pass = { s.pass with
          state := match s.pass.state with
            | .idle => .waiting
            | .waiting => .waiting
            | .running => .runningOneMore
            | .runningOneMore => .runningOneMore } ∧
        u.unit = { s.unit with waitPass := if s.pass.state = .idle then true else s.unit.waitPass } ∧
        othersKept [.rev, .unit, .pass, .cond] (advanceTo i s) u) ∧
  (∀ (s : State) (i : Count),
        s.mode.mode = .run →
        s.rev.claimWindow = some i →
        ∃ u, exec (.claimWindowClose) s = .next u ∧
        u.rev = { s.rev with claimWindow := none } ∧
        (s.frost.ownClaim ≠ .queued → u.line = s.line ∧ u.frost = s.frost) ∧
        (s.frost.ownClaim = .queued →
          u.line = { s.line with
            txq := (s.line.txq.filter fun e => !(e.cls = .claim) || e.onLine).map fun e =>
              if e.cls = .claim then { e with withdrawn := true } else e
            replacement := s.line.replacement.filter fun e => !(e.cls = .claim) } ∧
          u.frost = { s.frost with
            ownClaim := if s.line.txq.any (fun e => e.cls = .claim && e.onLine) = true then .queued
              else .idle }) ∧
        othersKept [.line, .rev, .frost, .cond] (advanceTo i s) u)

/-- PASS_GRANT starts a waiting balance pass on a FREE engine with its participants; EVALUATION_GRANT starts climate
before filter and nothing before a pass. Rests on R77, R78, R79, R90, R91. -/
def Obligations.GrantsFollowPriority : Prop :=
  (∀ (t : Count) (s : State),
        s.unit.engine = .free →
        s.unit.waitPass = true →
        ∃ u, exec (.passGrant t) s = .next u ∧
        u.pass = { s.pass with snapshot := participants s, state := .running } ∧
        u.pass.snapshot.Perm
          ((match s.own.direction with
            | .halt => []
            | .inward => [{ node := s.own.node, side := .inward, want := s.own.want, ceil := s.own.ceil,
                            stage := s.frost.stage }]
            | .outward => [{ node := s.own.node, side := .outward, want := s.own.want, ceil := s.own.ceil,
                             stage := s.frost.stage }]) ++
          s.peers.records.filterMap fun r =>
            match s.own.k, r.kp, r.direction with
            | some k, some kp, .inward =>
              if r.agree = true ∧ kp = k ∧ r.age ≤ 1 then
                some { node := r.node, side := .inward, want := r.want, ceil := r.ceil, stage := r.stage }
              else if r.agree = true ∧ kp = k - 1 ∧ r.age = 1 then
                some { node := r.node, side := .outward, want := r.want, ceil := r.ceil, stage := r.stage }
              else none
            | some k, some kp, .outward =>
              if r.agree = true ∧ kp = k ∧ r.age ≤ 1 then
                some { node := r.node, side := .outward, want := r.want, ceil := r.ceil, stage := r.stage }
              else if r.agree = true ∧ kp = k - 1 ∧ r.age = 1 then
                some { node := r.node, side := if r.stage = .thaw then .outward else .inward,
                       want := r.want, ceil := r.ceil, stage := r.stage }
              else none
            | _, _, _ => none) ∧
        u.unit = { s.unit with
          waitPass := false
          engine := .pass (advanceTo t s).time.now (2 + (participants s).length) false } ∧
        tableHeld u = true ∧ othersKept [.unit, .pass, .cond] (advanceTo t s) u) ∧
  (∀ (t : Count) (s : State) (x : EvalInputs),
        s.unit.engine = .free →
        s.unit.waitPass = false →
        s.unit.waitClimate = some x →
        ∃ u, exec (.evaluationGrant t) s = .next u ∧
        u.unit = { s.unit with
          waitClimate := none, engine := .climate x (advanceTo t s).time.now 3 false } ∧
        othersKept [.unit, .cond] (advanceTo t s) u) ∧
  (∀ (t : Count) (s : State) (x : FilterPair),
        s.unit.engine = .free →
        s.unit.waitPass = false →
        s.unit.waitClimate = none →
        s.unit.waitFilter = some x →
        ∃ u, exec (.evaluationGrant t) s = .next u ∧
        u.unit = { s.unit with
          waitFilter := none, engine := .filter x (advanceTo t s).time.now 2 false } ∧
        othersKept [.unit, .cond] (advanceTo t s) u) ∧
  (∀ (t : Count) (s : State),
        (s.unit.waitPass = true ∨ s.unit.engine ≠ .free) →
        ∃ u, exec (.evaluationGrant t) s = .next u ∧
        othersKept [.cond] (advanceTo t s) u)

/-- A discarded job frees the engine and applies nothing: PASS_COMPLETE keeps F and the record, evaluations every
block; a kept climate result is handed on. Rests on R87, R92, R123, R125, R168; the model's choice in log 24.
That the previous RH is that of the latest applied evaluation that had one is the model's choice (log 24). -/
def Obligations.DiscardedResultsChangeNothing : Prop :=
  (∀ (t : Count) (s : State) (a : Count) (ms : Nat),
        s.unit.engine = .pass a ms true →
        ∃ u, exec (.passComplete t) s = .next u ∧
        u.pass.record = s.pass.record ∧ u.pass.current = s.pass.current ∧ u.pass.snapshot = [] ∧
        u.unit.engine = .free ∧ tableHeld u = false ∧
        (s.pass.state = .running → u.pass.state = .idle ∧ u.unit.waitPass = s.unit.waitPass) ∧
        (s.pass.state = .runningOneMore → u.pass.state = .waiting ∧ u.unit.waitPass = true) ∧
        u.peers = { records := if s.peers.owedEmptying then [] else ageTimes s.peers.owedAgeings s.peers.records
                    owedAgeings := 0
                    owedEmptying := false } ∧
        othersKept [.peers, .unit, .pass, .cond] (advanceTo t s) u) ∧
  (∀ (t : Count) (s : State) (x : EvalInputs) (a : Count) (ms : Nat),
        s.unit.engine = .climate x a ms true →
        ∃ u, exec (.climateEvaluationComplete t) s = .next u ∧
        u.unit = { s.unit with engine := .free } ∧ othersKept [.unit, .cond] (advanceTo t s) u) ∧
  (∀ (t : Count) (s : State) (x : EvalInputs) (a : Count) (ms : Nat),
        s.unit.engine = .climate x a ms false →
        ∃ u, exec (.climateEvaluationComplete t) s = .next u ∧
        u.unit.engine = .free ∧
        u.own.outdoor = (if s.clim.outer.latched then none
          else if x.source = .own then x.tOutdoor else s.own.outdoor) ∧
        u.clim = { s.clim with
          ratios := u.clim.ratios, lastRh := if x.rh.isSome then x.rh else s.clim.lastRh } ∧
        othersKept [.own, .line, .unit, .pass, .fan, .clim, .frost, .demand, .cond, .svc]
          (advanceTo t s) u) ∧
  (∀ (t : Count) (s : State) (x : FilterPair) (a : Count) (ms : Nat),
        s.unit.engine = .filter x a ms true →
        ∃ u, exec (.filterEvaluationComplete t) s = .next u ∧
        u.unit = { s.unit with engine := .free } ∧ othersKept [.unit, .cond] (advanceTo t s) u)

/-- FAN_STEP ramps the duty down by 100, controls it in RAMP UP and RUNNING by a sixteenth of the error, finds the
ends of COAST and RAMP UP, fills the window. Rests on R98, R99, R102, R103, R112; the model's choice in log 16,
17, 55. A parameter outside its range, as only a checked store image can bring, enters the same formula, a
negative one as 0 where a number of 0 or more is meant: the model's choice (log 55). -/
def Obligations.FanStepsByState : Prop :=
  (∀ (s : State),
        s.fan.finding = .nothing →
        s.fan.stallSteps < 13 →
        s.fan.shortSteps < 41 →
        s.fan.state = .rampDown →
        ∃ u, exec (.fanStep) s = .next u ∧
        u.fan.duty = s.fan.duty - 100 ∧
        u.fan.state = (if s.fan.duty ≤ 100 then .coast else .rampDown) ∧ u.fan.target = s.fan.target ∧
        u.fan.fullCoast = (if s.fan.duty ≤ 100 then s.fan.restart else s.fan.fullCoast) ∧
        u.fan.window = ({ duty := s.fan.duty - 100, speed := s.fan.speed, state := s.fan.state, drive := s.fan.drive } ::
          s.fan.window).take 120 ∧
        othersKept [.fan, .cond] (advanceTo s.fan.nextStep s) u) ∧
  (∀ (s : State),
        s.fan.finding = .nothing →
        s.fan.stallSteps < 13 →
        s.fan.shortSteps < 41 →
        s.fan.state = .running →
        s.fan.trial ≠ .running →
        ∃ u, exec (.fanStep) s = .next u ∧
        (let p : Nat → Int := fun n =>
          [param s 12, param s 13, param s 14, param s 15, param s 16, param s 17, param s 18, param s 19,
            param s 20].getD n 0 * 10
        let i := s.own.flow / 15
        let curve : Int :=
          if s.own.flow < 120 then p i + ((p (i + 1) - p i) * (s.own.flow - 15 * i : Nat)).tdiv 15 else p 8
        let change := max (-20) (min ((curve - s.fan.speed).tdiv 16) 20)
        let duty := (max 0 (min ((s.fan.duty : Int) + change) 1000)).toNat
        u.fan.duty = duty ∧ u.fan.state = .running ∧ u.fan.drive = s.fan.drive ∧
          u.fan.stallSteps = (if s.fan.speed < 150 ∧ 300 ≤ duty then s.fan.stallSteps + 1 else 0) ∧
          u.fan.shortSteps =
            (if duty = 1000 ∧ (s.fan.speed : Int) < curve - 100
            then s.fan.shortSteps + 1 else 0) ∧
          u.fan.nextStep = Count.later s.fan.nextStep 256 ∧
          u.fan.window = ({ duty := duty, speed := s.fan.speed, state := s.fan.state, drive := s.fan.drive } ::
          s.fan.window).take 120 ∧
          othersKept [.fan, .cond] (advanceTo s.fan.nextStep s) u)) ∧
  (∀ (s : State),
        s.fan.finding = .nothing →
        s.fan.stallSteps < 13 →
        s.fan.shortSteps < 41 →
        s.fan.state = .rampUp →
        ∃ u, exec (.fanStep) s = .next u ∧
        (let p : Nat → Int := fun n =>
          [param s 12, param s 13, param s 14, param s 15, param s 16, param s 17, param s 18, param s 19,
            param s 20].getD n 0 * 10
        let i := s.own.flow / 15
        let curve : Int :=
          if s.own.flow < 120 then p i + ((p (i + 1) - p i) * (s.own.flow - 15 * i : Nat)).tdiv 15 else p 8
        let target : Int := if s.fan.trial = .running then 600 else curve
        let change := max (-20) (min ((target - s.fan.speed).tdiv 16) 100)
        let duty := (max 0 (min ((s.fan.duty : Int) + change) 1000)).toNat
        u.fan.duty = duty ∧ u.fan.state = .rampUp ∧
          u.fan.finding =
            (if ((s.fan.speed : Int) - target).natAbs ≤ (target.tdiv 20).natAbs then .inBand
            else if s.fan.steps < 19 then .nothing
            else if 150 ≤ target ∧ s.fan.speed < 150 then .spinUpFailed else .timedOut) ∧
          u.fan.window = ({ duty := duty, speed := s.fan.speed, state := s.fan.state, drive := s.fan.drive } ::
          s.fan.window).take 120 ∧
          othersKept [.fan, .cond] (advanceTo s.fan.nextStep s) u)) ∧
  (∀ (s : State),
        s.fan.finding = .nothing →
        s.fan.stallSteps < 13 →
        s.fan.shortSteps < 41 →
        s.fan.state = .coast →
        ∃ u, exec (.fanStep) s = .next u ∧
        u.fan.duty = 0 ∧ u.fan.state = .coast ∧
        u.fan.finding =
          (if s.fan.speed < 150 ∧ s.fan.fullCoast = false ∨ 11 ≤ s.fan.steps then .coastOver
          else .nothing) ∧
        u.fan.window = ({ duty := 0, speed := s.fan.speed, state := s.fan.state, drive := s.fan.drive } ::
          s.fan.window).take 120 ∧
        othersKept [.fan, .cond] (advanceTo s.fan.nextStep s) u) ∧
  (∀ (s : State),
        s.fan.finding = .nothing →
        s.fan.stallSteps < 13 →
        s.fan.shortSteps < 41 →
        (s.fan.state = .stopped ∨ s.fan.state = .flapOpening ∨ s.fan.state = .flapClosing) →
        ∃ u, exec (.fanStep) s = .next u ∧
        u.fan.duty = s.fan.duty ∧ u.fan.state = s.fan.state ∧ u.fan.flap = s.fan.flap ∧
        u.fan.window = ({ duty := s.fan.duty, speed := s.fan.speed, state := s.fan.state, drive := s.fan.drive } ::
          s.fan.window).take 120 ∧
        othersKept [.fan, .cond] (advanceTo s.fan.nextStep s) u)

/-- COAST_END turns and ramps up, or closes the flap and reports fan stopped; RAMP_UP_END enters RUNNING, stalls at
a failed spin-up, or ends a trial. Rests on R98, R99, R105, R106, R107, R111; the model's choice in log 16, 27. -/
def Obligations.CoastAndRampUpEnd : Prop :=
  (∀ (s : State) (side : Side),
        s.fan.state = .coast →
        s.fan.finding = .coastOver →
        s.fan.target = some (dirOfSide side) →
        ∃ u, exec (.coastEnd) s = .next u ∧
        u.fan.state = .rampUp ∧ u.fan.drive = side ∧ u.fan.duty = 0 ∧ u.fan.flap = s.fan.flap ∧
        u.fan.steps = 0 ∧ u.fan.nextStep = Count.later s.time.now 256 ∧ u.fan.restart = s.fan.restart ∧
        othersKept [.fan, .cond] s u) ∧
  (∀ (s : State),
        s.fan.state = .coast →
        s.fan.finding = .coastOver →
        s.fan.target = some .halt →
        ∃ u, exec (.coastEnd) s = .next u ∧
        u.fan.state = .flapClosing ∧ u.fan.flap = .closed ∧ u.fan.drive = s.fan.drive ∧
        u.fan.travel = some (Count.later s.time.now 10240) ∧
        u.own = (if s.mode.mode = .run then s.own
          else { s.own with direction := .halt, want := 0, ceil := 0, flow := 0 }) ∧
        othersKept [.own, .fan, .cond] s u) ∧
  (∀ (s : State),
        s.fan.state = .rampUp →
        (s.fan.finding = .inBand ∨ s.fan.finding = .timedOut) →
        s.fan.trial ≠ .running →
        ∃ u, exec (.rampUpEnd) s = .next u ∧
        u.fan.restart = false ∧ u.fan.duty = s.fan.duty ∧
        (s.fan.wanted = dirOfSide s.fan.drive → u.fan.state = .running ∧ u.fan.target = none) ∧
        (s.fan.wanted ≠ dirOfSide s.fan.drive →
          u.fan.state = .rampDown ∧ u.fan.target = some s.fan.wanted) ∧
        u.fan.latch = s.fan.latch ∧ othersKept [.fan, .cond] s u) ∧
  (∀ (s : State),
        s.fan.state = .rampUp →
        s.fan.finding ≠ .nothing →
        s.fan.finding ≠ .coastOver →
        s.fan.trial = .running →
        ∃ u, exec (.rampUpEnd) s = .next u ∧
        u.fan.trial = .idle ∧ u.fan.state = .rampDown ∧ u.fan.target = some .halt ∧ u.fan.wanted = .halt ∧
        u.fan.latch = (if s.fan.finding = .spinUpFailed then some .spin else none) ∧
        u.fan.stallHistory = s.fan.stallHistory ∧ othersKept [.fan, .cond] s u) ∧
  (∀ (s : State),
        s.fan.state = .rampUp →
        s.fan.finding = .spinUpFailed →
        s.fan.trial ≠ .running →
        s.fan.restart = false →
        s.fan.stallHistory = none →
        ∃ u, exec (.rampUpEnd) s = .next u ∧
        u.fan.state = .rampDown ∧ u.fan.target = some (dirOfSide s.fan.drive) ∧ u.fan.restart = true ∧
        u.fan.stallHistory = some s.time.now ∧ u.fan.duty = s.fan.duty ∧ u.fan.latch = s.fan.latch ∧
        u.fan.wanted = s.fan.wanted ∧ othersKept [.fan, .cond] s u) ∧
  (∀ (s : State) (i : Count),
        s.fan.state = .rampUp →
        s.fan.finding = .spinUpFailed →
        s.fan.trial ≠ .running →
        s.fan.restart = false →
        s.fan.stallHistory = some i →
        614400 < (s.time.now - i).toNat →
        ∃ u, exec (.rampUpEnd) s = .next u ∧
        u.fan.state = .rampDown ∧ u.fan.target = some (dirOfSide s.fan.drive) ∧ u.fan.restart = true ∧
        u.fan.stallHistory = some s.time.now ∧ u.fan.duty = s.fan.duty ∧ u.fan.latch = s.fan.latch ∧
        u.fan.wanted = s.fan.wanted ∧ othersKept [.fan, .cond] s u) ∧
  (∀ (s : State),
        s.fan.state = .rampUp →
        s.fan.finding = .spinUpFailed →
        s.fan.trial ≠ .running →
        s.fan.restart = true →
        s.mode.mode = .run →
        s.own.direction ≠ .halt →
        s.fan.latch = none →
        s.line.faultCount < 64 →
        (∀ x ∈ s.line.txq, x.cls ≠ .change) →
        s.line.txq.length < 4 →
        ∃ u, exec (.rampUpEnd) s = .next u ∧
        u.fan.latch = some .spin ∧ u.fan.state = .rampDown ∧ u.fan.target = some .halt ∧
        u.fan.stallHistory = none ∧ u.fan.restart = false ∧ u.fan.wanted = .halt ∧
        u.own = { s.own with direction := .halt, want := 0, ceil := 0, flow := 0 } ∧
        (∃ e ∈ u.line.txq, e.cls = .change ∧ e.urgent = true) ∧
        (s.rev.gather = none → u.pass.state ≠ .idle) ∧
        (let again : Bool := decide (s.mode.mode = .run ∧ s.rev.gather = none ∧ s.own.direction ≠ .halt)
        u.pass = { s.pass with
              state := if again then
                  (match s.pass.state with
                  | .idle => .waiting
                  | .waiting => .waiting
                  | .running => .runningOneMore
                  | .runningOneMore => .runningOneMore)
                else s.pass.state } ∧
            u.unit = { s.unit with
              waitPass := s.unit.waitPass || (again && decide (s.pass.state = .idle)) }) ∧
        othersKept [.own, .line, .unit, .pass, .fan, .cond] s u) ∧
  (∀ (s : State) (i : Count),
        s.fan.state = .rampUp →
        s.fan.finding = .spinUpFailed →
        s.fan.trial ≠ .running →
        s.fan.restart = false →
        s.fan.stallHistory = some i →
        (s.time.now - i).toNat ≤ 614400 →
        s.mode.mode = .run →
        s.own.direction ≠ .halt →
        s.fan.latch = none →
        s.line.faultCount < 64 →
        (∀ x ∈ s.line.txq, x.cls ≠ .change) →
        s.line.txq.length < 4 →
        ∃ u, exec (.rampUpEnd) s = .next u ∧
        u.fan.latch = some .spin ∧ u.fan.state = .rampDown ∧ u.fan.target = some .halt ∧
        u.fan.stallHistory = none ∧ u.fan.restart = false ∧ u.fan.wanted = .halt ∧
        u.own = { s.own with direction := .halt, want := 0, ceil := 0, flow := 0 } ∧
        (∃ e ∈ u.line.txq, e.cls = .change ∧ e.urgent = true) ∧
        (s.rev.gather = none → u.pass.state ≠ .idle) ∧
        (let again : Bool := decide (s.mode.mode = .run ∧ s.rev.gather = none ∧ s.own.direction ≠ .halt)
        u.pass = { s.pass with
              state := if again then
                  (match s.pass.state with
                  | .idle => .waiting
                  | .waiting => .waiting
                  | .running => .runningOneMore
                  | .runningOneMore => .runningOneMore)
                else s.pass.state } ∧
            u.unit = { s.unit with
              waitPass := s.unit.waitPass || (again && decide (s.pass.state = .idle)) }) ∧
        othersKept [.own, .line, .unit, .pass, .fan, .cond] s u)

/-- STALL restarts the fan once in the same direction and the second time latches FAN STALL with HALT and an urgent
CHANGE; FLOW_SHORT caps C by the achieved code. Rests on R102, R104, R105, R106, R108, R110; the model's choice
in log 18, 27, 55. Two points are the model's choice: the measure of flow short starts afresh with a count of 0
at this step (log 18), and the age of a stall is the unsigned difference of the counts (log 27). A parameter
outside its range, as only a checked store image can bring, enters the same formula, a negative one as 0 where a
number of 0 or more is meant: the model's choice (log 55). -/
def Obligations.StallAndFlowShortAct : Prop :=
  (∀ (s : State),
        s.fan.state = .running →
        13 ≤ s.fan.stallSteps →
        s.fan.restart = false →
        s.fan.stallHistory = none →
        ∃ u, exec (.stall) s = .next u ∧
        u.fan.state = .rampDown ∧ u.fan.target = some (dirOfSide s.fan.drive) ∧ u.fan.restart = true ∧
        u.fan.stallHistory = some s.time.now ∧ u.fan.duty = s.fan.duty ∧ u.fan.latch = s.fan.latch ∧
        u.fan.wanted = s.fan.wanted ∧ othersKept [.fan, .cond] s u) ∧
  (∀ (s : State) (i : Count),
        s.fan.state = .running →
        13 ≤ s.fan.stallSteps →
        s.fan.restart = false →
        s.fan.stallHistory = some i →
        614400 < (s.time.now - i).toNat →
        ∃ u, exec (.stall) s = .next u ∧
        u.fan.state = .rampDown ∧ u.fan.target = some (dirOfSide s.fan.drive) ∧ u.fan.restart = true ∧
        u.fan.stallHistory = some s.time.now ∧ u.fan.duty = s.fan.duty ∧ u.fan.latch = s.fan.latch ∧
        u.fan.wanted = s.fan.wanted ∧ othersKept [.fan, .cond] s u) ∧
  (∀ (s : State) (i : Count),
        s.fan.state = .running →
        13 ≤ s.fan.stallSteps →
        s.fan.restart = false →
        s.fan.stallHistory = some i →
        (s.time.now - i).toNat ≤ 614400 →
        s.mode.mode = .run →
        s.own.direction ≠ .halt →
        s.fan.latch = none →
        s.line.faultCount < 64 →
        (∀ x ∈ s.line.txq, x.cls ≠ .change) →
        s.line.txq.length < 4 →
        ∃ u, exec (.stall) s = .next u ∧
        u.fan.latch = some .spin ∧ u.fan.state = .rampDown ∧ u.fan.target = some .halt ∧
        u.fan.stallHistory = none ∧ u.fan.restart = false ∧ u.fan.wanted = .halt ∧
        u.own = { s.own with direction := .halt, want := 0, ceil := 0, flow := 0 } ∧
        (∃ e ∈ u.line.txq, e.cls = .change ∧ e.urgent = true) ∧
        (s.rev.gather = none → u.pass.state ≠ .idle) ∧
        (let again : Bool := decide (s.mode.mode = .run ∧ s.rev.gather = none ∧ s.own.direction ≠ .halt)
        u.pass = { s.pass with
              state := if again then
                  (match s.pass.state with
                  | .idle => .waiting
                  | .waiting => .waiting
                  | .running => .runningOneMore
                  | .runningOneMore => .runningOneMore)
                else s.pass.state } ∧
            u.unit = { s.unit with
              waitPass := s.unit.waitPass || (again && decide (s.pass.state = .idle)) }) ∧
        othersKept [.own, .line, .unit, .pass, .fan, .cond] s u) ∧
  (∀ (s : State),
        s.fan.state = .running →
        41 ≤ s.fan.shortSteps →
        ∃ u, exec (.flowShort) s = .next u ∧
        (let p : Nat → Int := fun n =>
          [param s 12, param s 13, param s 14, param s 15, param s 16, param s 17, param s 18, param s 19,
            param s 20].getD n 0 * 10
        let curve : Nat → Int := fun n =>
          if n < 120 then
            p (n / 15) + ((p (n / 15 + 1) - p (n / 15)) * (n - 15 * (n / 15) : Nat)).tdiv 15
          else p 8
        let code := (((List.range 121).filter fun n => decide (curve n ≤ s.fan.speed)).getLast?).getD 0
        u.fan.cap = some (match s.fan.cap with
            | some x => min x code
            | none => code) ∧
          u.fan.shortfall = s.own.flow - code ∧ u.fan.shortSteps = 0 ∧ u.fan.state = .running ∧
          u.own.ceil = (match s.own.direction with
            | .halt => 0
            | .inward => min (min (s.fan.cap.getD code) code)
                (if s.frost.stage = .trim ∨ s.frost.stage = .claiming then s.filt.ceilIn * paramNat s 9 / 100
                else s.filt.ceilIn)
            | .outward => min (min (s.fan.cap.getD code) code) s.filt.ceilOut) ∧
          (s.own.flow ≤ s.own.ceil → u.own.flow ≤ u.own.ceil) ∧
          u.own.direction = s.own.direction ∧ u.own.want = s.own.want ∧ u.own.flow = (if u.own.ceil = s.own.ceil then s.own.flow
          else if s.mode.mode = .run ∧ s.pass.current = false ∧ s.own.direction ≠ .halt then
            min s.own.want u.own.ceil
          else min s.own.flow u.own.ceil) ∧
          (let again : Bool := decide (s.mode.mode = .run ∧ s.rev.gather = none ∧ u.own.ceil ≠ s.own.ceil)
        u.pass = { s.pass with
              state := if again then
                  (match s.pass.state with
                  | .idle => .waiting
                  | .waiting => .waiting
                  | .running => .runningOneMore
                  | .runningOneMore => .runningOneMore)
                else s.pass.state } ∧
            u.unit = { s.unit with
              waitPass := s.unit.waitPass || (again && decide (s.pass.state = .idle)) }) ∧
          (s.mode.mode = .run ∧ s.line.faultCount < 64 ∧ s.line.txq.length < 4 ∧
              (∀ x ∈ s.line.txq, x.cls ≠ .change) ∧ u.own.ceil < s.own.ceil ∧
              s.fan.ceilRef.any (fun r => decide (u.own.ceil + 10 ≤ r)) = true →
            newEntry .change false s.own.node false [] ∈ u.line.txq) ∧
          (s.mode.mode ≠ .run ∨ s.own.ceil ≤ u.own.ceil ∨
              s.fan.ceilRef.any (fun r => decide (u.own.ceil + 10 ≤ r)) = false → u.line = s.line) ∧
          othersKept [.own, .line, .unit, .pass, .fan, .cond] s u))

/-- FLAP_END_REACHED ends a travel, FLAP_FAULT latches FAN STALL with cause FLAP, TRIAL_START opens the flap for a
PENDING trial in RUN with the fan STOPPED. Rests on R101, R106, R107; the model's choice in log 57, 61. That
TRIAL_START is taken at any moment in RUN with the fan STOPPED, so after a stop too, follows R107 where R185
says otherwise: the model's choice (log 57). So is that the start of a trial leaves the wanted direction (log
61). -/
def Obligations.FlapTravelsAndTrials : Prop :=
  (∀ (t : Count) (s : State),
        s.fan.travel.isSome = true →
        s.fan.state = .flapOpening →
        ∃ u, exec (.flapEndReached t) s = .next u ∧
        (s.fan.trial = .running ∧ s.fan.latch = some .flap →
          u.fan.state = .flapClosing ∧ u.fan.flap = .closed ∧
          u.fan.travel = some (Count.later (advanceTo t s).time.now 10240)) ∧
        (s.fan.trial ≠ .running ∨ s.fan.latch ≠ some .flap →
          u.fan.state = .rampUp ∧ u.fan.duty = 0 ∧ u.fan.travel = none ∧ u.fan.flap = s.fan.flap) ∧
        u.fan.wanted = s.fan.wanted ∧ u.fan.drive = s.fan.drive ∧
        othersKept [.fan, .cond] (advanceTo t s) u) ∧
  (∀ (t : Count) (s : State),
        s.fan.travel.isSome = true →
        s.fan.state = .flapClosing →
        ∃ u, exec (.flapEndReached t) s = .next u ∧
        (s.fan.wanted = .halt → u.fan.state = .stopped ∧ u.fan.target = none ∧ u.fan.travel = none) ∧
        (s.fan.wanted ≠ .halt → u.fan.state = .flapOpening ∧ u.fan.flap = .openFlap ∧
          dirOfSide u.fan.drive = s.fan.wanted) ∧
        u.fan.latch = (if s.fan.trial = .running then none else s.fan.latch) ∧
        u.fan.trial = (if s.fan.trial = .running then .idle else s.fan.trial) ∧
        othersKept [.fan, .cond] (advanceTo t s) u) ∧
  (∀ (s : State) (i : Count),
        s.fan.travel = some i →
        s.fan.state = .flapOpening →
        s.fan.trial ≠ .running →
        s.mode.mode = .run →
        s.own.direction ≠ .halt →
        s.fan.latch = none →
        s.line.faultCount < 64 →
        (∀ x ∈ s.line.txq, x.cls ≠ .change) →
        s.line.txq.length < 4 →
        ∃ u, exec (.flapFault) s = .next u ∧
        u.fan.latch = some .flap ∧ u.fan.state = .flapClosing ∧ u.fan.flap = .closed ∧
        u.fan.travel = some (Count.later (advanceTo i s).time.now 10240) ∧
        u.fan.stallHistory = none ∧ u.fan.restart = false ∧ u.fan.wanted = .halt ∧
        u.own = { s.own with direction := .halt, want := 0, ceil := 0, flow := 0 } ∧
        (∃ e ∈ u.line.txq, e.cls = .change ∧ e.urgent = true) ∧
        (let again : Bool := decide (s.mode.mode = .run ∧ s.rev.gather = none ∧ s.own.direction ≠ .halt)
        u.pass = { s.pass with
              state := if again then
                  (match s.pass.state with
                  | .idle => .waiting
                  | .waiting => .waiting
                  | .running => .runningOneMore
                  | .runningOneMore => .runningOneMore)
                else s.pass.state } ∧
            u.unit = { s.unit with
              waitPass := s.unit.waitPass || (again && decide (s.pass.state = .idle)) }) ∧
        othersKept [.own, .line, .unit, .pass, .fan, .cond] (advanceTo i s) u) ∧
  (∀ (s : State) (i : Count),
        s.fan.travel = some i →
        s.fan.state = .flapClosing →
        s.fan.wanted = .halt →
        ∃ u, exec (.flapFault) s = .next u ∧
        u.fan.latch = some .flap ∧ u.fan.state = .stopped ∧ u.fan.flap = s.fan.flap ∧ u.fan.travel = none ∧
        u.fan.trial = (if s.fan.trial = .running then .idle else s.fan.trial)) ∧
  (∀ (t : Count) (s : State),
        s.fan.travel.isSome = true →
        s.fan.state = .stopped →
        ∃ u, exec (.flapEndReached t) s = .next u ∧
        u.fan = { s.fan with travel := none } ∧ othersKept [.fan, .cond] (advanceTo t s) u) ∧
  (∀ (s : State) (i : Count),
        s.fan.travel = some i →
        s.fan.state = .stopped →
        s.fan.trial ≠ .running →
        s.own.direction = .halt →
        ∃ u, exec (.flapFault) s = .next u ∧
        u.fan.latch = some .flap ∧ u.fan.travel = none ∧ u.fan.state = .stopped ∧ u.fan.flap = s.fan.flap ∧
        u.fan.duty = s.fan.duty ∧ u.fan.wanted = s.fan.wanted ∧ u.fan.trial = s.fan.trial ∧
        u.fan.stallHistory = (if s.fan.latch = none then none else s.fan.stallHistory) ∧
        othersKept [.fan, .cond] (advanceTo i s) u) ∧
  (∀ (s : State) (i : Count),
        s.fan.travel = some i →
        s.fan.trial = .running →
        (s.fan.state = .flapOpening ∨ s.fan.state = .flapClosing) →
        ∃ u, exec (.flapFault) s = .next u ∧
        u.fan.trial = .idle ∧ u.fan.latch = some .flap ∧ u.fan.stallHistory = s.fan.stallHistory ∧
        u.fan.wanted = s.fan.wanted ∧
        (s.fan.state = .flapOpening → u.fan.state = .flapClosing ∧ u.fan.flap = .closed ∧
          u.fan.travel = some (Count.later (advanceTo i s).time.now 10240)) ∧
        (s.fan.state = .flapClosing ∧ s.fan.wanted = .halt →
          u.fan.state = .stopped ∧ u.fan.flap = s.fan.flap ∧ u.fan.travel = none) ∧
        othersKept [.fan, .cond] (advanceTo i s) u) ∧
  (∀ (t : Count) (s : State) (k : HalfNo),
        s.mode.mode = .run →
        s.fan.state = .stopped →
        s.fan.trial = .pending →
        s.own.k = some k →
        ∃ u, exec (.trialStart t) s = .next u ∧
        u.fan.trial = .running ∧ u.fan.state = .flapOpening ∧ u.fan.flap = .openFlap ∧
        u.fan.travel = some (Count.later (advanceTo t s).time.now 10240) ∧
        (s.fan.latch = some .spin →
          u.fan.drive = if (k.toNat + s.own.lead.toNat) % 2 = 0 then .inward else .outward) ∧
        u.fan.latch = s.fan.latch ∧ u.fan.wanted = s.fan.wanted ∧
        othersKept [.fan, .cond] (advanceTo t s) u)

/-- MID_HALF_POINT requests INNER, END_OF_HALF_POINT writes the stage and requests OUTER, INNER and in an OUT set
RH, REST_SAMPLING_TIMER_EXPIRY requests all three. Rests on R114, R118, R119, R124. -/
def Obligations.HalfCyclePointsRequestConversions : Prop :=
  (∀ (s : State) (i : Count),
        s.mode.mode = .run →
        s.clim.midPoint = some i →
        s.clim.converting = none →
        s.clim.waitOuter = [] →
        s.clim.waitInner = [] →
        s.clim.waitRh = [] →
        ∃ u, exec (.midHalfPoint) s = .next u ∧
        u.clim = { s.clim with
          midPoint := none, converting := some { source := .inner, purposes := [.midHalf .current] } } ∧
        othersKept [.clim, .cond] (advanceTo i s) u) ∧
  (∀ (s : State) (i : Count),
        s.mode.mode = .run →
        s.clim.endPoint = some i →
        s.clim.converting = none →
        s.clim.waitOuter = [] →
        s.clim.waitInner = [] →
        s.clim.waitRh = [] →
        ∃ u, exec (.endOfHalfPoint) s = .next u ∧
        u.clim.converting = some { source := .outer, purposes := [.endOfHalf .current] } ∧
        u.clim.waitOuter = [] ∧ u.clim.waitInner = [.endOfHalf .current] ∧
        u.clim.waitRh = (if s.clim.current.direction = .outward then [.endOfHalf .current] else []) ∧
        u.clim.endPoint = none ∧ u.clim.current = { s.clim.current with stage := some s.frost.stage } ∧
        u.clim.previous = s.clim.previous ∧
        (s.clim.current.direction = .outward ∨ s.frost.stage = .thaw ∨ s.frost.stage = .lockout →
          u.clim.awaiting.isSome = true) ∧
        (s.clim.current.direction ≠ .outward ∧ s.frost.stage ≠ .thaw ∧ s.frost.stage ≠ .lockout →
          u.clim.awaiting = s.clim.awaiting) ∧
        othersKept [.clim, .cond] (advanceTo i s) u) ∧
  (∀ (s : State) (i : Count),
        s.mode.mode = .rest →
        s.clim.restSampling = some i →
        s.clim.converting = none →
        s.clim.waitOuter = [] →
        s.clim.waitInner = [] →
        s.clim.waitRh = [] →
        ∃ u, exec (.restSamplingTimerExpiry) s = .next u ∧
        u.clim = { s.clim with
          restSampling := some (Count.later i 61440)
          converting := some { source := .outer, purposes := [.rest] }
          waitInner := [.rest], waitRh := [.rest] } ∧
        othersKept [.clim, .cond] (advanceTo i s) u)

/-- CONVERSION_COMPLETE holds a valid result and counts an invalid one: the third in a row latches SENSOR FAULT, and
only a valid CLEAR check unlatches it. Rests on R7, R115, R116, R118, R119, R120, R121, R163, R164; the model's
choice in log 38, 48, 59. Three points are the model's choice: a conversion that loses its set at an entry to
JOIN writes no room temperature (log 59); after INNER is unlatched the room temperature stays invalid until the
next such reading (log 38), and a reading of the conversion whose CLEAR check unlatches a sensor counts as fresh
(log 48). -/
def Obligations.ConversionsAreJudged : Prop :=
  (∀ (t : Count) (s : State) (x : Conversion) (result : Int),
        s.clim.converting = some x →
        x.source = .outer →
        ∃ u, exec (.conversionComplete t result) s = .next u ∧
        (let check := x.purposes.contains .clearCheck
        let old := s.clim.outer
        let valid : Bool := decide (-400 ≤ result) && decide (result ≤ 600)
        u.clim.outer =
            (if valid then
              { old with
                held := some result, invalid := 0, latched := old.latched && !check
                clearMark := u.clim.outer.clearMark }
            else if old.latched then { old with clearMark := u.clim.outer.clearMark }
            else if old.invalid < 2 then
              { old with invalid := old.invalid + 1, clearMark := u.clim.outer.clearMark }
            else { old with invalid := 0, latched := true, clearMark := u.clim.outer.clearMark }) ∧
          (u.clim.outer.latched = true → u.own.outdoor = none))) ∧
  (∀ (t : Count) (s : State) (x : Conversion) (result : Int),
        s.clim.converting = some x →
        x.source = .inner →
        ∃ u, exec (.conversionComplete t result) s = .next u ∧
        (let check := x.purposes.contains .clearCheck
        let old := s.clim.inner
        let valid : Bool := decide (-400 ≤ result) && decide (result ≤ 600)
        u.clim.inner =
            (if valid then
              { old with
                held := some result, invalid := 0, latched := old.latched && !check
                clearMark := u.clim.inner.clearMark }
            else if old.latched then { old with clearMark := u.clim.inner.clearMark }
            else if old.invalid < 2 then
              { old with invalid := old.invalid + 1, clearMark := u.clim.inner.clearMark }
            else { old with invalid := 0, latched := true, clearMark := u.clim.inner.clearMark }) ∧
          (u.clim.inner.latched = true → u.own.roomTemp = none))) ∧
  (∀ (t : Count) (s : State) (x : Conversion) (result : Int),
        s.clim.converting = some x →
        x.source = .rh →
        ∃ u, exec (.conversionComplete t result) s = .next u ∧
        (let check := x.purposes.contains .clearCheck
        let old := s.clim.rhSensor
        let valid : Bool := decide (0 ≤ result)
        u.clim.rhSensor =
            (if valid then
              { old with
                held := some (min result 100), invalid := 0, latched := old.latched && !check
                clearMark := u.clim.rhSensor.clearMark }
            else if old.latched then { old with clearMark := u.clim.rhSensor.clearMark }
            else if old.invalid < 2 then
              { old with invalid := old.invalid + 1, clearMark := u.clim.rhSensor.clearMark }
            else { old with invalid := 0, latched := true, clearMark := u.clim.rhSensor.clearMark }) ∧
          (valid = true → u.own.rh = (min result 100).toNat))) ∧
  (∀ (t : Count) (s : State) (x : Conversion) (result : Int),
        s.clim.converting = some x →
        x.source = .inner →
        ∃ u, exec (.conversionComplete t result) s = .next u ∧
        u.own = { s.own with
          roomTemp :=
            if u.clim.inner.latched then none
            else if -400 ≤ result ∧ result ≤ 600 ∧
                ((Purpose.endOfHalf .current ∈ x.purposes ∧ s.clim.current.direction = .outward) ∨
                  (Purpose.endOfHalf .previous ∈ x.purposes ∧ s.clim.previous.direction = .outward)) then
              some result
            else s.own.roomTemp }) ∧
  (∀ (t : Count) (s : State) (result : Int),
        s.clim.converting = some { source := .outer, purposes := [.endOfHalf .current] } →
        s.clim.awaiting = none →
        ∃ u, exec (.conversionComplete t result) s = .next u ∧
        u.clim.current = { s.clim.current with
          endOuter :=
            if u.clim.outer.latched then .absent
            else if -400 ≤ result ∧ result ≤ 600 then .fresh result
            else match s.clim.outer.held with
              | some v => .held v
              | none => .absent } ∧
        u.clim.previous = s.clim.previous ∧ u.clim.inner = s.clim.inner ∧
        u.clim.rhSensor = s.clim.rhSensor ∧ othersKept [.own, .clim, .cond] (advanceTo t s) u) ∧
  (∀ (t : Count) (s : State) (x : Conversion) (result : Int),
        s.clim.converting = some x →
        Purpose.rest ∉ x.purposes →
        ∃ u, exec (.conversionComplete t result) s = .next u ∧
        (let valid : Bool := match x.source with
          | .rh => decide (0 ≤ result)
          | _ => decide (-400 ≤ result) && decide (result ≤ 600)
        let after : Sensor := match x.source with
          | .outer => u.clim.outer
          | .inner => u.clim.inner
          | .rh => u.clim.rhSensor
        let reading : Reading :=
          if after.latched then .absent
          else if valid then .fresh (if x.source = .rh then min result 100 else result)
          else match after.held with
            | some v => .held v
            | none => .absent
        let filled : HalfTag → SampleSet → SampleSet := fun h old =>
          { old with
            midInner := if x.source = .inner ∧ Purpose.midHalf h ∈ x.purposes then reading else old.midInner
            endOuter := if x.source = .outer ∧ Purpose.endOfHalf h ∈ x.purposes then reading else old.endOuter
            endInner := if x.source = .inner ∧ Purpose.endOfHalf h ∈ x.purposes then reading else old.endInner
            endRh := if x.source = .rh ∧ Purpose.endOfHalf h ∈ x.purposes then reading else old.endRh }
        u.clim.current = filled .current s.clim.current ∧ u.clim.previous = filled .previous s.clim.previous)) ∧
  (∀ (t : Count) (s : State) (x : Conversion) (result : Int),
        s.clim.converting = some x →
        Purpose.rest ∉ x.purposes →
        ∃ u, exec (.conversionComplete t result) s = .next u ∧
        u.mode = s.mode ∧ u.demand = s.demand ∧ u.line = s.line) ∧
  (∀ (t : Count) (s : State) (x : Conversion) (a : Awaiting) (result : Int),
        s.mode.mode = .run →
        s.clim.converting = some x →
        s.clim.awaiting = some a →
        Purpose.endOfHalf a.half ∈ x.purposes →
        (∀ y ∈ a.sources, y = x.source) →
        s.unit.waitClimate = none →
        ∃ u, exec (.conversionComplete t result) s = .next u ∧
        (let current := if a.half = .current then u.clim.current else u.clim.previous
        let previous := if a.half = .current then u.clim.previous else a.previous
        let stage := current.stage.getD .noFrost
        let thawing := stage = .thaw ∨ stage = .lockout
        let afterIn := previous.direction = .inward
        let input : Sensor → Reading → Option Int := fun y r =>
          if y.latched then none else match r with
            | .fresh v => some v
            | .held v => some v
            | _ => none
        let offer : Bool → List Int := fun everyFacade => s.peers.records.filterMap fun r =>
          match r.climate with
          | some p => if p.age < 8 ∧ (everyFacade ∨ p.facade = s.own.facade) then p.outdoor else none
          | none => none
        let borrowed := match (offer false).min? with
          | some v => some v
          | none => (offer true).min?
        let own := if thawing then input u.clim.outer current.endOuter
          else if afterIn ∧ previous.endOuter ≠ .notTaken then input u.clim.outer previous.endOuter
          else if u.clim.outer.latched then none else u.clim.outer.held
        let outdoor := if u.clim.outer.latched then borrowed else own
        u.clim.awaiting = none ∧
          u.unit = { s.unit with
            waitClimate := some
              { stage := stage
                tOutdoor := outdoor
                source := if outdoor = none then .missing
                  else if u.clim.outer.latched then .borrowed else .own
                tSup := if ¬ thawing ∧ afterIn then input u.clim.inner previous.midInner else none
                tRoom := input u.clim.inner current.endInner
                tOe := input u.clim.outer current.endOuter
                rh := input u.clim.rhSensor current.endRh
                prevRh := s.clim.lastRh
                outerLatched := u.clim.outer.latched
                afterIn := decide afterIn } } ∧
          u.mode = s.mode ∧ u.demand = s.demand))

/-- CLIMATE_EVALUATION_COMPLETE computes the ratio and its list, writes outdoor and ratio, the severity of T_oe, and
the stage changes that severity and cold give. Rests on R84, R85, R86, R108, R109, R110, R122, R123, R128, R129,
R130, R131, R134, R135, R136, R137, R138, R152, R153, R156; the model's choice in log 24, 42, 49, 50, 55, 58.
Five points are the model's choice: without a previous RH an ACTIVE boost can end by RH alone (log 58); the
threshold for a P5 outside 0 to 3 (log 49) and the run-on length for a P6 outside 0 to 60 (log 50); a thaw
evaluation carrying OUTER latched leaves the post-thaw window open (log 42); and the previous RH is that of the
latest applied evaluation that had one (log 24). A parameter outside its range, as only a checked store image
can bring, enters the same formula, a negative one as 0 where a number of 0 or more is meant: the model's choice
(log 55). -/
def Obligations.ClimateEvaluationApplies : Prop :=
  (∀ (t : Count) (s : State) (x : EvalInputs) (a : Count) (ms : Nat),
        s.unit.engine = .climate x a ms false →
        climateInRange s.clim →
        ∃ u, exec (.climateEvaluationComplete t) s = .next u ∧
        (let rho : Option Nat :=
          match x.tSup, x.tRoom, x.tOutdoor with
          | some sup, some room, some out =>
            if x.stage ≠ .thaw ∧ x.stage ≠ .lockout ∧ x.afterIn = true ∧ x.source = .own ∧ 30 ≤ room - out then
              some (max 0 (min (((sup - out) * 1000).tdiv (room - out)) 1000)).toNat
            else none
          | _, _, _ => none
        u.own.ratio = rho.getD s.own.ratio ∧
          u.clim.ratios = (match rho with
            | some v => (s.clim.ratios ++ [v]).drop (s.clim.ratios.length + 1 - 8)
            | none => s.clim.ratios) ∧
          u.clim.lastRh = (if x.rh.isSome then x.rh else s.clim.lastRh) ∧
          u.own.outdoor = (if s.clim.outer.latched then none
            else if x.source = .own then x.tOutdoor else s.own.outdoor) ∧
          u.frost.severity = (match x.tOe with
            | none => s.frost.severity
            | some v =>
              let base := if 10 < v then 0 else min (1 + (10 - v).toNat / 15) 7
              if v ≤ 0 ∧ rho.isSome = true ∧ s.clim.ratios.length = 8 ∧
                  rho.getD 0 + 150 ≤ s.clim.ratios.sum / 8 then min (base + 1) 7 else base) ∧
          (∀ v ∈ x.tOutdoor, v ≤ param s 10 → s.frost.stage ≠ .lockout →
            u.frost.stage = .lockout ∧ u.frost.cause = some LockCause.cold ∧
            u.frost.granted = false ∧ u.frost.postThaw = none ∧ u.own.direction = .halt ∧
            (s.own.direction ≠ .halt → u.own.want = 0 ∧ u.own.ceil = 0 ∧ u.own.flow = 0 ∧
              u.fan.wanted = .halt) ∧ u.svc.writing.isSome = true) ∧
          (∀ v ∈ x.tOutdoor, param s 10 + 30 ≤ v → s.frost.stage = .lockout → s.frost.warm = 1 →
            u.frost.stage = .noFrost ∧ u.frost.cause = none ∧ u.frost.failed = 0) ∧
          (x.outerLatched = false → x.stage ≠ .thaw → s.frost.stage = .noFrost →
            (∀ v ∈ x.tOutdoor, param s 10 < v) →
            x.tOe.isSome = true → s.frost.postThaw = none →
            u.frost.stage = if u.frost.severity = 0 then .noFrost else .watch) ∧
          u.unit.engine = .free ∧
          othersKept [.own, .line, .unit, .pass, .fan, .clim, .frost, .demand, .cond, .svc]
            (advanceTo t s) u)) ∧
  (∀ (t : Count) (s : State) (x : EvalInputs) (a : Count) (ms : Nat),
        s.unit.engine = .climate x a ms false →
        ∃ u, exec (.climateEvaluationComplete t) s = .next u ∧
        (let limit : Option Int := match s.own.room with
          | .wet => some (60 + 5 * param s 5)
          | .kitchen => some (65 + 5 * param s 5)
          | _ => none
        let runOn := if paramNat s 6 = 0 then 20 * 61440 else paramNat s 6 * 61440
        let verdict : Humidity × Option Count :=
          match limit, x.rh with
          | some h, some rh =>
            if h ≤ rh ∨ x.prevRh.any (fun p => decide (p + 6 ≤ rh)) = true then (.active, none)
            else if s.demand.humidity = .active ∧ rh < h - 5 then
              (.runOn, some (Count.later (advanceTo t s).time.now runOn))
            else (s.demand.humidity, s.demand.runOn)
          | _, _ => (s.demand.humidity, s.demand.runOn)
        u.demand = { s.demand with
            humidity := verdict.1, runOn := verdict.2
            dryGuard := u.demand.dryGuard, dryCount := u.demand.dryCount } ∧
          othersKept [.own, .line, .unit, .pass, .fan, .clim, .frost, .demand, .cond, .svc]
            (advanceTo t s) u)) ∧
  (∀ (t : Count) (s : State) (x : EvalInputs) (a : Count) (ms : Nat) (rh out : Int),
        s.unit.engine = .climate x a ms false →
        x.rh = some rh →
        x.tOutdoor = some out →
        ∃ u, exec (.climateEvaluationComplete t) s = .next u ∧
        (s.own.room = .wet ∧ 60 + 5 * param s 5 ≤ rh → u.demand.humidity = .active ∧ u.demand.runOn = none) ∧
        (s.own.room = .kitchen ∧ 65 + 5 * param s 5 ≤ rh →
          u.demand.humidity = .active ∧ u.demand.runOn = none) ∧
        (s.own.room = .dry ∨ s.own.room = .hall →
          u.demand.humidity = s.demand.humidity ∧ u.demand.runOn = s.demand.runOn) ∧
        (s.demand.dryGuard = true →
          u.demand.dryGuard = !(decide (35 ≤ rh) || decide (30 ≤ out))) ∧
        (s.demand.dryGuard = false ∧ s.demand.dryCount = 1 ∧ rh ≤ 30 ∧ out ≤ 0 →
          u.demand.dryGuard = true ∧ u.demand.dryCount = 0) ∧
        u.demand.slot = s.demand.slot ∧ u.demand.buttonBoost = s.demand.buttonBoost) ∧
  (∀ (t : Count) (s : State) (x : EvalInputs) (a : Count) (ms : Nat),
        s.unit.engine = .climate x a ms false →
        x.stage ≠ .thaw →
        s.frost.stage ≠ .thaw →
        s.frost.stage ≠ .lockout →
        (∀ v ∈ x.tOutdoor, param s 10 < v) →
        x.outerLatched = false →
        x.tOe.isSome = true →
        s.frost.postThaw = none →
        ∃ u, exec (.climateEvaluationComplete t) s = .next u ∧
        (let n := u.frost.severity
        (s.frost.stage = .noFrost → u.frost.stage = if 1 ≤ n then .watch else .noFrost) ∧
          (s.frost.stage = .watch →
            (2 ≤ n ∧ s.frost.rise = 0 → u.frost.stage = .watch ∧ u.frost.rise = 1 ∧ u.frost.fall = 0) ∧
            (2 ≤ n ∧ 1 ≤ s.frost.rise → u.frost.stage = .trim ∧ u.frost.rise = 0 ∧ u.frost.fall = 0) ∧
            (n = 0 ∧ s.frost.fall = 0 → u.frost.stage = .watch ∧ u.frost.rise = 0 ∧ u.frost.fall = 1) ∧
            (n = 0 ∧ 1 ≤ s.frost.fall → u.frost.stage = .noFrost ∧ u.frost.failed = 0) ∧
            (n = 1 → u.frost.stage = .watch ∧ u.frost.rise = 0 ∧ u.frost.fall = 0)) ∧
          (s.frost.stage = .trim →
            (3 ≤ n ∧ s.frost.rise < 2 →
              u.frost.stage = .trim ∧ u.frost.rise = s.frost.rise + 1 ∧ u.frost.fall = 0) ∧
            (3 ≤ n ∧ 2 ≤ s.frost.rise ∧ s.frost.holdOff = 0 → u.frost.stage = .claiming ∧ u.frost.rise = 0) ∧
            (3 ≤ n ∧ 2 ≤ s.frost.rise ∧ 0 < s.frost.holdOff → u.frost.stage = .trim ∧ u.frost.rise = 3) ∧
            (n ≤ 1 ∧ s.frost.fall = 0 → u.frost.stage = .trim ∧ u.frost.rise = 0 ∧ u.frost.fall = 1) ∧
            (n ≤ 1 ∧ 1 ≤ s.frost.fall → u.frost.stage = .watch ∧ u.frost.fall = 0) ∧
            (n = 2 → u.frost.stage = .trim ∧ u.frost.rise = 0 ∧ u.frost.fall = 0)) ∧
          (s.frost.stage = .claiming →
            (n < 3 → u.frost.stage = .trim ∧ u.frost.granted = false ∧ u.frost.ownClaim = .idle) ∧
            (3 ≤ n → u.frost.stage = .claiming ∧ u.frost.granted = s.frost.granted ∧
              u.frost.ownClaim = s.frost.ownClaim)) ∧
          u.own.direction = s.own.direction ∧ u.frost.holdOff = s.frost.holdOff ∧
          (u.frost.stage ≠ .noFrost → u.frost.failed = s.frost.failed))) ∧
  (∀ (t : Count) (s : State) (x : EvalInputs) (a : Count) (ms : Nat) (w : PostThaw),
        s.unit.engine = .climate x a ms false →
        x.stage ≠ .thaw →
        s.frost.stage ≠ .thaw →
        s.frost.stage ≠ .lockout →
        (∀ v ∈ x.tOutdoor, param s 10 < v) →
        x.outerLatched = false →
        x.tOe.isSome = true →
        s.frost.postThaw = some w →
        ∃ u, exec (.climateEvaluationComplete t) s = .next u ∧
        (u.frost.severity < 3 → u.frost.postThaw = none ∧ u.frost.failed = 0 ∧
          u.frost.failedTotal = s.frost.failedTotal) ∧
        (3 ≤ u.frost.severity ∧ w.seen = 0 →
          u.frost.postThaw = some { seen := 1, high := true } ∧ u.frost.failed = s.frost.failed) ∧
        (3 ≤ u.frost.severity ∧ w.seen ≠ 0 ∧ w.high = false →
          u.frost.postThaw = none ∧ u.frost.failed = s.frost.failed) ∧
        (3 ≤ u.frost.severity ∧ w.seen ≠ 0 ∧ w.high = true →
          u.frost.postThaw = none ∧ u.frost.failed = min (s.frost.failed + 1) 3 ∧
          u.frost.failedTotal = min (s.frost.failedTotal + 1) 65535 ∧
          (s.frost.failed < 2 → u.own.direction = s.own.direction ∧ u.frost.stage ≠ .lockout) ∧
          (2 ≤ s.frost.failed → u.frost.stage = .lockout ∧ u.frost.cause = some LockCause.failed ∧
            u.frost.lockHalves = 0 ∧ u.own.direction = .halt ∧ u.svc.writing.isSome = true))) ∧
  (∀ (t : Count) (s : State) (x : EvalInputs) (a : Count) (ms : Nat),
        s.unit.engine = .climate x a ms false →
        x.stage ≠ .thaw →
        s.frost.stage ≠ .thaw →
        s.frost.stage ≠ .lockout →
        (∀ v ∈ x.tOutdoor, param s 10 < v) →
        x.outerLatched = true →
        ∃ u, exec (.climateEvaluationComplete t) s = .next u ∧
        u.frost.stage = (match x.tOutdoor with
          | some v => if 0 < v then .noFrost else .trim
          | none => .trim) ∧
        u.frost.postThaw = none ∧ u.own.direction = s.own.direction ∧
        (x.tOe = none → u.frost.severity = s.frost.severity) ∧
        (u.frost.stage ≠ s.frost.stage → u.frost.rise = 0 ∧ u.frost.fall = 0 ∧ u.frost.warm = 0) ∧
        (s.frost.stage = .claiming → u.frost.granted = false ∧ u.frost.ownClaim = .idle) ∧
        u.frost.holdOff = s.frost.holdOff) ∧
  (∀ (t : Count) (s : State) (x : EvalInputs) (a : Count) (ms : Nat),
        s.unit.engine = .climate x a ms false →
        (x.stage = .thaw ∨ s.frost.stage = .thaw) →
        s.frost.stage ≠ .lockout →
        (∀ v ∈ x.tOutdoor, param s 10 < v) →
        ∃ u, exec (.climateEvaluationComplete t) s = .next u ∧
        u.frost = { s.frost with severity := u.frost.severity } ∧ u.own.direction = s.own.direction ∧
        u.own.ceil = s.own.ceil) ∧
  (∀ (t : Count) (s : State) (x : EvalInputs) (a : Count) (ms : Nat),
        s.unit.engine = .climate x a ms false →
        s.mode.mode = .run →
        windowClosedInLockout s.frost →
        ∃ u, exec (.climateEvaluationComplete t) s = .next u ∧
        (let trims : FrostStage → Bool := fun st => st = .trim || st = .claiming
        let ceiling : FrostStage → Nat := fun st =>
          (match s.own.direction with
          | .halt => 0
          | .inward =>
            let n := if st = .trim ∨ st = .claiming then s.filt.ceilIn * paramNat s 9 / 100 else s.filt.ceilIn
            min (s.fan.cap.getD n) n
          | .outward => min (s.fan.cap.getD s.filt.ceilOut) s.filt.ceilOut)
        (u.frost.stage ≠ .lockout ∨ s.frost.stage = .lockout) ∧
            (trims u.frost.stage ≠ trims s.frost.stage ∨ s.own.ceil = ceiling s.frost.stage) →
          u.own = { s.own with
              ceil := ceiling u.frost.stage, flow := u.own.flow, ratio := u.own.ratio
              outdoor := u.own.outdoor } ∧
            u.own.flow = (if u.own.ceil = s.own.ceil then s.own.flow
          else if s.mode.mode = .run ∧ s.pass.current = false ∧ s.own.direction ≠ .halt then
            min s.own.want u.own.ceil
          else min s.own.flow u.own.ceil) ∧
            (s.line.faultCount < 64 ∧ s.line.txq.length < 4 ∧ (∀ x ∈ s.line.txq, x.cls ≠ .change) →
          (u.own.ceil < s.own.ceil ∧ s.fan.ceilRef.any (fun r => decide (u.own.ceil + 10 ≤ r)) = true →
            newEntry .change false s.own.node false [] ∈ u.line.txq) ∧
          (s.own.ceil ≤ u.own.ceil ∨ s.fan.ceilRef.any (fun r => decide (u.own.ceil + 10 ≤ r)) = false →
            ∀ x ∈ u.line.txq, x.cls ≠ .change)) ∧
            (let again : Bool := decide (s.mode.mode = .run ∧ s.rev.gather = none ∧ u.own.ceil ≠ s.own.ceil)
        u.pass = { s.pass with
              state := if again then
                  (match s.pass.state with
                  | .idle => .waiting
                  | .waiting => .waiting
                  | .running => .runningOneMore
                  | .runningOneMore => .runningOneMore)
                else s.pass.state } ∧
            u.unit = { s.unit with
              engine := .free
              waitPass := s.unit.waitPass || (again && decide (s.pass.state = .idle)) }) ∧
            u.fan = s.fan ∧ (s.frost.stage ≠ .claiming ∧ u.own.ceil = s.own.ceil → u.line = s.line))) ∧
  (∀ (t : Count) (s : State) (x : EvalInputs) (a : Count) (ms : Nat),
        s.unit.engine = .climate x a ms false →
        s.mode.mode = .run →
        s.frost.stage ≠ .lockout →
        s.own.direction ≠ .halt →
        ∃ u, exec (.climateEvaluationComplete t) s = .next u ∧
        (u.frost.stage = .lockout →
          u.own = { s.own with
              direction := .halt, want := 0, ceil := 0, flow := 0, ratio := u.own.ratio
              outdoor := u.own.outdoor } ∧
            (s.line.faultCount < 64 ∧ s.line.txq.length < 4 ∧ (∀ x ∈ s.line.txq, x.cls ≠ .change) →
              newEntry .change true s.own.node false [] ∈ u.line.txq) ∧
            (let again : Bool := decide (s.mode.mode = .run ∧ s.rev.gather = none ∧ s.own.direction ≠ .halt)
        u.pass = { s.pass with
              state := if again then
                  (match s.pass.state with
                  | .idle => .waiting
                  | .waiting => .waiting
                  | .running => .runningOneMore
                  | .runningOneMore => .runningOneMore)
                else s.pass.state } ∧
            u.unit = { s.unit with
              engine := .free
              waitPass := s.unit.waitPass || (again && decide (s.pass.state = .idle)) }) ∧
            u.fan.wanted = .halt ∧ (s.fan.state = .running → u.fan.state = .rampDown ∧
              u.fan.target = some .halt)))

/-- FILTER_EVALUATION_COMPLETE writes loadings, L, W and ceilings from the ratios and references; FILTER_HOURS adds
an hour and raises the state at the interval. Rests on R84, R85, R86, R108, R109, R110, R169, R170, R171, R172,
R173; the model's choice in log 55. A parameter outside its range, as only a checked store image can bring,
enters the same formula, a negative one as 0 where a number of 0 or more is meant: the model's choice (log 55). -/
def Obligations.FilterEvaluationAndHours : Prop :=
  (∀ (t : Count) (s : State) (x : FilterPair) (a : Count) (ms : Nat),
        s.unit.engine = .filter x a ms false →
        s.filt.learning = none →
        0 < s.filt.refIn →
        0 < s.filt.refOut →
        ∃ u, exec (.filterEvaluationComplete t) s = .next u ∧
        (let loadIn := min ((x.ratioIn - s.filt.refIn) * 1000 / s.filt.refIn) 1000
        let loadOut := min ((x.ratioOut - s.filt.refOut) * 1000 / s.filt.refOut) 1000
        u.filt.loadIn = loadIn ∧ u.filt.loadOut = loadOut ∧ u.filt.loading = (loadIn + loadOut) / 2 ∧
          u.filt.wind = ((loadIn : Int) - loadOut).tdiv 2 ∧
          u.filt.ceilIn = 120 * (1000 - loadIn) / 1000 ∧ u.filt.ceilOut = 120 * (1000 - loadOut) / 1000 ∧
          u.filt.refIn = s.filt.refIn ∧ u.filt.refOut = s.filt.refOut ∧ u.filt.hours = s.filt.hours ∧
          filterCode s.filt.state ≤ filterCode u.filt.state ∧ u.unit.engine = .free ∧
          othersKept [.own, .line, .unit, .pass, .filt, .cond, .svc] (advanceTo t s) u)) ∧
  (∀ (t : Count) (s : State) (x : FilterPair) (a : Count) (ms n : Nat),
        s.unit.engine = .filter x a ms false →
        s.filt.learning = some n →
        ∃ u, exec (.filterEvaluationComplete t) s = .next u ∧
        u.filt.loading = 0 ∧ u.filt.wind = 0 ∧ u.filt.ceilIn = 120 ∧ u.filt.ceilOut = 120 ∧
        (n < 3 → u.filt.learning = some (n + 1) ∧ u.filt.sumIn = s.filt.sumIn + x.ratioIn ∧
          u.filt.sumOut = s.filt.sumOut + x.ratioOut ∧ u.filt.refIn = s.filt.refIn) ∧
        (3 ≤ n → u.filt.learning = none ∧ u.filt.refIn = max 1 ((s.filt.sumIn + x.ratioIn) / 4) ∧
          u.filt.refOut = max 1 ((s.filt.sumOut + x.ratioOut) / 4)) ∧
        u.unit.engine = .free) ∧
  (∀ (t : Count) (s : State) (x : FilterPair) (a : Count) (ms : Nat),
        s.unit.engine = .filter x a ms false →
        (param s 7 = 0 ∨ param s 7 = 1) →
        ∃ u, exec (.filterEvaluationComplete t) s = .next u ∧
        (let coarse := param s 7 = 0
        let count : Bool → Nat → Nat → Nat := fun higher threshold n =>
          if higher = true ∧ threshold ≤ u.filt.loading then min (n + 1) 30 else 0
        let loaded := count (decide (s.filt.state = .clean)) (if coarse then 200 else 150) s.filt.runLoaded
        let change := count (decide (s.filt.state = .clean ∨ s.filt.state = .loaded))
          (if coarse then 450 else 350) s.filt.runChange
        let blocked := count (decide (s.filt.state ≠ .blocked)) (if coarse then 700 else 600) s.filt.runBlocked
        let risen := if blocked = 30 then .blocked
          else if change = 30 then .change
          else if loaded = 30 then .loaded else s.filt.state
        u.filt.state = risen ∧
          (risen = s.filt.state →
            u.filt.runLoaded = loaded ∧ u.filt.runChange = change ∧ u.filt.runBlocked = blocked) ∧
          (risen ≠ s.filt.state → u.svc.writing.isSome = true ∧
            u.filt.runBlocked = (if risen = .blocked then 0 else blocked) ∧
            u.filt.runChange = (if risen = .loaded then change else 0) ∧ u.filt.runLoaded = 0))) ∧
  (∀ (t : Count) (s : State) (x : FilterPair) (a : Count) (ms : Nat),
        s.unit.engine = .filter x a ms false →
        s.mode.mode = .run →
        ∃ u, exec (.filterEvaluationComplete t) s = .next u ∧
        u.own = { s.own with
          ceil := (match s.own.direction with
          | .halt => 0
          | .inward =>
            let n := if s.frost.stage = .trim ∨ s.frost.stage = .claiming then u.filt.ceilIn * paramNat s 9 / 100 else u.filt.ceilIn
            min (s.fan.cap.getD n) n
          | .outward => min (s.fan.cap.getD u.filt.ceilOut) u.filt.ceilOut)
          flow := u.own.flow } ∧
        u.own.flow = (if u.own.ceil = s.own.ceil then s.own.flow
          else if s.mode.mode = .run ∧ s.pass.current = false ∧ s.own.direction ≠ .halt then
            min s.own.want u.own.ceil
          else min s.own.flow u.own.ceil) ∧
        (s.line.faultCount < 64 ∧ s.line.txq.length < 4 ∧ (∀ x ∈ s.line.txq, x.cls ≠ .change) →
          (u.own.ceil < s.own.ceil ∧ s.fan.ceilRef.any (fun r => decide (u.own.ceil + 10 ≤ r)) = true →
            newEntry .change false s.own.node false [] ∈ u.line.txq) ∧
          (s.own.ceil ≤ u.own.ceil ∨ s.fan.ceilRef.any (fun r => decide (u.own.ceil + 10 ≤ r)) = false →
            ∀ x ∈ u.line.txq, x.cls ≠ .change)) ∧
        (u.own.ceil = s.own.ceil → u.line = s.line) ∧
        (let again : Bool := decide (s.mode.mode = .run ∧ s.rev.gather = none ∧ u.own.ceil ≠ s.own.ceil)
        u.pass = { s.pass with
              state := if again then
                  (match s.pass.state with
                  | .idle => .waiting
                  | .waiting => .waiting
                  | .running => .runningOneMore
                  | .runningOneMore => .runningOneMore)
                else s.pass.state } ∧
            u.unit = { s.unit with
              engine := .free
              waitPass := s.unit.waitPass || (again && decide (s.pass.state = .idle)) }) ∧
        othersKept [.own, .line, .unit, .pass, .filt, .cond, .svc] (advanceTo t s) u) ∧
  (∀ (t : Count) (s : State),
        3686400 ≤ (advanceTo t s).time.fanTime →
        ∃ u, exec (.filterHours t) s = .next u ∧
        u.filt.hours = min (s.filt.hours + 1) 65535 ∧
        u.time = { (advanceTo t s).time with fanTime := (advanceTo t s).time.fanTime - 3686400 } ∧
        u.filt.state = (if paramNat s 8 * 100 ≤ u.filt.hours ∧
          (s.filt.state = .clean ∨ s.filt.state = .loaded) then .change else s.filt.state) ∧
        (u.filt.state ≠ s.filt.state → u.svc.writing.isSome = true) ∧
        u.filt.loading = s.filt.loading ∧ u.filt.runBlocked = s.filt.runBlocked ∧
        othersKept [.time, .filt, .cond, .svc] s u)

/-- A press is judged at its release by its length; the button boost, run-on, hold and REST timers end what they
held and nothing else. Rests on R153, R154, R155, R157, R160, R162, R163; the model's choice in log 50, 55. The
run-on length for a P6 outside 0 to 60 is the model's choice (log 50). A parameter outside its range, as only a
checked store image can bring, enters the same formula, a negative one as 0 where a number of 0 or more is
meant: the model's choice (log 55). -/
def Obligations.ButtonAndDemandTimers : Prop :=
  (∀ (t : Count) (s : State),
        s.mode.mode ≠ .rest →
        ∃ u, exec (.buttonPress t) s = .next u ∧
        u.demand = { s.demand with
          button := some (s.demand.button.getD { since := (advanceTo t s).time.now, timed := true }) } ∧
        othersKept [.demand, .cond] (advanceTo t s) u) ∧
  (∀ (t : Count) (s : State),
        s.mode.mode = .rest →
        s.demand.flush.isSome = true →
        s.demand.button = none →
        ∃ u, exec (.buttonPress t) s = .next u ∧
        u.demand = { s.demand with
          button := some { since := (advanceTo t s).time.now, timed := false }
          heldWake := some { cause := (s.demand.heldWake.map fun w => w.cause).getD .press, mark := true } } ∧
        othersKept [.demand, .cond] (advanceTo t s) u) ∧
  (∀ (t : Count) (s : State) (p : Press),
        s.demand.button = some p →
        ∃ u, exec (.buttonRelease t) s = .next u ∧
        (let length := Count.since (advanceTo t s).time.now p.since
        let judged := p.timed = true ∧ (s.mode.mode = .run ∨ s.mode.mode = .join)
        let runOn := if paramNat s 6 = 0 then 20 * 61440 else paramNat s 6 * 61440
        u.demand = (if judged ∧ length < 2048 then
              { s.demand with
                button := none, buttonBoost := some (Count.later (advanceTo t s).time.now runOn) }
            else if judged ∧ 3072 ≤ length ∧ length < 9216 then
              { s.demand with button := none, buttonBoost := none, humidity := .off, runOn := none }
            else { s.demand with button := none }) ∧
          othersKept [.demand, .cond] (advanceTo t s) u)) ∧
  (∀ (s : State) (i : Count),
        s.demand.buttonBoost = some i →
        ∃ u, exec (.buttonBoostExpiry) s = .next u ∧
        u.demand = { s.demand with buttonBoost := none } ∧ othersKept [.demand, .cond] (advanceTo i s) u) ∧
  (∀ (s : State) (i : Count),
        s.demand.runOn = some i →
        ∃ u, exec (.humidityRunOnExpiry) s = .next u ∧
        u.demand = { s.demand with runOn := none, humidity := .off } ∧ othersKept [.demand, .cond] (advanceTo i s) u) ∧
  (∀ (s : State) (h : HouseSlot) (i : Count),
        s.demand.slot = some h →
        h.hold = some i →
        ∃ u, exec (.holdExpiry) s = .next u ∧
        u.demand = { s.demand with slot := none } ∧ othersKept [.demand, .cond] (advanceTo i s) u) ∧
  (∀ (s : State) (i : Count),
        s.mode.mode = .rest →
        s.demand.flush = some i →
        ∃ u, exec (.restFlushEnd) s = .next u ∧
        u.demand.flush = none ∧ u.demand.heldWake = none ∧ u.demand.slot = s.demand.slot ∧
        u.fan.wanted = .halt ∧ u.fan.restart = false ∧
        u.mode.mode = (if s.demand.heldWake.isSome then .join else .rest)) ∧
  (∀ (s : State) (i : Count),
        s.mode.mode = .rest →
        s.demand.restTimer = some i →
        s.demand.flush.isSome = true →
        ∃ u, exec (.restTimerExpiry) s = .next u ∧
        u.demand = { s.demand with
          restTimer := none
          heldWake := some (s.demand.heldWake.getD { cause := .restTimer, mark := false }) } ∧
        othersKept [.demand, .cond] (advanceTo i s) u)

/-- STORE_WRITE_COMPLETE takes the image read back, STORE DEFAULT by its match; STORE_RUN_TIMER_EXPIRY requests a
write; INDICATOR_CYCLE moves the pattern on. Rests on R183, R184. -/
def Obligations.StoreWritesAndIndicator : Prop :=
  (∀ (t : Count) (s : State) (image readBack : StoreImage),
        s.svc.writing = some image →
        ∃ u, exec (.storeWriteComplete t readBack) s = .next u ∧
        u.svc.store = readBack ∧ u.svc.storeDefault = decide (readBack ≠ image) ∧ u.time.runTime = 0 ∧
        u.time.now = (advanceTo t s).time.now ∧ u.svc.params = s.svc.params ∧ u.svc.further = false ∧
        (s.svc.further = false → u.svc.writing = none ∧ u.svc.changed = s.svc.changed) ∧
        (s.svc.further = true → u.svc.writing = some (currentImage s) ∧ u.svc.changed = false) ∧
        othersKept [.time, .cond, .svc] s u) ∧
  (∀ (t : Count) (s : State),
        s.mode.mode = .run →
        29491200 ≤ (advanceTo t s).time.runTime →
        ∃ u, exec (.storeRunTimerExpiry t) s = .next u ∧
        u.time.runTime = (advanceTo t s).time.runTime - 29491200 ∧ u.svc.params = s.svc.params ∧
        (s.svc.writing = none → u.svc.writing = some (currentImage s) ∧ u.svc.changed = false) ∧
        (s.svc.writing.isSome = true → u.svc = { s.svc with further := true }) ∧
        othersKept [.time, .cond, .svc] s u) ∧
  (∀ (t : Count) (s : State),
        s.mode.startHold = none →
        conditionsFollow s →
        ∃ u, exec (.indicatorCycle t) s = .next u ∧
        u.cond = { s.cond with
          phase := (s.cond.phase + 1) % (if s.cond.leading = 0 then 1
            else if s.cond.leading ≤ 4 then 2 else if s.cond.leading ≤ 9 then 4 else 2) } ∧
        othersKept [.cond] (advanceTo t s) u) ∧
  (∀ (t : Count) (s : State),
        s.mode.startHold.isSome = true →
        conditionsFollow s →
        ∃ u, exec (.indicatorCycle t) s = .next u ∧
        sinkOn u = false ∧ sinkMilliamps u = 0 ∧ othersKept [] (advanceTo t s) u)
end

