-- ==== Sys2Proof/Laws/State.lean ====
section
/-! SUPPORT. One lemma per block update and block: what a block update leaves and what it writes. -/

namespace Sys2Proof.Machine.State

section
variable (s : State) (b : ModeControl)
@[simp] theorem withMode_mode : (s.withMode b).mode = b := rfl
@[simp] theorem withMode_own : (s.withMode b).own = s.own := rfl
@[simp] theorem withMode_line : (s.withMode b).line = s.line := rfl
@[simp] theorem withMode_peers : (s.withMode b).peers = s.peers := rfl
@[simp] theorem withMode_rev : (s.withMode b).rev = s.rev := rfl
@[simp] theorem withMode_time : (s.withMode b).time = s.time := rfl
@[simp] theorem withMode_unit : (s.withMode b).unit = s.unit := rfl
@[simp] theorem withMode_pass : (s.withMode b).pass = s.pass := rfl
@[simp] theorem withMode_fan : (s.withMode b).fan = s.fan := rfl
@[simp] theorem withMode_clim : (s.withMode b).clim = s.clim := rfl
@[simp] theorem withMode_frost : (s.withMode b).frost = s.frost := rfl
@[simp] theorem withMode_demand : (s.withMode b).demand = s.demand := rfl
@[simp] theorem withMode_filt : (s.withMode b).filt = s.filt := rfl
@[simp] theorem withMode_cond : (s.withMode b).cond = s.cond := rfl
@[simp] theorem withMode_svc : (s.withMode b).svc = s.svc := rfl
@[simp] theorem withMode_pending : (s.withMode b).pending = s.pending := rfl
end

section
variable (s : State) (b : OwnRecord)
@[simp] theorem withOwn_mode : (s.withOwn b).mode = s.mode := rfl
@[simp] theorem withOwn_own : (s.withOwn b).own = b := rfl
@[simp] theorem withOwn_line : (s.withOwn b).line = s.line := rfl
@[simp] theorem withOwn_peers : (s.withOwn b).peers = s.peers := rfl
@[simp] theorem withOwn_rev : (s.withOwn b).rev = s.rev := rfl
@[simp] theorem withOwn_time : (s.withOwn b).time = s.time := rfl
@[simp] theorem withOwn_unit : (s.withOwn b).unit = s.unit := rfl
@[simp] theorem withOwn_pass : (s.withOwn b).pass = s.pass := rfl
@[simp] theorem withOwn_fan : (s.withOwn b).fan = s.fan := rfl
@[simp] theorem withOwn_clim : (s.withOwn b).clim = s.clim := rfl
@[simp] theorem withOwn_frost : (s.withOwn b).frost = s.frost := rfl
@[simp] theorem withOwn_demand : (s.withOwn b).demand = s.demand := rfl
@[simp] theorem withOwn_filt : (s.withOwn b).filt = s.filt := rfl
@[simp] theorem withOwn_cond : (s.withOwn b).cond = s.cond := rfl
@[simp] theorem withOwn_svc : (s.withOwn b).svc = s.svc := rfl
@[simp] theorem withOwn_pending : (s.withOwn b).pending = s.pending := rfl
end

section
variable (s : State) (b : LineControl)
@[simp] theorem withLine_mode : (s.withLine b).mode = s.mode := rfl
@[simp] theorem withLine_own : (s.withLine b).own = s.own := rfl
@[simp] theorem withLine_line : (s.withLine b).line = b := rfl
@[simp] theorem withLine_peers : (s.withLine b).peers = s.peers := rfl
@[simp] theorem withLine_rev : (s.withLine b).rev = s.rev := rfl
@[simp] theorem withLine_time : (s.withLine b).time = s.time := rfl
@[simp] theorem withLine_unit : (s.withLine b).unit = s.unit := rfl
@[simp] theorem withLine_pass : (s.withLine b).pass = s.pass := rfl
@[simp] theorem withLine_fan : (s.withLine b).fan = s.fan := rfl
@[simp] theorem withLine_clim : (s.withLine b).clim = s.clim := rfl
@[simp] theorem withLine_frost : (s.withLine b).frost = s.frost := rfl
@[simp] theorem withLine_demand : (s.withLine b).demand = s.demand := rfl
@[simp] theorem withLine_filt : (s.withLine b).filt = s.filt := rfl
@[simp] theorem withLine_cond : (s.withLine b).cond = s.cond := rfl
@[simp] theorem withLine_svc : (s.withLine b).svc = s.svc := rfl
@[simp] theorem withLine_pending : (s.withLine b).pending = s.pending := rfl
end

section
variable (s : State) (b : PeerTable)
@[simp] theorem withPeers_mode : (s.withPeers b).mode = s.mode := rfl
@[simp] theorem withPeers_own : (s.withPeers b).own = s.own := rfl
@[simp] theorem withPeers_line : (s.withPeers b).line = s.line := rfl
@[simp] theorem withPeers_peers : (s.withPeers b).peers = b := rfl
@[simp] theorem withPeers_rev : (s.withPeers b).rev = s.rev := rfl
@[simp] theorem withPeers_time : (s.withPeers b).time = s.time := rfl
@[simp] theorem withPeers_unit : (s.withPeers b).unit = s.unit := rfl
@[simp] theorem withPeers_pass : (s.withPeers b).pass = s.pass := rfl
@[simp] theorem withPeers_fan : (s.withPeers b).fan = s.fan := rfl
@[simp] theorem withPeers_clim : (s.withPeers b).clim = s.clim := rfl
@[simp] theorem withPeers_frost : (s.withPeers b).frost = s.frost := rfl
@[simp] theorem withPeers_demand : (s.withPeers b).demand = s.demand := rfl
@[simp] theorem withPeers_filt : (s.withPeers b).filt = s.filt := rfl
@[simp] theorem withPeers_cond : (s.withPeers b).cond = s.cond := rfl
@[simp] theorem withPeers_svc : (s.withPeers b).svc = s.svc := rfl
@[simp] theorem withPeers_pending : (s.withPeers b).pending = s.pending := rfl
end

section
variable (s : State) (b : ReversalTimer)
@[simp] theorem withRev_mode : (s.withRev b).mode = s.mode := rfl
@[simp] theorem withRev_own : (s.withRev b).own = s.own := rfl
@[simp] theorem withRev_line : (s.withRev b).line = s.line := rfl
@[simp] theorem withRev_peers : (s.withRev b).peers = s.peers := rfl
@[simp] theorem withRev_rev : (s.withRev b).rev = b := rfl
@[simp] theorem withRev_time : (s.withRev b).time = s.time := rfl
@[simp] theorem withRev_unit : (s.withRev b).unit = s.unit := rfl
@[simp] theorem withRev_pass : (s.withRev b).pass = s.pass := rfl
@[simp] theorem withRev_fan : (s.withRev b).fan = s.fan := rfl
@[simp] theorem withRev_clim : (s.withRev b).clim = s.clim := rfl
@[simp] theorem withRev_frost : (s.withRev b).frost = s.frost := rfl
@[simp] theorem withRev_demand : (s.withRev b).demand = s.demand := rfl
@[simp] theorem withRev_filt : (s.withRev b).filt = s.filt := rfl
@[simp] theorem withRev_cond : (s.withRev b).cond = s.cond := rfl
@[simp] theorem withRev_svc : (s.withRev b).svc = s.svc := rfl
@[simp] theorem withRev_pending : (s.withRev b).pending = s.pending := rfl
end

section
variable (s : State) (b : TimeBase)
@[simp] theorem withTime_mode : (s.withTime b).mode = s.mode := rfl
@[simp] theorem withTime_own : (s.withTime b).own = s.own := rfl
@[simp] theorem withTime_line : (s.withTime b).line = s.line := rfl
@[simp] theorem withTime_peers : (s.withTime b).peers = s.peers := rfl
@[simp] theorem withTime_rev : (s.withTime b).rev = s.rev := rfl
@[simp] theorem withTime_time : (s.withTime b).time = b := rfl
@[simp] theorem withTime_unit : (s.withTime b).unit = s.unit := rfl
@[simp] theorem withTime_pass : (s.withTime b).pass = s.pass := rfl
@[simp] theorem withTime_fan : (s.withTime b).fan = s.fan := rfl
@[simp] theorem withTime_clim : (s.withTime b).clim = s.clim := rfl
@[simp] theorem withTime_frost : (s.withTime b).frost = s.frost := rfl
@[simp] theorem withTime_demand : (s.withTime b).demand = s.demand := rfl
@[simp] theorem withTime_filt : (s.withTime b).filt = s.filt := rfl
@[simp] theorem withTime_cond : (s.withTime b).cond = s.cond := rfl
@[simp] theorem withTime_svc : (s.withTime b).svc = s.svc := rfl
@[simp] theorem withTime_pending : (s.withTime b).pending = s.pending := rfl
end

section
variable (s : State) (b : CalcUnit)
@[simp] theorem withUnit_mode : (s.withUnit b).mode = s.mode := rfl
@[simp] theorem withUnit_own : (s.withUnit b).own = s.own := rfl
@[simp] theorem withUnit_line : (s.withUnit b).line = s.line := rfl
@[simp] theorem withUnit_peers : (s.withUnit b).peers = s.peers := rfl
@[simp] theorem withUnit_rev : (s.withUnit b).rev = s.rev := rfl
@[simp] theorem withUnit_time : (s.withUnit b).time = s.time := rfl
@[simp] theorem withUnit_unit : (s.withUnit b).unit = b := rfl
@[simp] theorem withUnit_pass : (s.withUnit b).pass = s.pass := rfl
@[simp] theorem withUnit_fan : (s.withUnit b).fan = s.fan := rfl
@[simp] theorem withUnit_clim : (s.withUnit b).clim = s.clim := rfl
@[simp] theorem withUnit_frost : (s.withUnit b).frost = s.frost := rfl
@[simp] theorem withUnit_demand : (s.withUnit b).demand = s.demand := rfl
@[simp] theorem withUnit_filt : (s.withUnit b).filt = s.filt := rfl
@[simp] theorem withUnit_cond : (s.withUnit b).cond = s.cond := rfl
@[simp] theorem withUnit_svc : (s.withUnit b).svc = s.svc := rfl
@[simp] theorem withUnit_pending : (s.withUnit b).pending = s.pending := rfl
end

section
variable (s : State) (b : BalancePass)
@[simp] theorem withPass_mode : (s.withPass b).mode = s.mode := rfl
@[simp] theorem withPass_own : (s.withPass b).own = s.own := rfl
@[simp] theorem withPass_line : (s.withPass b).line = s.line := rfl
@[simp] theorem withPass_peers : (s.withPass b).peers = s.peers := rfl
@[simp] theorem withPass_rev : (s.withPass b).rev = s.rev := rfl
@[simp] theorem withPass_time : (s.withPass b).time = s.time := rfl
@[simp] theorem withPass_unit : (s.withPass b).unit = s.unit := rfl
@[simp] theorem withPass_pass : (s.withPass b).pass = b := rfl
@[simp] theorem withPass_fan : (s.withPass b).fan = s.fan := rfl
@[simp] theorem withPass_clim : (s.withPass b).clim = s.clim := rfl
@[simp] theorem withPass_frost : (s.withPass b).frost = s.frost := rfl
@[simp] theorem withPass_demand : (s.withPass b).demand = s.demand := rfl
@[simp] theorem withPass_filt : (s.withPass b).filt = s.filt := rfl
@[simp] theorem withPass_cond : (s.withPass b).cond = s.cond := rfl
@[simp] theorem withPass_svc : (s.withPass b).svc = s.svc := rfl
@[simp] theorem withPass_pending : (s.withPass b).pending = s.pending := rfl
end

section
variable (s : State) (b : FanDrive)
@[simp] theorem withFan_mode : (s.withFan b).mode = s.mode := rfl
@[simp] theorem withFan_own : (s.withFan b).own = s.own := rfl
@[simp] theorem withFan_line : (s.withFan b).line = s.line := rfl
@[simp] theorem withFan_peers : (s.withFan b).peers = s.peers := rfl
@[simp] theorem withFan_rev : (s.withFan b).rev = s.rev := rfl
@[simp] theorem withFan_time : (s.withFan b).time = s.time := rfl
@[simp] theorem withFan_unit : (s.withFan b).unit = s.unit := rfl
@[simp] theorem withFan_pass : (s.withFan b).pass = s.pass := rfl
@[simp] theorem withFan_fan : (s.withFan b).fan = b := rfl
@[simp] theorem withFan_clim : (s.withFan b).clim = s.clim := rfl
@[simp] theorem withFan_frost : (s.withFan b).frost = s.frost := rfl
@[simp] theorem withFan_demand : (s.withFan b).demand = s.demand := rfl
@[simp] theorem withFan_filt : (s.withFan b).filt = s.filt := rfl
@[simp] theorem withFan_cond : (s.withFan b).cond = s.cond := rfl
@[simp] theorem withFan_svc : (s.withFan b).svc = s.svc := rfl
@[simp] theorem withFan_pending : (s.withFan b).pending = s.pending := rfl
end

section
variable (s : State) (b : ClimateSensing)
@[simp] theorem withClim_mode : (s.withClim b).mode = s.mode := rfl
@[simp] theorem withClim_own : (s.withClim b).own = s.own := rfl
@[simp] theorem withClim_line : (s.withClim b).line = s.line := rfl
@[simp] theorem withClim_peers : (s.withClim b).peers = s.peers := rfl
@[simp] theorem withClim_rev : (s.withClim b).rev = s.rev := rfl
@[simp] theorem withClim_time : (s.withClim b).time = s.time := rfl
@[simp] theorem withClim_unit : (s.withClim b).unit = s.unit := rfl
@[simp] theorem withClim_pass : (s.withClim b).pass = s.pass := rfl
@[simp] theorem withClim_fan : (s.withClim b).fan = s.fan := rfl
@[simp] theorem withClim_clim : (s.withClim b).clim = b := rfl
@[simp] theorem withClim_frost : (s.withClim b).frost = s.frost := rfl
@[simp] theorem withClim_demand : (s.withClim b).demand = s.demand := rfl
@[simp] theorem withClim_filt : (s.withClim b).filt = s.filt := rfl
@[simp] theorem withClim_cond : (s.withClim b).cond = s.cond := rfl
@[simp] theorem withClim_svc : (s.withClim b).svc = s.svc := rfl
@[simp] theorem withClim_pending : (s.withClim b).pending = s.pending := rfl
end

section
variable (s : State) (b : FrostGuard)
@[simp] theorem withFrost_mode : (s.withFrost b).mode = s.mode := rfl
@[simp] theorem withFrost_own : (s.withFrost b).own = s.own := rfl
@[simp] theorem withFrost_line : (s.withFrost b).line = s.line := rfl
@[simp] theorem withFrost_peers : (s.withFrost b).peers = s.peers := rfl
@[simp] theorem withFrost_rev : (s.withFrost b).rev = s.rev := rfl
@[simp] theorem withFrost_time : (s.withFrost b).time = s.time := rfl
@[simp] theorem withFrost_unit : (s.withFrost b).unit = s.unit := rfl
@[simp] theorem withFrost_pass : (s.withFrost b).pass = s.pass := rfl
@[simp] theorem withFrost_fan : (s.withFrost b).fan = s.fan := rfl
@[simp] theorem withFrost_clim : (s.withFrost b).clim = s.clim := rfl
@[simp] theorem withFrost_frost : (s.withFrost b).frost = b := rfl
@[simp] theorem withFrost_demand : (s.withFrost b).demand = s.demand := rfl
@[simp] theorem withFrost_filt : (s.withFrost b).filt = s.filt := rfl
@[simp] theorem withFrost_cond : (s.withFrost b).cond = s.cond := rfl
@[simp] theorem withFrost_svc : (s.withFrost b).svc = s.svc := rfl
@[simp] theorem withFrost_pending : (s.withFrost b).pending = s.pending := rfl
end

section
variable (s : State) (b : DemandUnit)
@[simp] theorem withDemand_mode : (s.withDemand b).mode = s.mode := rfl
@[simp] theorem withDemand_own : (s.withDemand b).own = s.own := rfl
@[simp] theorem withDemand_line : (s.withDemand b).line = s.line := rfl
@[simp] theorem withDemand_peers : (s.withDemand b).peers = s.peers := rfl
@[simp] theorem withDemand_rev : (s.withDemand b).rev = s.rev := rfl
@[simp] theorem withDemand_time : (s.withDemand b).time = s.time := rfl
@[simp] theorem withDemand_unit : (s.withDemand b).unit = s.unit := rfl
@[simp] theorem withDemand_pass : (s.withDemand b).pass = s.pass := rfl
@[simp] theorem withDemand_fan : (s.withDemand b).fan = s.fan := rfl
@[simp] theorem withDemand_clim : (s.withDemand b).clim = s.clim := rfl
@[simp] theorem withDemand_frost : (s.withDemand b).frost = s.frost := rfl
@[simp] theorem withDemand_demand : (s.withDemand b).demand = b := rfl
@[simp] theorem withDemand_filt : (s.withDemand b).filt = s.filt := rfl
@[simp] theorem withDemand_cond : (s.withDemand b).cond = s.cond := rfl
@[simp] theorem withDemand_svc : (s.withDemand b).svc = s.svc := rfl
@[simp] theorem withDemand_pending : (s.withDemand b).pending = s.pending := rfl
end

section
variable (s : State) (b : FilterSupervisor)
@[simp] theorem withFilt_mode : (s.withFilt b).mode = s.mode := rfl
@[simp] theorem withFilt_own : (s.withFilt b).own = s.own := rfl
@[simp] theorem withFilt_line : (s.withFilt b).line = s.line := rfl
@[simp] theorem withFilt_peers : (s.withFilt b).peers = s.peers := rfl
@[simp] theorem withFilt_rev : (s.withFilt b).rev = s.rev := rfl
@[simp] theorem withFilt_time : (s.withFilt b).time = s.time := rfl
@[simp] theorem withFilt_unit : (s.withFilt b).unit = s.unit := rfl
@[simp] theorem withFilt_pass : (s.withFilt b).pass = s.pass := rfl
@[simp] theorem withFilt_fan : (s.withFilt b).fan = s.fan := rfl
@[simp] theorem withFilt_clim : (s.withFilt b).clim = s.clim := rfl
@[simp] theorem withFilt_frost : (s.withFilt b).frost = s.frost := rfl
@[simp] theorem withFilt_demand : (s.withFilt b).demand = s.demand := rfl
@[simp] theorem withFilt_filt : (s.withFilt b).filt = b := rfl
@[simp] theorem withFilt_cond : (s.withFilt b).cond = s.cond := rfl
@[simp] theorem withFilt_svc : (s.withFilt b).svc = s.svc := rfl
@[simp] theorem withFilt_pending : (s.withFilt b).pending = s.pending := rfl
end

section
variable (s : State) (b : ConditionUnit)
@[simp] theorem withCond_mode : (s.withCond b).mode = s.mode := rfl
@[simp] theorem withCond_own : (s.withCond b).own = s.own := rfl
@[simp] theorem withCond_line : (s.withCond b).line = s.line := rfl
@[simp] theorem withCond_peers : (s.withCond b).peers = s.peers := rfl
@[simp] theorem withCond_rev : (s.withCond b).rev = s.rev := rfl
@[simp] theorem withCond_time : (s.withCond b).time = s.time := rfl
@[simp] theorem withCond_unit : (s.withCond b).unit = s.unit := rfl
@[simp] theorem withCond_pass : (s.withCond b).pass = s.pass := rfl
@[simp] theorem withCond_fan : (s.withCond b).fan = s.fan := rfl
@[simp] theorem withCond_clim : (s.withCond b).clim = s.clim := rfl
@[simp] theorem withCond_frost : (s.withCond b).frost = s.frost := rfl
@[simp] theorem withCond_demand : (s.withCond b).demand = s.demand := rfl
@[simp] theorem withCond_filt : (s.withCond b).filt = s.filt := rfl
@[simp] theorem withCond_cond : (s.withCond b).cond = b := rfl
@[simp] theorem withCond_svc : (s.withCond b).svc = s.svc := rfl
@[simp] theorem withCond_pending : (s.withCond b).pending = s.pending := rfl
end

section
variable (s : State) (b : ServiceUnit)
@[simp] theorem withSvc_mode : (s.withSvc b).mode = s.mode := rfl
@[simp] theorem withSvc_own : (s.withSvc b).own = s.own := rfl
@[simp] theorem withSvc_line : (s.withSvc b).line = s.line := rfl
@[simp] theorem withSvc_peers : (s.withSvc b).peers = s.peers := rfl
@[simp] theorem withSvc_rev : (s.withSvc b).rev = s.rev := rfl
@[simp] theorem withSvc_time : (s.withSvc b).time = s.time := rfl
@[simp] theorem withSvc_unit : (s.withSvc b).unit = s.unit := rfl
@[simp] theorem withSvc_pass : (s.withSvc b).pass = s.pass := rfl
@[simp] theorem withSvc_fan : (s.withSvc b).fan = s.fan := rfl
@[simp] theorem withSvc_clim : (s.withSvc b).clim = s.clim := rfl
@[simp] theorem withSvc_frost : (s.withSvc b).frost = s.frost := rfl
@[simp] theorem withSvc_demand : (s.withSvc b).demand = s.demand := rfl
@[simp] theorem withSvc_filt : (s.withSvc b).filt = s.filt := rfl
@[simp] theorem withSvc_cond : (s.withSvc b).cond = s.cond := rfl
@[simp] theorem withSvc_svc : (s.withSvc b).svc = b := rfl
@[simp] theorem withSvc_pending : (s.withSvc b).pending = s.pending := rfl
end

section
variable (s : State) (b : List Instr)
@[simp] theorem withPending_mode : (s.withPending b).mode = s.mode := rfl
@[simp] theorem withPending_own : (s.withPending b).own = s.own := rfl
@[simp] theorem withPending_line : (s.withPending b).line = s.line := rfl
@[simp] theorem withPending_peers : (s.withPending b).peers = s.peers := rfl
@[simp] theorem withPending_rev : (s.withPending b).rev = s.rev := rfl
@[simp] theorem withPending_time : (s.withPending b).time = s.time := rfl
@[simp] theorem withPending_unit : (s.withPending b).unit = s.unit := rfl
@[simp] theorem withPending_pass : (s.withPending b).pass = s.pass := rfl
@[simp] theorem withPending_fan : (s.withPending b).fan = s.fan := rfl
@[simp] theorem withPending_clim : (s.withPending b).clim = s.clim := rfl
@[simp] theorem withPending_frost : (s.withPending b).frost = s.frost := rfl
@[simp] theorem withPending_demand : (s.withPending b).demand = s.demand := rfl
@[simp] theorem withPending_filt : (s.withPending b).filt = s.filt := rfl
@[simp] theorem withPending_cond : (s.withPending b).cond = s.cond := rfl
@[simp] theorem withPending_svc : (s.withPending b).svc = s.svc := rfl
@[simp] theorem withPending_pending : (s.withPending b).pending = b := rfl
end

end Sys2Proof.Machine.State
end

