-- ==== Sys2Proof/Laws/Frames.lean ====
section
/-! SUPPORT. Frames: how `othersKept` composes, and which blocks each shared operation can change. -/

namespace Sys2Proof.Laws

open Sys2Proof.Machine Sys2Proof.Safety

/-! ### Composing frames -/

theorem kept_refl (s : State) (b : Block) : kept s s b := by cases b <;> rfl

theorem kept_trans {s t u : State} {b : Block} (h1 : kept s t b) (h2 : kept t u b) : kept s u b := by
  cases b <;> exact Eq.trans h2 h1

theorem othersKept_refl (bs : List Block) (s : State) : othersKept bs s s := fun b _ => kept_refl s b

theorem othersKept_mono {bs cs : List Block} {s t : State} (h : othersKept bs s t)
    (hsub : ∀ b ∈ bs, b ∈ cs) : othersKept cs s t :=
  fun b hb => h b fun hb' => hb (hsub b hb')

theorem othersKept_trans {bs : List Block} {s t u : State} (h1 : othersKept bs s t)
    (h2 : othersKept bs t u) : othersKept bs s u :=
  fun b hb => kept_trans (h1 b hb) (h2 b hb)

/-- Frames of two operations in a row. -/
theorem othersKept_append {bs cs : List Block} {s t u : State} (h1 : othersKept bs s t)
    (h2 : othersKept cs t u) : othersKept (bs ++ cs) s u :=
  othersKept_trans (othersKept_mono h1 fun _ h => List.mem_append_left _ h)
    (othersKept_mono h2 fun _ h => List.mem_append_right _ h)

/-! ### Block updates -/

section
variable (s : State)

theorem withMode_frame (b : ModeControl) : othersKept [.mode] s (s.withMode b) := by
  intro x hx; cases x <;> simp_all [kept]

theorem withOwn_frame (b : OwnRecord) : othersKept [.own] s (s.withOwn b) := by
  intro x hx; cases x <;> simp_all [kept]

theorem withLine_frame (b : LineControl) : othersKept [.line] s (s.withLine b) := by
  intro x hx; cases x <;> simp_all [kept]

theorem withPeers_frame (b : PeerTable) : othersKept [.peers] s (s.withPeers b) := by
  intro x hx; cases x <;> simp_all [kept]

theorem withRev_frame (b : ReversalTimer) : othersKept [.rev] s (s.withRev b) := by
  intro x hx; cases x <;> simp_all [kept]

theorem withTime_frame (b : TimeBase) : othersKept [.time] s (s.withTime b) := by
  intro x hx; cases x <;> simp_all [kept]

theorem withUnit_frame (b : CalcUnit) : othersKept [.unit] s (s.withUnit b) := by
  intro x hx; cases x <;> simp_all [kept]

theorem withPass_frame (b : BalancePass) : othersKept [.pass] s (s.withPass b) := by
  intro x hx; cases x <;> simp_all [kept]

theorem withFan_frame (b : FanDrive) : othersKept [.fan] s (s.withFan b) := by
  intro x hx; cases x <;> simp_all [kept]

theorem withClim_frame (b : ClimateSensing) : othersKept [.clim] s (s.withClim b) := by
  intro x hx; cases x <;> simp_all [kept]

theorem withFrost_frame (b : FrostGuard) : othersKept [.frost] s (s.withFrost b) := by
  intro x hx; cases x <;> simp_all [kept]

theorem withDemand_frame (b : DemandUnit) : othersKept [.demand] s (s.withDemand b) := by
  intro x hx; cases x <;> simp_all [kept]

theorem withFilt_frame (b : FilterSupervisor) : othersKept [.filt] s (s.withFilt b) := by
  intro x hx; cases x <;> simp_all [kept]

theorem withCond_frame (b : ConditionUnit) : othersKept [.cond] s (s.withCond b) := by
  intro x hx; cases x <;> simp_all [kept]

theorem withSvc_frame (b : ServiceUnit) : othersKept [.svc] s (s.withSvc b) := by
  intro x hx; cases x <;> simp_all [kept]

end

/-! ### The shared operations -/

/-- The end of every meaning writes the condition unit alone (R184). -/
theorem finish_frame (s : State) : othersKept [.cond] s (finish s) := withCond_frame s _

/-- The passing of time writes the time block alone (R53). -/
theorem passCounts_frame (d : Nat) (t : Count) (s : State) : othersKept [.time] s (passCounts d t s) :=
  withTime_frame s _

theorem advanceTo_frame (t : Count) (s : State) : othersKept [.time] s (advanceTo t s) := by
  unfold advanceTo
  split
  · exact passCounts_frame _ _ _
  · exact othersKept_refl _ _

/-- Queueing a notice writes the line block alone (R31, R32, R40, R41). -/
theorem queueNotice_frame (e : TxEntry) (s : State) : othersKept [.line] s (queueNotice e s) := by
  unfold queueNotice countDrops
  split
  · exact othersKept_refl _ _
  · split <;> exact withLine_frame s _
  · exact withLine_frame s _

/-- Withdrawing notices writes the line block alone (R34). -/
theorem withdraw_frame (p : TxEntry → Bool) (s : State) : othersKept [.line] s (withdraw p s) :=
  withLine_frame s _

theorem enterMuted_frame (s : State) : othersKept [.line] s (enterMuted s) :=
  othersKept_trans (withLine_frame s _) (withLine_frame _ _)

theorem enterCutOff_frame (s : State) : othersKept [.line] s (enterCutOff s) :=
  othersKept_trans (withLine_frame s _) (withLine_frame _ _)

/-- A charge writes the line block alone (R39 to R42). -/
theorem chargeLine_frame (s : State) : othersKept [.line] s (chargeLine s) := by
  unfold chargeLine
  dsimp only
  split
  · exact othersKept_trans (withLine_frame s _) (enterMuted_frame _)
  · exact othersKept_trans (withLine_frame s _) (enterCutOff_frame _)
  · exact othersKept_trans (withLine_frame s _) (enterCutOff_frame _)
  · exact withLine_frame s _

theorem agePeers_frame (s : State) : othersKept [.peers] s (agePeers s) := by
  unfold agePeers
  split <;> exact withPeers_frame s _

theorem emptyPeers_frame (s : State) : othersKept [.peers] s (emptyPeers s) := by
  unfold emptyPeers
  split <;> exact withPeers_frame s _

theorem settleTable_frame (s : State) : othersKept [.peers] s (settleTable s) := withPeers_frame s _

/-- A pass request writes the pass and the calculation unit alone (R86). -/
theorem requestPass_frame (s : State) : othersKept [.pass, .unit] s (requestPass s) := by
  unfold requestPass
  split
  · exact othersKept_append (withPass_frame s _) (withUnit_frame _ _)
  · exact othersKept_refl _ _
  · exact othersKept_mono (withPass_frame s _) (by simp)
  · exact othersKept_refl _ _

theorem trigger_frame (s : State) : othersKept [.pass, .unit] s (trigger s) := by
  unfold trigger
  split
  · exact requestPass_frame s
  · exact othersKept_refl _ _

theorem cutPass_frame (s : State) : othersKept [.unit, .pass] s (cutPass s) :=
  othersKept_append (withUnit_frame s _) (withPass_frame _ _)

theorem cutClimateJob_frame (s : State) : othersKept [.unit] s (cutClimateJob s) := withUnit_frame s _

theorem cutFilterJob_frame (s : State) : othersKept [.unit] s (cutFilterJob s) := withUnit_frame s _

theorem requestClimate_frame (i : EvalInputs) (s : State) : othersKept [.unit] s (requestClimate i s) :=
  withUnit_frame s _

theorem requestFilter_frame (p : FilterPair) (s : State) : othersKept [.unit] s (requestFilter p s) :=
  withUnit_frame s _

/-- Requests to the converter write climate sensing alone (R114). -/
theorem requestConversions_frame (rs : List (Source × Purpose)) (s : State) :
    othersKept [.clim] s (requestConversions rs s) := withClim_frame s _

/-- A store write request writes the service unit alone (R183). -/
theorem stopRestSampling_frame (s : State) : othersKept [.clim] s (stopRestSampling s) := withClim_frame s _

theorem takeSample_frame (x : FilterSample) (s : State) : othersKept [.filt, .unit] s (takeSample x s) := by
  unfold takeSample
  split
  · split
    · exact othersKept_append (withFilt_frame s _) (requestFilter_frame _ _)
    · exact othersKept_mono (withFilt_frame s _) (by simp)
  · exact othersKept_mono (withFilt_frame s _) (by simp)

theorem reportHalf_frame (side : Side) (s : State) : othersKept [.filt, .unit] s (reportHalf side s) := by
  unfold reportHalf
  split
  · exact takeSample_frame _ s
  · exact othersKept_refl _ s

theorem handReport_frame (s : State) : othersKept [.filt, .unit, .fan] s (handReport s) := by
  unfold handReport
  split
  · exact othersKept_append (reportHalf_frame _ s) (withFan_frame _ _)
  · exact othersKept_refl _ s

theorem requestWrite_frame (s : State) : othersKept [.svc] s (requestWrite s) := by
  unfold requestWrite startWrite
  split <;> exact withSvc_frame s _

/-! ### The fan drive's operations -/

theorem enterFan_frame (st : FanState) (s : State) : othersKept [.fan] s (enterFan st s) :=
  withFan_frame s _

theorem enterCoast_frame (s : State) : othersKept [.fan] s (enterCoast s) :=
  othersKept_trans (withFan_frame s _) (enterFan_frame .coast _)

theorem rampDownTo_frame (d : Dir) (s : State) : othersKept [.fan] s (rampDownTo d s) :=
  othersKept_trans (withFan_frame s _) (withFan_frame _ _)

theorem closeFlap_frame (s : State) : othersKept [.fan] s (closeFlap s) :=
  othersKept_trans (withFan_frame s _) (withFan_frame _ _)

theorem openFlapFor_frame (side : Side) (s : State) : othersKept [.fan] s (openFlapFor side s) :=
  othersKept_trans (withFan_frame s _) (othersKept_trans (withFan_frame _ _) (withFan_frame _ _))

theorem compareWanted_frame (s : State) : othersKept [.fan] s (compareWanted s) := by
  unfold compareWanted
  split
  · split
    · exact openFlapFor_frame _ s
    · exact othersKept_refl _ _
  · split
    · exact othersKept_refl _ _
    · exact rampDownTo_frame _ s
  · exact othersKept_refl _ _

/-- A run request writes the fan drive alone (R97). -/
theorem fanRequest_frame (side : Side) (s : State) : othersKept [.fan] s (fanRequest side s) :=
  othersKept_trans (withFan_frame s _) (compareWanted_frame _)

theorem haltOwn_frame (s : State) : othersKept [.own] s (haltOwn s) := withOwn_frame s _

theorem fanStopped_frame (s : State) : othersKept [.own] s (fanStopped s) := by
  unfold fanStopped
  split
  · exact othersKept_refl _ _
  · exact haltOwn_frame s

/-- A stop request writes the fan drive, and the own record where the fan stands still (R2, R97, R111). -/
theorem stopRequest_frame (s : State) : othersKept [.fan, .own] s (stopRequest s) := by
  have fan {t u : State} (h : othersKept [.fan] t u) : othersKept [.fan, .own] t u :=
    othersKept_mono h (by simp)
  have own {t u : State} (h : othersKept [.own] t u) : othersKept [.fan, .own] t u :=
    othersKept_mono h (by simp)
  unfold stopRequest
  dsimp only
  split
  · exact othersKept_trans (fan (withFan_frame s _)) (own (fanStopped_frame _))
  · exact fan (othersKept_trans (withFan_frame s _) (rampDownTo_frame _ _))
  · exact fan (othersKept_trans (withFan_frame s _) (rampDownTo_frame _ _))
  · exact fan (othersKept_trans (withFan_frame s _) (withFan_frame _ _))
  · exact fan (othersKept_trans (withFan_frame s _) (withFan_frame _ _))
  · exact othersKept_trans
      (fan (othersKept_trans (withFan_frame s _)
        (othersKept_trans (withFan_frame _ _) (closeFlap_frame _)))) (own (fanStopped_frame _))
  · exact othersKept_trans (fan (withFan_frame s _)) (own (fanStopped_frame _))

/-- A recomputation of C writes the own record, and may queue a CHANGE and ask for a pass (R109, R110). -/
theorem recomputeCeil_frame (s : State) :
    othersKept [.own, .line, .pass, .unit] s (recomputeCeil s) := by
  unfold recomputeCeil announceFall queueChange
  split
  · exact othersKept_refl _ _
  · have h1 : othersKept [.own, .line, .pass, .unit] s (writeCeil (ceilingFor s s.own.direction) s) :=
      othersKept_mono (withOwn_frame s _) (by simp)
    refine othersKept_trans (othersKept_trans h1 ?_) (othersKept_mono (trigger_frame _) (by simp))
    split
    · split
      · exact othersKept_mono (queueNotice_frame _ _) (by simp)
      · exact othersKept_refl _ _
    · exact othersKept_refl _ _

/-- HALT inside a half-cycle (R3, R85, R97, R110). -/
theorem haltInside_frame (s : State) :
    othersKept [.own, .line, .pass, .unit, .fan] s (haltInside s) := by
  unfold haltInside queueChange
  split
  · exact othersKept_refl _ _
  · have h1 : othersKept [.own, .line, .pass, .unit, .fan] s (haltOwn s) :=
      othersKept_mono (haltOwn_frame s) (by simp)
    refine othersKept_trans (othersKept_trans h1 ?_) (othersKept_mono (stopRequest_frame _) (by simp))
    split
    · exact othersKept_trans (othersKept_mono (queueNotice_frame _ _) (by simp))
        (othersKept_mono (trigger_frame _) (by simp))
    · exact othersKept_refl _ _

theorem latchFanStall_frame (cause : StallCause) (s : State) :
    othersKept [.own, .line, .pass, .unit, .fan] s (latchFanStall cause s) := by
  unfold latchFanStall
  split
  · exact othersKept_mono (withFan_frame s _) (by simp)
  · exact othersKept_trans (othersKept_mono (withFan_frame s _) (by simp)) (haltInside_frame _)

end Sys2Proof.Laws
end

