-- ==== Sys2Proof/Laws/Line.lean ====
section
/-! SUPPORT. What the bit sampler and frame assembly answer: rows of slices in a row, a bit driven for its whole bit
time, a PASSIVE line, and each kind of bit in a frame (R20 to R23). -/

namespace Sys2Proof.Laws

open Sys2Proof.Machine

/-! ### The bit sampler -/

/-- The sampler after a row of slices. -/
def clockAfter (c : BitClock) (levels : List LineLevel) : BitClock := levels.foldl BitClock.next c

@[simp] theorem clockAfter_nil (c : BitClock) : clockAfter c [] = c := rfl

theorem clockAfter_append (c : BitClock) (xs ys : List LineLevel) :
    clockAfter c (xs ++ ys) = clockAfter (clockAfter c xs) ys := List.foldl_append

/-- The bits of two rows of slices are those of the first and those the sampler reads on from there. -/
theorem readBits_append (c : BitClock) (xs ys : List LineLevel) :
    readBits c (xs ++ ys) = readBits c xs ++ readBits (clockAfter c xs) ys := by
  induction xs generalizing c with
  | nil => rfl
  | cons x xs ih =>
    simp only [List.cons_append, readBits, ih, clockAfter, List.foldl_cons]
    split <;> rfl

/-- At the end of a bit time, a bit driven for its whole bit time is read as the value driven. -/
theorem readBits_driveBit (c : BitClock) (v : Bool) (h : c.slice = 16) :
    readBits c (driveBit v) = [{ start := c.slicesRead, edge := c.level && !v, value := v }] := by
  obtain ⟨n, l, sl, st, e, a, b⟩ := c
  subst h
  cases v <;> cases l <;>
    simp [driveBit, bitSlices, List.replicate, readBits, BitClock.next, majority]

/-- And it leaves the sampler at the end of a bit time. -/
theorem clockAfter_driveBit (c : BitClock) (v : Bool) (h : c.slice = 16) :
    (clockAfter c (driveBit v)).slice = 16 ∧ (clockAfter c (driveBit v)).level = v ∧
      (clockAfter c (driveBit v)).slicesRead = c.slicesRead + 16 := by
  obtain ⟨n, l, sl, st, e, a, b⟩ := c
  subst h
  cases v <;> cases l <;>
    simp [driveBit, bitSlices, List.replicate, clockAfter, BitClock.next]

/-- On a PASSIVE line the slices count on from 1 to 16, whatever was read before. -/
theorem next_passive (c : BitClock) :
    (c.next true).level = true ∧ (c.next true).slicesRead = c.slicesRead + 1 ∧
      (c.next true).slice = if c.slice = 16 then 1 else c.slice + 1 := by
  by_cases h : c.slice = 16 <;> simp [BitClock.next, h]

/-- A PASSIVE→ACTIVE edge is slice 1 of the bit then beginning, at whatever slice it falls (R20). -/
theorem next_edge (c : BitClock) (h : c.level = true) :
    (c.next false).slice = 1 ∧ (c.next false).start = c.slicesRead ∧ (c.next false).edge = true := by
  simp [BitClock.next, h]

/-! ### Frame assembly -/

/-- Between characters a bit without an edge begins nothing, while the gap limit is not passed (R21, R22). -/
theorem takeBit_gap (chars : List Byte) (limit : Nat) (b : ReadBit) (he : b.edge = false)
    (hl : chars = [] ∨ b.start ≤ limit) :
    takeBit { chars := chars, bits := none, limit := limit } b =
      .goesOn { chars := chars, bits := none, limit := limit } := by
  have : ¬ (chars ≠ [] ∧ limit < b.start) := fun ⟨h1, h2⟩ => hl.elim h1 fun h => by omega
  simp [takeBit, takeGapBit, he, this]

/-- A start bit begins a character (R21, R22). -/
theorem takeBit_start (chars : List Byte) (limit : Nat) (b : ReadBit) (he : b.edge = true)
    (hv : b.value = false) (hl : chars = [] ∨ b.start ≤ limit) :
    takeBit { chars := chars, bits := none, limit := limit } b =
      .goesOn { chars := chars, bits := some [], limit := limit } := by
  have : ¬ (chars ≠ [] ∧ limit < b.start) := fun ⟨h1, h2⟩ => hl.elim h1 fun h => by omega
  simp [takeBit, takeGapBit, he, hv, this]

/-- Eight data bits are collected (R21). -/
theorem takeBit_data (chars : List Byte) (limit : Nat) (bits : List Bool) (b : ReadBit)
    (h : bits.length < 8) :
    takeBit { chars := chars, bits := some bits, limit := limit } b =
      .goesOn { chars := chars, bits := some (bits ++ [b.value]), limit := limit } := by
  simp [takeBit, takeCharBit, h]

/-- A PASSIVE stop bit ends the character (R21). -/
theorem takeBit_stop (chars : List Byte) (limit : Nat) (bits : List Bool) (b : ReadBit)
    (h : bits.length = 8) (hv : b.value = true) :
    takeBit { chars := chars, bits := some bits, limit := limit } b =
      takeChar (chars ++ [BitVec.ofNat 8 (bitsToNat bits)]) (b.start + 64) := by
  simp [takeBit, takeCharBit, h, hv, bitSlices]

/-- The data bits of a character spell it. -/
theorem bitsToNat_charBits (b : Byte) :
    BitVec.ofNat 8 (bitsToNat [b.getLsbD 7, b.getLsbD 6, b.getLsbD 5, b.getLsbD 4, b.getLsbD 3, b.getLsbD 2,
      b.getLsbD 1, b.getLsbD 0]) = b := by
  revert b; decide

end Sys2Proof.Laws
end

