-- ==== Sys2Proof/Laws/Ops.lean ====
section
/-! SUPPORT. What the shared operations answer: ordered insertion, the queues, requests, the fan and own-record writes. -/

namespace Sys2Proof.Laws

open Sys2Proof.Machine Sys2Proof.Safety

/-! ### Ordered insertion -/

section
variable {α : Type} (key : α → Int)

theorem insertOrd_perm (a : α) (xs : List α) : (insertOrd key a xs).Perm (a :: xs) := by
  induction xs with
  | nil => exact List.Perm.refl _
  | cons b bs ih =>
    unfold insertOrd
    split
    · exact List.Perm.refl _
    · exact (List.Perm.cons b ih).trans (List.Perm.swap a b bs)

theorem mem_insertOrd {a x : α} {xs : List α} : x ∈ insertOrd key a xs ↔ x = a ∨ x ∈ xs := by
  rw [(insertOrd_perm key a xs).mem_iff, List.mem_cons]

@[simp] theorem insertOrd_length (a : α) (xs : List α) : (insertOrd key a xs).length = xs.length + 1 := by
  rw [(insertOrd_perm key a xs).length_eq, List.length_cons]

/-- Insertion of a key that the list does not hold keeps the keys strictly ascending. -/
theorem insertOrd_ascending {a : α} {xs : List α} (h : xs.Pairwise fun x y => key x < key y)
    (hne : ∀ x ∈ xs, key x ≠ key a) : (insertOrd key a xs).Pairwise fun x y => key x < key y := by
  induction xs with
  | nil => simp [insertOrd]
  | cons b bs ih =>
    obtain ⟨hb, hbs⟩ := List.pairwise_cons.mp h
    unfold insertOrd
    split
    · rename_i hab
      refine List.pairwise_cons.mpr ⟨fun x hx => ?_, h⟩
      rcases List.mem_cons.mp hx with rfl | hx
      · exact hab
      · exact Int.lt_trans hab (hb x hx)
    · rename_i hab
      have hne' := hne b (by simp)
      have hba : key b < key a := by omega
      refine List.pairwise_cons.mpr ⟨fun x hx => ?_, ih hbs fun x hx => hne x (by simp [hx])⟩
      rcases (mem_insertOrd key).mp hx with rfl | hx
      · exact hba
      · exact hb x hx

end

/-! ### The transmit queue -/

theorem mem_withoutClass {cls : NoticeClass} {q : List TxEntry} {e : TxEntry} :
    e ∈ withoutClass cls q ↔ e ∈ q ∧ e.cls ≠ cls := by
  simp [withoutClass]

theorem entryOf_eq_none {cls : NoticeClass} {q : List TxEntry} :
    entryOf cls q = none ↔ ∀ e ∈ q, e.cls ≠ cls := by
  simp [entryOf]

@[simp] theorem newEntry_rank (cls : NoticeClass) (urgent : Bool) (node : Nat) (leave : Bool)
    (payload : List Byte) : (newEntry cls urgent node leave payload).rank = rankOf cls urgent node := rfl

/-- RANK is told apart by class and urgent bit among entries of one node of 4 bits (R25, R43). -/
theorem rank_class {a b : TxEntry} (ha : a.node ≤ 15) (hb : b.node ≤ 15) (h : a.rank = b.rank) :
    a.cls = b.cls := by
  have code (c d : NoticeClass) (hc : classCode c = classCode d) : c = d := by
    cases c <;> cases d <;> first | rfl | (exact absurd hc (by decide))
  have bit (u : Bool) : u.toNat ≤ 1 := by cases u <;> decide
  have := bit a.urgent
  have := bit b.urgent
  apply code
  unfold TxEntry.rank rankOf at h
  omega

/-- A charge leaves a line fault count of at most 64 (R39). -/
@[simp] theorem chargeLine_faultCount (s : State) :
    (chargeLine s).line.faultCount = min (s.line.faultCount + 4) 64 := by
  unfold chargeLine
  dsimp only
  split <;> rfl

/-! ### The peer table -/

theorem peerOf_withoutPeer (node : Nat) (rs : List PeerRecord) : peerOf node (withoutPeer node rs) = none := by
  simp [peerOf, withoutPeer]

/-- A written record is the one its node then has (R9). -/
theorem peerOf_putPeer (r : PeerRecord) (rs : List PeerRecord) : peerOf r.node (putPeer r rs) = some r := by
  have hnone : ∀ xs : List PeerRecord, (∀ x ∈ xs, x.node ≠ r.node) →
      peerOf r.node (insertOrd (fun x => (x.node : Int)) r xs) = some r := by
    intro xs
    induction xs with
    | nil => intro _; simp [insertOrd, peerOf]
    | cons b bs ih =>
      intro h
      unfold insertOrd
      split
      · simp [peerOf]
      · have hb := h b (by simp)
        have := ih fun x hx => h x (by simp [hx])
        simpa [peerOf, hb] using this
  exact hnone _ (by simp [withoutPeer])

/-- Writing a record leaves every other node's (R9). -/
theorem withoutPeer_putPeer (r : PeerRecord) (rs : List PeerRecord) :
    withoutPeer r.node (putPeer r rs) = withoutPeer r.node rs := by
  have h : ∀ xs : List PeerRecord, (∀ x ∈ xs, x.node ≠ r.node) →
      withoutPeer r.node (insertOrd (fun x => (x.node : Int)) r xs) = xs := by
    intro xs
    induction xs with
    | nil => intro _; simp [insertOrd, withoutPeer]
    | cons b bs ih =>
      intro hx
      have hb := hx b (by simp)
      have hbs : ∀ x ∈ bs, x.node ≠ r.node := fun x hm => hx x (by simp [hm])
      unfold insertOrd
      split
      · simpa [withoutPeer, hb] using hbs
      · have := ih hbs
        simpa [withoutPeer, hb] using this
  exact h _ (by simp [withoutPeer])

/-! ### Requests -/

/-- After a request the pass is owed: WAITING, or RUNNING WITH ONE MORE (R86). -/
theorem requestPass_owed (s : State) :
    (requestPass s).pass.state = .waiting ∨ (requestPass s).pass.state = .runningOneMore := by
  unfold requestPass
  split <;> simp_all

/-- A request changes nothing of the pass but its state (R86). -/
theorem requestPass_pass (s : State) :
    (requestPass s).pass = { s.pass with state := (requestPass s).pass.state } := by
  unfold requestPass
  split <;> simp

/-- A store write is then in progress (R183). -/
@[simp] theorem requestWrite_writing (s : State) : (requestWrite s).svc.writing.isSome = true := by
  unfold requestWrite startWrite
  split <;> simp_all

@[simp] theorem requestWrite_params (s : State) : (requestWrite s).svc.params = s.svc.params := by
  unfold requestWrite startWrite
  split <;> simp_all

/-! ### The fan drive and the own record -/

section
variable (st : FanState) (s : State)
@[simp] theorem enterFan_state : (enterFan st s).fan.state = st := rfl
@[simp] theorem enterFan_duty : (enterFan st s).fan.duty = s.fan.duty := rfl
@[simp] theorem enterFan_wanted : (enterFan st s).fan.wanted = s.fan.wanted := rfl
@[simp] theorem enterFan_target : (enterFan st s).fan.target = s.fan.target := rfl
@[simp] theorem enterFan_latch : (enterFan st s).fan.latch = s.fan.latch := rfl
@[simp] theorem enterFan_flap : (enterFan st s).fan.flap = s.fan.flap := rfl
@[simp] theorem enterFan_steps : (enterFan st s).fan.steps = 0 := rfl
@[simp] theorem enterFan_finding : (enterFan st s).fan.finding = .nothing := rfl
end

/-- The stopped fan's report leaves the fan drive as it is. -/
@[simp] theorem fanStopped_fan (s : State) : (fanStopped s).fan = s.fan := by
  unfold fanStopped haltOwn
  split <;> rfl

/-- A stop request wants HALT and clears the restart mark, in every fan state (R97, R111). -/
theorem stopRequest_wanted (s : State) :
    (stopRequest s).fan.wanted = .halt ∧ (stopRequest s).fan.restart = false := by
  unfold stopRequest
  dsimp only
  split <;>
    simp [rampDownTo, closeFlap, moveFlap, setTarget, enterFan]

/-- A recomputation leaves C at the ceiling of the direction (R4, R108, R109). -/
theorem recomputeCeil_ceil (s : State) :
    (recomputeCeil s).own.ceil = ceilingFor s s.own.direction := by
  unfold recomputeCeil
  split
  · rename_i h; exact h.symm
  · have ht (t : State) : (trigger t).own = t.own := trigger_frame t .own (by decide)
    have ha (n : Nat) (t : State) : (announceFall n t).own = t.own := by
      unfold announceFall queueChange
      split
      · split
        · exact queueNotice_frame _ t .own (by decide)
        · rfl
      · rfl
    rw [ht, ha]
    rfl

/-- The own record after HALT inside a half-cycle, from a direction that was not HALT (R3). -/
theorem haltInside_direction (s : State) : (haltInside s).own.direction = .halt := by
  have hs (t : State) (h : t.own.direction = .halt) : (stopRequest t).own.direction = .halt := by
    unfold stopRequest fanStopped haltOwn rampDownTo closeFlap moveFlap setTarget enterFan
    dsimp only
    split <;> (try split) <;> simp_all
  unfold haltInside
  split
  · assumption
  · apply hs
    have ht (t : State) : (trigger t).own = t.own := trigger_frame t .own (by decide)
    have hq (e : TxEntry) (t : State) : (queueNotice e t).own = t.own :=
      queueNotice_frame e t .own (by decide)
    split
    · rw [ht]
      unfold queueChange
      rw [hq]
      rfl
    · rfl

end Sys2Proof.Laws
end

