-- ==== Sys2Proof/WellFormed.lean ====
section
/-! DEFINITION. The checks a command's operands meet. -/

namespace Sys2Proof

/-- The levels of a frame begin at a PASSIVE→ACTIVE edge, so with ACTIVE (R21). -/
def Instr.frameEdgeOk : Instr → Bool
  | .frameReceived _ levels => levels.head? = some false
  | _ => true

/-- Two tachometer pulses are some time apart (R96). -/
def Instr.intervalOk : Instr → Bool
  | .tachometerPulse _ micros => micros ≠ 0
  | _ => true

/-- The check on a command's operands. No meaning depends on it. -/
def Instr.wellFormed (i : Instr) : Bool :=
  i.frameEdgeOk && i.intervalOk

end Sys2Proof
end

