-- ==== Sys2Proof/Tests/Slice0.lean ====
section
/-! SUPPORT. Tests: the operand checks on ill-formed terms, the spec's worked examples, and, for every obligation with
hypotheses, states and operands that meet them. -/

namespace Sys2Proof.Tests

open Sys2Proof.Machine Sys2Proof.Safety

/-! ### States for the tests -/

def modeBlock (m : Mode) : ModeControl :=
  { mode := m, startHold := none, setupWindow := none, strapInvalid := false, inactivity := none,
    setupFlush := none, leaveAsked := false }

/-- Station 3 with a sampled, idle line, right after START. -/
def idleState : State :=
  ((State.reset.withMode (modeBlock .start)).withOwn { State.reset.own with node := 3 }).withLine
    { State.reset.line with sampling := true, phase := .idle }

def phaseEntry : TxEntry := newEntry .phase false 3 false []

def leaveEntry : TxEntry := newEntry .phase false 3 true []

def claimEntry : TxEntry :=
  { newEntry .claim true 3 false [7, 4] with onLine := true }

def queuedState : State := idleState.withLine { idleState.line with txq := [phaseEntry] }

def sendingState : State :=
  idleState.withLine { idleState.line with phase := .sending, txq := [{ phaseEntry with onLine := true }] }

/-- Four entries, the highest of them a reply. -/
def fullState : State :=
  idleState.withLine { idleState.line with
    txq := [newEntry .change false 3 false [], newEntry .claim false 3 false [],
      newEntry .house false 3 false [], newEntry .reply false 3 false []] }

def mutedState : State := idleState.withLine { idleState.line with faultCount := 32 }

def cutOffState : State := idleState.withLine { idleState.line with faultCount := 64 }

/-- RUN at half-cycle 62, begun at count 100. -/
def runState : State :=
  ((idleState.withMode (modeBlock .run)).withOwn
    { idleState.own with
      k := some 62, instant := some 100, direction := .inward, want := 40, ceil := 120, flow := 40 }).withRev
    { State.reset.rev with
      next := some 71780, gather := some 3172, claimWindow := some 10340, statusTimer := some 5220 }
  |>.withClim { State.reset.clim with midPoint := some 35940, endPoint := some 70756 }

def claimSendingState : State :=
  (runState.withOwn { runState.own with k := some 7 }).withLine
    { idleState.line with phase := .sending, txq := [claimEntry] }

def withFrame (s : State) (f : RxFrame) : State := s.withLine { s.line with rxq := [f] }

/-- The PHASE of station 4 in 03 section 3.6. -/
def sampleAnnouncement : Announcement :=
  { k := 62, direction := .inward, lead := false, quality := .crystal, late := false, stage := .trim,
    want := 40, ceil := 60, filter := .clean, level := .base, line := .openLine, leaving := false,
    cond := 8 }

/-- Its frame as the line brings it: RANK 68 and eight payload characters. -/
def phaseFrame : RxFrame :=
  { rank := 68, payload := [62, 2, 40, 60, 16, 8, 0, 150], stamp := 500300 }

def phaseState : State :=
  withFrame
    ((runState.withOwn { runState.own with instant := some 500000 }).withRev
      { runState.rev with next := some 571680 }) phaseFrame

def joinState : State :=
  (idleState.withMode (modeBlock .join)).withRev
    { State.reset.rev with listening := some 149432, next := some 71780 }

def joinPhaseState : State := withFrame joinState phaseFrame

def leaveFrame : RxFrame :=
  { rank := 68, payload := [62, 2, 40, 60, 18, 8, 0, 150], stamp := 500300 }

def leaveState : State := withFrame phaseState leaveFrame

def changeFrame : RxFrame := { rank := 4, payload := [62, 2, 40, 60, 16, 8], stamp := 500300 }

def changeState : State := withFrame phaseState changeFrame

/-- A STATUS of station 4 with outdoor −3.5 °C in the rear facade. -/
def statusFrame : RxFrame :=
  { rank := 132, payload := [255, 221, 0, 210, 48, 153, 0, 128], stamp := 500300 }

def statusState : State := withFrame phaseState statusFrame

def claimFrame : RxFrame := { rank := 52, payload := [62, 4], stamp := 500300 }

def claimState : State := withFrame phaseState claimFrame

/-- A frame of a class with one payload character. -/
def malformedFrame (c : NoticeClass) : RxFrame :=
  { rank := byteOf (32 * classCode c + 4), payload := [9], stamp := 7 }

def malformedState (c : NoticeClass) : State := withFrame runState (malformedFrame c)

/-- LEVEL RAISED for 60 minutes from wall control 13 (03 section 3.6). -/
def levelFrame : RxFrame := { rank := 109, payload := [0, 0, 2, 6], stamp := 7 }

def levelState : State := withFrame runState levelFrame

def inMode (m : Mode) : State := runState.withMode (modeBlock m)

def restFrame : RxFrame := { rank := 109, payload := [0, 1, 6, 0], stamp := 7 }

def restState (m : Mode) : State := withFrame (inMode m) restFrame

def resumeFrame : RxFrame := { rank := 109, payload := [0, 2, 0, 0], stamp := 7 }

def resumeState (m : Mode) : State := withFrame (inMode m) resumeFrame

/-- A WAKE of station 5. -/
def wakeFrame : RxFrame := { rank := 101, payload := [0, 3, 0, 0], stamp := 7 }

def wakeState (m : Mode) : State := withFrame (inMode m) wakeFrame

/-- A SERVICE REQUEST of kind `kind` from service tool 14. -/
def requestFrame (kind : Nat) : RxFrame :=
  { rank := 174, payload := [3, byteOf kind, if kind = 0 then 0 else 4, if kind = 0 then 0 else 130],
    stamp := 7 }

def requestState (m : Mode) (kind : Nat) : State := withFrame (inMode m) (requestFrame kind)

def restingState : State :=
  ((idleState.withMode (modeBlock .rest)).withDemand { State.reset.demand with restTimer := some 9 }).withClim
    { State.reset.clim with restSampling := some 61449 }

def pressedState : State :=
  runState.withDemand { State.reset.demand with button := some { since := 100, timed := true } }

/-- The newest entry of group 13 in 04 section 4.11. -/
def adoptEntry : TallyEntry :=
  { node := 4, kp := 13, agreeing := false, offset := none, tr := 3030608 }

/-- Station 3 before the expiry of 04 section 4.11. -/
def adoptState : State :=
  (runState.withOwn { runState.own with k := some 200, instant := some 3000000 }).withRev
    { State.reset.rev with
      next := some 3071680
      tally := [{ node := 2, kp := 200, agreeing := true, offset := some 10, tr := 3000010 },
        { node := 6, kp := 200, agreeing := true, offset := some (-8), tr := 2999992 },
        { node := 1, kp := 13, agreeing := false, offset := none, tr := 3030600 },
        { node := 5, kp := 13, agreeing := false, offset := none, tr := 3030608 }, adoptEntry] }

/-- The inputs of the evaluation of 07 section 7.5. -/
def sampleInputs : EvalInputs :=
  { stage := .watch, tOutdoor := some (-80), source := .own, tSup := some 142, tRoom := some 210,
    tOe := some (-35), rh := some 48, prevRh := some 46, outerLatched := false, afterIn := true }

def fanState (st : FanState) : State :=
  runState.withFan { State.reset.fan with
    state := st
    wanted := .inward
    duty := 100
    flap := if st = .stopped ∨ st = .flapClosing then .closed else .openFlap }

/-- A second stall, at most 10 min after the first. -/
def stalledState : State :=
  (fanState .running).withFan { (fanState .running).fan with stallSteps := 13, stallHistory := some 0 }

def flapState : State :=
  (fanState .flapOpening).withFan { (fanState .flapOpening).fan with travel := some 9 }

/-- A conversion of a source for the current set in progress. -/
def convertingState (src : Source) : State :=
  runState.withClim { runState.clim with
    converting := some { source := src, purposes := [.endOfHalf .current] } }

/-- Resting after the flush at a WET station, with a REST reading of RH in progress. -/
def humidState : State :=
  (restingState.withOwn { restingState.own with room := .wet }).withClim
    { restingState.clim with converting := some { source := .rh, purposes := [.rest] } }

/-- A window of 120 steps in RUNNING to the inside, 310 ‰ at 1000 rpm (10 section 10.8), and the sample before it. -/
def sampledState : State :=
  (runState.withFan { runState.fan with
    window := List.replicate 120 { duty := 310, speed := 1000, state := .running, drive := .inward } }).withFilt
    { runState.filt with held := some { side := .outward, ratio := 300, k := 61 } }

/-- RH, the last conversion that the evaluation of an OUT half-cycle waits for. -/
def dueState : State :=
  (convertingState .rh).withClim { (convertingState .rh).clim with
    awaiting := some { sources := [.rh], half := .current, previous := emptySet } }

/-- A station in a frost stage with the evaluation of some inputs on the engine. -/
def evaluating (st : FrostStage) (x : EvalInputs) : State :=
  (runState.withUnit { runState.unit with engine := .climate x 0 3 false }).withFrost
    { runState.frost with stage := st }


/-- The next state of an outcome. -/
def after (i : Instr) (s : State) : State :=
  match exec i s with
  | .next u => u
  | _ => State.reset

/-! ### The operand checks refuse ill-formed terms -/

theorem test_passive_frame_refused :
    Instr.frameEdgeOk (.frameReceived 0 [true, false]) = false := by decide

theorem test_zero_interval_refused : Instr.intervalOk (.tachometerPulse 0 0) = false := by decide

theorem test_ill_formed_refused :
    Instr.wellFormed (.tachometerPulse 0 0) = false ∧ Instr.wellFormed (.frameReceived 0 []) = false ∧
      Instr.wellFormed (.fanStep) = true := by decide

/-! ### The step and the reset state -/

theorem test_no_word_is_a_command : decodeTableWord 8 3 = none := by decide

theorem test_idle_step_counts :
    (match step State.reset with
      | .next u => u.time.now
      | _ => 0) = 1 := by decide

theorem test_front_command_runs :
    (match step (State.reset.withPending [.crystalReady 5, .fanStep]) with
      | .next u => (u.time.crystalReady, u.pending)
      | _ => (false, [])) = (true, [.fanStep]) := by decide

/-- The hold ends with a ready crystal and NODE 6: the SETUP window opens, the store is blank (R176 to R178). -/
theorem test_hold_end :
    let u := after (.startHoldEnd { node := 6, lead := true, facade := .rear, room := .wet })
        (after (.crystalReady 5) State.reset)
    u.own.node = 6 ∧ u.mode.setupWindow = some 12288 ∧ u.time.quality = .crystal ∧
      u.svc.storeDefault = true ∧ u.cond.leading = 3 := by decide

/-! ### The line (02 sections 2.2, 2.3, 2.9, 2.10) -/

theorem test_frame_durations :
    [0, 1, 2, 3, 4, 5, 6, 7, 8].map frameCounts = [3, 4, 5, 6, 7, 9, 10, 11, 12] := by decide

theorem test_ranks :
    rankOf .claim true 7 = 55 ∧ rankOf .phase false 4 = 68 ∧ rankOf .status false 2 = 130 := by decide

/-- x⁸ + x² + x + 1 from 0: the CRC of the one character 1 is the generator's low part, worked by hand. -/
theorem test_crc : crc8 [1] = 7 ∧ crc8 [0x80] = 0x89 := by decide

/-- Levels of one bit time: PASSIVE from slice 8 on, and from slice 9 on (R20). -/
theorem test_majority :
    (readBits .atRest (List.replicate 7 false ++ List.replicate 9 true)).map
        (fun b => b.value) = [true] ∧
      (readBits .atRest (List.replicate 8 false ++ List.replicate 8 true)).map
        (fun b => b.value) = [false] := by decide

/-- An ACTIVE bit that comes three slices late is read from its own edge on (R20). -/
theorem test_resynchronisation :
    (readBits .atRest (driveBit false ++ driveBit true ++ List.replicate 3 true ++ driveBit false)).map
        (fun b => (b.start, b.edge, b.value)) =
      [(0, true, false), (16, false, true), (35, true, false)] := by decide

/-- An ACTIVE level of three slices is a false start, and is not counted (R21). -/
theorem test_false_start :
    readFrame [false, false, false] = .falseStart ∧
      (after (.frameReceived 1 [false, false, false]) idleState).line =
        { idleState.line with phase := .busy } := by decide

/-- A lone start bit: the rest of its character reads PASSIVE, and the gap limit is passed (R22). -/
theorem test_gap : readFrame (driveBit false) = .abandoned := by decide +kernel

/-- Step 4 of 02 section 2.10: the count reaches 32 and the reply is removed and counted. -/
theorem test_muted_by_readback_error :
    let u := after (.readbackError 1) (sendingState.withLine { sendingState.line with
        faultCount := 28
        txq := [{ phaseEntry with onLine := true, attempts := 1 }, newEntry .reply false 3 false []] })
    u.line.faultCount = 32 ∧ u.line.drops = 1 ∧ u.line.txq = [{ phaseEntry with attempts := 2 }] := by
  decide

/-- Step 7 of 02 section 2.10: the third readback error drops the PHASE. -/
theorem test_third_error_drops :
    let u := after (.readbackError 1) (sendingState.withLine { sendingState.line with
        faultCount := 31, drops := 1, txq := [{ phaseEntry with onLine := true, attempts := 2 }] })
    u.line.faultCount = 35 ∧ u.line.drops = 2 ∧ u.line.txq = [] := by decide

/-! ### Notices (03 section 3.6) -/

theorem test_phase_decoded : decodeNotice phaseFrame = some (.phase sampleAnnouncement 150) := by decide

theorem test_direction_code_3_rejected :
    decodeNotice { rank := 6, payload := [62, 192, 40, 60, 16, 8], stamp := 0 } = none := by decide

theorem test_level_senders :
    decodeNotice { rank := 108, payload := [0, 0, 2, 6], stamp := 0 } = none ∧
      decodeNotice levelFrame = some (.house (.level .raised 6)) := by decide

/-- t_r is 500,138, 138 counts after the own reversal instant. -/
theorem test_phase_measured :
    (after (.phaseNotice 500301) phaseState).rev.tally =
      [{ node := 4, kp := 62, agreeing := true, offset := some 138, tr := 500138 }] := by decide

/-- SET of P4 to 130 is clamped to 120 (11 section 11.6, step 4). -/
theorem test_set_clamps :
    let u := after (.set 1) (requestState .setup 1)
    u.svc.params[4] = 120 ∧ u.svc.changed = true ∧
      u.line.txq.map (fun e => e.payload) = [[14, 1, 1, 4, 120, 0, 0, 0]] := by decide

/-! ### The reversal cycle (04 sections 4.10 to 4.12) -/

theorem test_alignment :
    correction .crystal [{ node := 2, kp := 37, agreeing := true, offset := some 38, tr := 0 },
      { node := 4, kp := 37, agreeing := true, offset := some 10, tr := 0 },
      { node := 5, kp := 37, agreeing := true, offset := some (-30), tr := 0 },
      { node := 9, kp := 37, agreeing := true, offset := none, tr := 0 }] = 3 := by decide

theorem test_alignment_clamped :
    let tally : List TallyEntry := [{ node := 2, kp := 1, agreeing := true, offset := some 400, tr := 0 },
        { node := 4, kp := 1, agreeing := true, offset := some 300, tr := 0 }]
    correction .crystal tally = 64 ∧ correction .coarse tally = 175 := by decide

/-- The adopting expiry of 04 section 4.11. -/
theorem test_adoption :
    let u := after .reversalExpiry adoptState
    u.own.k = some 201 ∧ u.own.direction = .outward ∧ u.own.instant = some 3071680 ∧
      u.rev.next = some 3102288 ∧ u.rev.pendingNumber = some 14 ∧ u.rev.tally = [] := by decide

/-- The same with a newest t_r of 3,001,000: m = 2. -/
theorem test_adoption_second_multiple :
    let u := after .reversalExpiry (adoptState.withRev { adoptState.rev with
        tally := adoptState.rev.tally.dropLast ++ [{ adoptEntry with tr := 3001000 }] })
    u.rev.next = some 3144360 ∧ u.rev.pendingNumber = some 15 := by decide

/-- The end of listening with station 3's late PHASE heard last (04 section 4.12). -/
theorem test_listening_ends :
    let u := after .listenEnd (joinState.withRev { State.reset.rev with
        listening := some 646432, lastHeard := some { kp := 90, tr := 508540 } })
    u.rev.next = some 651900 ∧ u.rev.pendingNumber = some 92 ∧ u.mode.mode = .join := by decide

/-! ### The balance pass (05 sections 5.4 and 5.5) -/

def person (node : Nat) (side : Side) (want ceil : Nat) : Participant :=
  { node := node, side := side, want := want, ceil := ceil, stage := .noFrost }

theorem test_pass_case_a :
    ([1, 2, 3, 4, 5, 6].map fun n => selfFlow n [person 1 .inward 90 120, person 2 .outward 40 120,
      person 3 .inward 40 120, person 4 .outward 40 75, person 5 .outward 40 120, person 6 .inward 40 60]) =
      [some 90, some 61, some 40, some 49, some 60, some 40] := by decide

theorem test_pass_case_b :
    ([1, 3, 4, 5, 6].map fun n => selfFlow n [person 1 .outward 90 120, person 3 .outward 40 120,
      person 4 .inward 40 75, person 5 .inward 40 60, person 6 .outward 40 120]) =
      [some 71, some 32, some 75, some 60, some 32] := by decide

/-! ### The fan drive (06 sections 6.11 and 6.12) -/

theorem test_curve :
    curveSpeed State.reset 61 = 1398 ∧ curveSpeed State.reset 95 = 1983 ∧ curveSpeed State.reset 78 = 1700 := by
  decide

theorem test_inverse :
    inverseCurve State.reset 1700 = 78 ∧ inverseCurve State.reset 1550 = 69 := by decide

/-- The second stall latches FAN STALL, halts and queues an urgent CHANGE. -/
theorem test_second_stall :
    let u := after .stall stalledState
    u.fan.latch = some .spin ∧ u.own.direction = .halt ∧ u.own.flow = 0 ∧ u.cond.leading = 12 ∧
      u.line.txq.map (fun e => (e.cls, e.urgent)) = [(.change, true)] := by decide

/-- A COAST entered with the restart mark set goes on below 150 rpm though the mark has been cleared (R98). -/
theorem test_full_coast :
    (after .fanStep ((fanState .coast).withFan { (fanState .coast).fan with fullCoast := true, speed := 100 })).fan.finding
        = .nothing ∧
      (after .fanStep ((fanState .coast).withFan { (fanState .coast).fan with speed := 100 })).fan.finding
        = .coastOver := by decide

/-- An expiry that ends HALT leaves the sample window, one that ends IN empties it (R112). -/
theorem test_window_kept_in_halt :
    (after .reversalExpiry sampledState).fan.window = [] ∧
      (after .reversalExpiry (sampledState.withOwn { sampledState.own with direction := .halt })).fan.window.length
        = 120 := by decide +kernel

/-- A humid reading that completes after the station has woken and rests again does not wake it (R164). -/
theorem test_wake_forgets_reading :
    let u := after (.conversionComplete 3 90) (after (.houseRest 2) ((after .restTimerExpiry
      (humidState.withClim { humidState.clim with restSampling := none })).withLine
        { humidState.line with rxq := [restFrame] }))
    u.mode.mode = .rest ∧ u.own.rh = 90 ∧ u.demand.humidity = .off := by decide

/-! ### Climate sensing and the frost guard (07 section 7.5, 08 section 8.10) -/

theorem test_ratio : computedRatio sampleInputs = some 765 := by decide

/-- The evaluation of 07 section 7.5: T_oe −35 is severity 4, and the stage moves on. -/
theorem test_evaluation_applies :
    let u := after (.climateEvaluationComplete 1)
        ((runState.withUnit { runState.unit with engine := .climate sampleInputs 0 3 false }).withFrost
          { runState.frost with stage := .watch })
    u.own.outdoor = some (-80) ∧ u.own.ratio = 765 ∧ u.clim.ratios = [765] ∧ u.clim.lastRh = some 48 ∧
      u.frost.severity = 4 := by decide

/-- Three results out of range latch OUTER; the third finds the count at 2 (07 section 7.6). -/
theorem test_third_invalid_latches :
    let u := after (.conversionComplete 1 1100) ((convertingState .outer).withClim
        { (convertingState .outer).clim with
          outer := { held := some (-120), invalid := 2, latched := false, clearMark := false } })
    u.clim.outer = { held := some (-120), invalid := 0, latched := true, clearMark := false } ∧
      u.cond.leading = 11 := by decide

/-! ### Demand and filter (09 section 9.9, 10 section 10.8) -/

/-- A rise of 8 with RH 63 in a WET room starts the humidity boost before the threshold of 65. -/
theorem test_rise_starts_boost :
    let s := State.reset.withOwn { State.reset.own with room := .wet }
    (applyHumidity (some 63) (some 55) s).demand.humidity = .active ∧
      (applyHumidity (some 63) (some 58) s).demand.humidity = .off := by decide

/-- The evaluation of 10 section 10.8. -/
theorem test_filter_evaluation :
    let u := after (.filterEvaluationComplete 1) ((State.reset.withUnit { State.reset.unit with
        engine := .filter { ratioIn := 310, ratioOut := 300 } 0 2 false }).withFilt
          { State.reset.filt with refIn := 250, refOut := 260 })
    (u.filt.loadIn, u.filt.loadOut, u.filt.loading) = (240, 153, 196) ∧ u.filt.wind = 43 ∧
      u.filt.ceilIn = 91 ∧ u.filt.ceilOut = 101 ∧ u.filt.state = .clean := by decide

/-- A press of 2047 counts loads the button boost with 20 minutes (R153, R154). -/
theorem test_short_press :
    (after (.buttonRelease 2147) pressedState).demand.buttonBoost = some (2147 + 1228800) := by decide

/-! ### Witnesses: every hypothesis of a statement is met somewhere -/

theorem witness_time_base_advances_1 :
    State.reset.pending = [] := rfl

theorem witness_time_base_advances_2 :
    (∀ t b, Instr.crystalLoss 5 ≠ .powerOnReset t b) ∧
      exec (.crystalLoss 5) State.reset = .next (finish (loseCrystal (advanceTo 5 State.reset))) := ⟨by simp, rfl⟩

theorem witness_line_counts_stay_in_range :
    (countsInRange State.reset.line ∧ receiveQueueFits State.reset.line) ∧ step State.reset = .next (finish (tick State.reset)) := ⟨by unfold countsInRange receiveQueueFits; decide, rfl⟩

theorem witness_send_queue_keeps_its_shape :
    sendQueueWhole State.reset ∧ step State.reset = .next (finish (tick State.reset)) := ⟨by unfold sendQueueWhole sendQueueShaped oneOnLine replacementWaits ascending; decide, rfl⟩

theorem witness_flow_stays_below_its_ceiling :
    flowBounded State.reset.own ∧ step State.reset = .next (finish (tick State.reset)) := ⟨by unfold flowBounded; decide, rfl⟩

theorem witness_peer_table_stays_young_and_sorted :
    (tableAged State.reset.peers ∧ tableSorted State.reset.peers) ∧ step State.reset = .next (finish (tick State.reset)) := ⟨by unfold tableAged tableSorted ascending; decide, rfl⟩

theorem witness_flap_follows_the_fan_state :
    (flapFollows State.reset.fan ∧ driveInRange State.reset.fan) ∧ step State.reset = .next (finish (tick State.reset)) := ⟨by unfold flapFollows driveInRange; decide, rfl⟩

theorem witness_frost_counts_stay_in_range_1 :
    (frostInRange State.reset.frost ∧ causeHeld State.reset.frost) ∧ step State.reset = .next (finish (tick State.reset)) := ⟨by unfold frostInRange causeHeld; decide, rfl⟩

theorem witness_frost_counts_stay_in_range_2 :
    windowClosedInLockout State.reset.frost ∧ step State.reset = .next (finish (tick State.reset)) := ⟨by unfold windowClosedInLockout; decide, rfl⟩

theorem witness_sensing_and_filter_stay_in_range :
    (climateInRange State.reset.clim ∧ filterInRange State.reset.filt) ∧ step State.reset = .next (finish (tick State.reset)) := ⟨by unfold climateInRange filterInRange; decide, rfl⟩

theorem witness_run_work_ends_with_run :
    runWorkOnlyInRun State.reset ∧ step State.reset = .next (finish (tick State.reset)) := ⟨by unfold runWorkOnlyInRun; decide, rfl⟩

theorem witness_pass_balances_the_house_1 :
    onSide .inward [{ node := 1, side := .inward, want := 90, ceil := 120, stage := .noFrost }, { node := 2, side := .outward, want := 40, ceil := 120, stage := .noFrost }] ≠ [] ∧ onSide .outward [{ node := 1, side := .inward, want := 90, ceil := 120, stage := .noFrost }, { node := 2, side := .outward, want := 40, ceil := 120, stage := .noFrost }] ≠ [] := by decide

theorem witness_pass_balances_the_house_2 :
    (State.reset.withUnit { State.reset.unit with engine := .pass 0 2 false }).unit.engine = .pass 0 2 false := by decide

theorem witness_pass_balances_the_house_3 :
    ([{ node := 1, side := .inward, want := 90, ceil := 120, stage := .noFrost }, { node := 2, side := .outward, want := 40, ceil := 90, stage := .noFrost }] : List Participant).Pairwise (fun a b => a.node < b.node) ∧ onSide .outward [{ node := 1, side := .inward, want := 90, ceil := 120, stage := .noFrost }, { node := 2, side := .outward, want := 40, ceil := 90, stage := .noFrost }] ≠ [] ∧ workSum (onSide .outward [{ node := 1, side := .inward, want := 90, ceil := 120, stage := .noFrost }, { node := 2, side := .outward, want := 40, ceil := 90, stage := .noFrost }]) < workSum (onSide .inward [{ node := 1, side := .inward, want := 90, ceil := 120, stage := .noFrost }, { node := 2, side := .outward, want := 40, ceil := 90, stage := .noFrost }]) ∧ workSum (onSide .inward [{ node := 1, side := .inward, want := 90, ceil := 120, stage := .noFrost }, { node := 2, side := .outward, want := 40, ceil := 90, stage := .noFrost }]) - workSum (onSide .outward [{ node := 1, side := .inward, want := 90, ceil := 120, stage := .noFrost }, { node := 2, side := .outward, want := 40, ceil := 90, stage := .noFrost }]) ≤ headSum (onSide .outward [{ node := 1, side := .inward, want := 90, ceil := 120, stage := .noFrost }, { node := 2, side := .outward, want := 40, ceil := 90, stage := .noFrost }]) := by decide

theorem witness_pass_balances_the_house_4 :
    ([{ node := 1, side := .inward, want := 90, ceil := 120, stage := .noFrost }, { node := 2, side := .outward, want := 40, ceil := 60, stage := .noFrost }] : List Participant).Pairwise (fun a b => a.node < b.node) ∧ onSide .outward [{ node := 1, side := .inward, want := 90, ceil := 120, stage := .noFrost }, { node := 2, side := .outward, want := 40, ceil := 60, stage := .noFrost }] ≠ [] ∧ workSum (onSide .outward [{ node := 1, side := .inward, want := 90, ceil := 120, stage := .noFrost }, { node := 2, side := .outward, want := 40, ceil := 60, stage := .noFrost }]) < workSum (onSide .inward [{ node := 1, side := .inward, want := 90, ceil := 120, stage := .noFrost }, { node := 2, side := .outward, want := 40, ceil := 60, stage := .noFrost }]) ∧ workSum (onSide .inward [{ node := 1, side := .inward, want := 90, ceil := 120, stage := .noFrost }, { node := 2, side := .outward, want := 40, ceil := 60, stage := .noFrost }]) - workSum (onSide .outward [{ node := 1, side := .inward, want := 90, ceil := 120, stage := .noFrost }, { node := 2, side := .outward, want := 40, ceil := 60, stage := .noFrost }]) > headSum (onSide .outward [{ node := 1, side := .inward, want := 90, ceil := 120, stage := .noFrost }, { node := 2, side := .outward, want := 40, ceil := 60, stage := .noFrost }]) := by decide

theorem witness_frames_read_as_driven_1 :
    ([1, 2, 3, 4, 5, 6, 7, 8] : List Byte).length ≤ 8 := by decide

theorem witness_frames_read_as_driven_2 :
    1 ≤ 7 ∧ 7 ≤ 7 := by decide

theorem witness_announcements_decode_as_sent_1 :
    1 ≤ 12 ∧ 12 ≤ 12 ∧ 4095 < 4096 ∧ 7 ≤ 7 ∧ sampleAnnouncement.want < 256 ∧ sampleAnnouncement.ceil < 256 ∧ sampleAnnouncement.cond ≤ 13 := by decide

theorem witness_announcements_decode_as_sent_2 :
    0 ≤ 15 ∧ 12 ≤ 15 ∧ 13 ≤ 15 ∧ 15 ≤ 15 := by decide

theorem witness_announcements_decode_as_sent_3 :
    1 ≤ 1 ∧ 1 ≤ 12 ∧ 12 ≤ 12 := by decide

theorem witness_announcements_decode_as_sent_4 :
    -32768 ≤ State.reset.own.outdoor.getD 0 ∧ State.reset.own.outdoor.getD 0 ≤ 32767 ∧ -32768 ≤ State.reset.own.roomTemp.getD 0 ∧ State.reset.own.roomTemp.getD 0 ≤ 32767 := by decide

theorem witness_hold_end_reads_straps_and_store :
    let s : State := State.reset; let i : Count := 2048; s.mode.startHold = some i := by decide

theorem witness_crystal_and_tachometer_inputs_3 :
    let micros : Nat := 1; 0 < micros := by decide

theorem witness_crystal_and_tachometer_inputs_4 :
    let s : State := State.reset.withFan { State.reset.fan with lastPulse := some 9 }; let i : Count := 9; s.fan.lastPulse = some i := by decide

theorem witness_idle_frames_and_abandonment_1 :
    let s : State := State.reset.withLine { State.reset.line with sampling := true }; s.line.sampling = true ∧ s.line.phase = .busy := by decide

theorem witness_idle_frames_and_abandonment_2 :
    let s : State := idleState; s.line.sampling = true ∧ s.line.phase = .idle := by decide

theorem witness_idle_frames_and_abandonment_3 :
    let s : State := idleState; s.line.sampling = true ∧ (s.line.phase = .idle ∨ s.line.phase = .receiving) := by decide

theorem witness_good_frames_pass_the_filters_1 :
    let payload : List Byte := [1, 2, 3, 4, 5, 6, 7, 8]; let s : State := idleState; payload.length ≤ 8 ∧ s.line.sampling = true ∧ (s.line.phase = .idle ∨ s.line.phase = .receiving) := by decide

theorem witness_good_frames_pass_the_filters_2 :
    let levels : List LineLevel := driveBit false; let s : State := idleState; (readFrame levels = .checkFailure ∨ readFrame levels = .abandoned) ∧ s.line.sampling = true ∧ (s.line.phase = .idle ∨ s.line.phase = .receiving) := by decide +kernel

theorem witness_good_frames_pass_the_filters_3 :
    let levels : List LineLevel := [false, false, false]; let s : State := idleState; readFrame levels = .falseStart ∧ s.line.sampling = true ∧ (s.line.phase = .idle ∨ s.line.phase = .receiving) := by decide +kernel

theorem witness_send_attempt_offers_the_lowest_rank :
    let s : State := queuedState; let e : TxEntry := phaseEntry; s.line.sampling = true ∧ s.line.phase = .idle ∧ s.line.faultCount < 64 ∧ s.line.txq.find? (fun x => !x.withdrawn) = some e := by decide

theorem witness_lost_arbitration_keeps_the_entry :
    let s : State := sendingState; let e : TxEntry := { phaseEntry with onLine := true }; s.line.phase = .sending ∧ s.line.txq.find? (fun x => x.onLine) = some e ∧ ¬ (lineState s = .muted ∧ mutedClass e.cls = true) ∧ s.mode.setupFlush = none ∧ s.demand.flush = none := by decide

theorem witness_readback_errors_charge_and_drop_1 :
    let s : State := sendingState; let e : TxEntry := { phaseEntry with onLine := true }; s.line.phase = .sending ∧ s.line.txq.find? (fun x => x.onLine) = some e ∧ e.withdrawn = false ∧ s.line.replacement = none ∧ s.line.faultCount + 4 < 32 ∧ s.mode.setupFlush = none ∧ s.demand.flush = none := by decide

theorem witness_readback_errors_charge_and_drop_2 :
    let s : State := sendingState; let e : TxEntry := { phaseEntry with onLine := true }; s.line.phase = .sending ∧ s.line.txq.find? (fun x => x.onLine) = some e := by decide

theorem witness_readback_errors_charge_and_drop_3 :
    let s : State := sendingState; let e : TxEntry := { phaseEntry with onLine := true }; s.line.phase = .sending ∧ s.line.txq.find? (fun x => x.onLine) = some e ∧ e.withdrawn = false ∧ s.line.replacement = none ∧ lineState s = .openLine ∧ s.mode.setupFlush = none ∧ s.demand.flush = none := by decide

theorem witness_clean_sends_leave_and_report_1 :
    let s : State := sendingState; let e : TxEntry := { phaseEntry with onLine := true }; s.line.phase = .sending ∧ s.line.txq.find? (fun x => x.onLine) = some e ∧ s.mode.setupFlush = none ∧ s.demand.flush = none := by decide

theorem witness_clean_sends_leave_and_report_2 :
    let t : Count := 105; let s : State := claimSendingState; let e : TxEntry := claimEntry; let k : HalfNo := 7; let severity : Byte := 4; let i : Count := 100; s.line.phase = .sending ∧ s.line.txq.find? (fun x => x.onLine) = some e ∧ e.cls = .claim ∧ e.payload = [k, severity] ∧ s.mode.mode = .run ∧ s.own.k = some k ∧ s.own.instant = some i ∧ 0 ≤ Count.since (Count.earlier (advanceTo t s).time.now 5) i ∧ Count.since (Count.earlier (advanceTo t s).time.now 5) i < 10240 ∧ (∀ x ∈ s.frost.claims, x.node ≠ s.own.node) := by decide

theorem witness_line_fault_limits_act_at_once_1 :
    let s : State := idleState; s.line.sampling = true ∧ s.line.phase ≠ .sending ∧ ¬ (s.mode.mode = .start ∧ s.mode.strapInvalid = true) ∧ (s.mode.mode = .run ∨ s.line.faultCount + 4 < 32) ∧ s.mode.setupFlush = none ∧ s.demand.flush = none := by decide

theorem witness_line_fault_limits_act_at_once_2 :
    let s : State := State.reset.withMode { State.reset.mode with startHold := none, strapInvalid := true }; s.mode.mode = .start ∧ s.mode.strapInvalid = true := by decide

theorem witness_line_fault_limits_act_at_once_3 :
    let s : State := sendingState.withLine { sendingState.line with faultCount := 60 }; let e : TxEntry := { phaseEntry with onLine := true }; s.line.phase = .sending ∧ s.line.txq.find? (fun x => x.onLine) = some e ∧ s.line.faultCount < 64 ∧ 64 ≤ s.line.faultCount + 4 ∧ e.withdrawn = false ∧ s.mode.setupFlush = none ∧ s.demand.flush = none := by decide

theorem witness_line_fault_limits_act_at_once_4 :
    let s : State := sendingState.withLine { sendingState.line with faultCount := 28 }; let e : TxEntry := { phaseEntry with onLine := true }; s.line.phase = .sending ∧ s.line.txq.find? (fun x => x.onLine) = some e ∧ s.line.faultCount < 32 ∧ 32 ≤ s.line.faultCount + 4 ∧ e.withdrawn = false ∧ s.line.replacement = none ∧ s.mode.setupFlush = none ∧ s.demand.flush = none := by decide

theorem witness_line_fault_limits_act_at_once_5 :
    let s : State := idleState.withLine { idleState.line with cutOff := some 5, faultCount := 64 }; let i : Count := 5; s.line.cutOff = some i := by decide

theorem witness_notices_queue_by_supersession_1 :
    idleState.line.faultCount < 32 ∧ entryOf phaseEntry.cls sendingState.line.txq = some { phaseEntry with onLine := true } := by decide

theorem witness_notices_queue_by_supersession_2 :
    entryOf phaseEntry.cls queuedState.line.txq = some phaseEntry ∧ phaseEntry.onLine = false := by decide

theorem witness_notices_queue_by_supersession_3 :
    entryOf phaseEntry.cls idleState.line.txq = none ∧ idleState.line.txq.length < 4 := by decide

theorem witness_notices_queue_by_supersession_4 :
    fullState.line.faultCount < 32 ∧ entryOf phaseEntry.cls fullState.line.txq = none ∧ 4 ≤ fullState.line.txq.length ∧ (fullState.line.txq.filter fun x => !x.onLine).getLast? = some (newEntry .reply false 3 false []) := by decide

theorem witness_notices_queue_by_supersession_5 :
    32 ≤ mutedState.line.faultCount ∧ mutedState.line.faultCount < 64 := by decide

theorem witness_notices_queue_by_supersession_6 :
    64 ≤ cutOffState.line.faultCount := by decide

theorem witness_notices_queue_by_supersession_7 :
    runState.mode.mode = .run ∧ runState.rev.statusTimer = some 5220 := by decide

theorem witness_phase_in_run_is_measured :
    let s : State := phaseState; let f : RxFrame := phaseFrame; let rest : List RxFrame := []; let a : Announcement := sampleAnnouncement; let delay : Nat := 150; let h : HalfNo := 62; let i : Count := 500000; let n : Count := 571680; tableHeld s = false ∧ s.line.rxq = f :: rest ∧ decodeNotice f = some (.phase a delay) ∧ a.leaving = false ∧ s.mode.mode = .run ∧ s.own.k = some h ∧ s.own.instant = some i ∧ s.rev.next = some n := by decide

theorem witness_phase_in_join_is_heard :
    let s : State := joinPhaseState; let f : RxFrame := phaseFrame; let rest : List RxFrame := []; let a : Announcement := sampleAnnouncement; let delay : Nat := 150; tableHeld s = false ∧ s.line.rxq = f :: rest ∧ decodeNotice f = some (.phase a delay) ∧ a.leaving = false ∧ (s.mode.mode = .join ∨ s.mode.mode = .rest) := by decide

theorem witness_leave_removes_the_sender :
    let s : State := leaveState; let f : RxFrame := leaveFrame; let rest : List RxFrame := []; let a : Announcement := { sampleAnnouncement with leaving := true }; let delay : Nat := 150; tableHeld s = false ∧ s.line.rxq = f :: rest ∧ decodeNotice f = some (.phase a delay) ∧ a.leaving = true ∧ (s.mode.mode = .join ∨ s.mode.mode = .run ∨ s.mode.mode = .rest) := by decide

theorem witness_change_updates_the_record :
    let s : State := changeState; let f : RxFrame := changeFrame; let rest : List RxFrame := []; let a : Announcement := sampleAnnouncement; tableHeld s = false ∧ s.line.rxq = f :: rest ∧ decodeNotice f = some (.change a) ∧ (s.mode.mode = .join ∨ s.mode.mode = .run ∨ s.mode.mode = .rest) := by decide

theorem witness_status_writes_the_climate_part :
    let s : State := statusState; let f : RxFrame := statusFrame; let rest : List RxFrame := []; let outdoor : Option Int := some (-35); let facade : Facade := .rear; tableHeld s = false ∧ s.line.rxq = f :: rest ∧ decodeNotice f = some (.status outdoor facade) ∧ (s.mode.mode = .join ∨ s.mode.mode = .run ∨ s.mode.mode = .rest) := by decide

theorem witness_claims_enter_the_list :
    let s : State := claimState; let f : RxFrame := claimFrame; let rest : List RxFrame := []; let k : HalfNo := 62; let severity : Nat := 4; let i : Count := 500000; tableHeld s = false ∧ s.line.rxq = f :: rest ∧ decodeNotice f = some (.claim k severity) ∧ s.mode.mode = .run ∧ s.own.instant = some i := by decide

theorem witness_malformed_frames_are_counted_1 :
    let s : State := malformedState .phase; let f : RxFrame := malformedFrame .phase; let rest : List RxFrame := []; tableHeld s = false ∧ s.line.rxq = f :: rest ∧ f.cls = some .phase ∧ decodeNotice f = none ∧ modeDiscards s.mode.mode .phase = false := by decide

theorem witness_malformed_frames_are_counted_2 :
    let s : State := malformedState .change; let f : RxFrame := malformedFrame .change; let rest : List RxFrame := []; tableHeld s = false ∧ s.line.rxq = f :: rest ∧ f.cls = some .change ∧ decodeNotice f = none ∧ modeDiscards s.mode.mode .change = false := by decide

theorem witness_malformed_frames_are_counted_3 :
    let s : State := malformedState .status; let f : RxFrame := malformedFrame .status; let rest : List RxFrame := []; tableHeld s = false ∧ s.line.rxq = f :: rest ∧ f.cls = some .status ∧ decodeNotice f = none ∧ modeDiscards s.mode.mode .status = false := by decide

theorem witness_malformed_frames_are_counted_4 :
    let s : State := malformedState .claim; let f : RxFrame := malformedFrame .claim; let rest : List RxFrame := []; tableHeld s = false ∧ s.line.rxq = f :: rest ∧ f.cls = some .claim ∧ decodeNotice f = none ∧ modeDiscards s.mode.mode .claim = false := by decide

theorem witness_malformed_frames_are_counted_5 :
    let s : State := malformedState .house; let f : RxFrame := malformedFrame .house; let rest : List RxFrame := []; tableHeld s = false ∧ s.line.rxq = f :: rest ∧ f.cls = some .house ∧ decodeNotice f = none ∧ modeDiscards s.mode.mode .house = false := by decide

theorem witness_malformed_frames_are_counted_6 :
    let s : State := malformedState .house; let f : RxFrame := malformedFrame .house; let rest : List RxFrame := []; tableHeld s = false ∧ s.line.rxq = f :: rest ∧ f.cls = some .house ∧ decodeNotice f = none ∧ modeDiscards s.mode.mode .house = false := by decide

theorem witness_malformed_frames_are_counted_7 :
    let s : State := malformedState .request; let f : RxFrame := malformedFrame .request; let rest : List RxFrame := []; tableHeld s = false ∧ s.line.rxq = f :: rest ∧ f.cls = some .request ∧ decodeNotice f = none ∧ modeDiscards s.mode.mode .request = false := by decide

theorem witness_malformed_frames_are_counted_8 :
    let s : State := malformedState .request; let f : RxFrame := malformedFrame .request; let rest : List RxFrame := []; tableHeld s = false ∧ s.line.rxq = f :: rest ∧ f.cls = some .request ∧ decodeNotice f = none ∧ modeDiscards s.mode.mode .request = false := by decide

theorem witness_malformed_frames_are_counted_9 :
    let s : State := (malformedState .phase).withMode State.reset.mode; let f : RxFrame := malformedFrame .phase; let rest : List RxFrame := []; tableHeld s = false ∧ s.line.rxq = f :: rest ∧ f.cls = some .phase ∧ (s.mode.mode = .start ∨ s.mode.mode = .setup) := by decide

theorem witness_malformed_frames_are_counted_10 :
    let s : State := (malformedState .change).withMode State.reset.mode; let f : RxFrame := malformedFrame .change; let rest : List RxFrame := []; tableHeld s = false ∧ s.line.rxq = f :: rest ∧ f.cls = some .change ∧ (s.mode.mode = .start ∨ s.mode.mode = .setup) := by decide

theorem witness_malformed_frames_are_counted_11 :
    let s : State := (malformedState .status).withMode State.reset.mode; let f : RxFrame := malformedFrame .status; let rest : List RxFrame := []; tableHeld s = false ∧ s.line.rxq = f :: rest ∧ f.cls = some .status ∧ (s.mode.mode = .start ∨ s.mode.mode = .setup) := by decide

theorem witness_malformed_frames_are_counted_12 :
    let s : State := (malformedState .claim).withMode State.reset.mode; let f : RxFrame := malformedFrame .claim; let rest : List RxFrame := []; tableHeld s = false ∧ s.line.rxq = f :: rest ∧ f.cls = some .claim ∧ s.mode.mode ≠ .run := by decide

theorem witness_house_level_fills_the_slot :
    let s : State := levelState; let f : RxFrame := levelFrame; let rest : List RxFrame := []; let level : Level := .raised; let hold : Nat := 6; tableHeld s = false ∧ s.line.rxq = f :: rest ∧ decodeNotice f = some (.house (.level level hold)) := by decide

theorem witness_house_rest_enters_rest_1 :
    let s : State := restState .run; let f : RxFrame := restFrame; let rest : List RxFrame := []; let arg : Nat := 6; tableHeld s = false ∧ s.line.rxq = f :: rest ∧ decodeNotice f = some (.house (.rest arg)) ∧ s.mode.mode = .run ∧ s.line.faultCount < 64 ∧ s.line.txq.length < 4 := by decide

theorem witness_house_rest_enters_rest_2 :
    let s : State := (restState .run).withLine { (restState .run).line with faultCount := 64 }; let f : RxFrame := restFrame; let rest : List RxFrame := []; let arg : Nat := 6; tableHeld s = false ∧ s.line.rxq = f :: rest ∧ decodeNotice f = some (.house (.rest arg)) ∧ s.mode.mode = .run ∧ 64 ≤ s.line.faultCount ∧ s.line.txq = [] ∧ s.line.replacement = none ∧ s.demand.heldWake = none := by decide

theorem witness_house_rest_enters_rest_3 :
    let s : State := restState .join; let f : RxFrame := restFrame; let rest : List RxFrame := []; let arg : Nat := 6; tableHeld s = false ∧ s.line.rxq = f :: rest ∧ decodeNotice f = some (.house (.rest arg)) ∧ s.mode.mode = .join ∧ s.demand.flush = none := by decide

theorem witness_house_rest_enters_rest_4 :
    let s : State := restState .rest; let f : RxFrame := restFrame; let rest : List RxFrame := []; let arg : Nat := 6; tableHeld s = false ∧ s.line.rxq = f :: rest ∧ decodeNotice f = some (.house (.rest arg)) ∧ s.mode.mode = .rest ∧ (s.demand.flush = none ∨ s.line.txq ≠ []) := by decide

theorem witness_resume_and_wake_outside_rest_1 :
    let s : State := resumeState .run; let f : RxFrame := resumeFrame; let rest : List RxFrame := []; tableHeld s = false ∧ s.line.rxq = f :: rest ∧ decodeNotice f = some (.house .resume) ∧ s.mode.mode ≠ .rest := by decide

theorem witness_resume_and_wake_outside_rest_2 :
    let s : State := wakeState .run; let f : RxFrame := wakeFrame; let rest : List RxFrame := []; tableHeld s = false ∧ s.line.rxq = f :: rest ∧ decodeNotice f = some (.house .wake) ∧ s.mode.mode ≠ .rest := by decide

theorem witness_resume_and_wake_outside_rest_3 :
    let s : State := (resumeState .rest).withDemand { State.reset.demand with flush := some 9 }; let f : RxFrame := resumeFrame; let rest : List RxFrame := []; tableHeld s = false ∧ s.line.rxq = f :: rest ∧ decodeNotice f = some (.house .resume) ∧ s.mode.mode = .rest ∧ s.demand.flush.isSome = true := by decide

theorem witness_resume_and_wake_outside_rest_4 :
    let s : State := (wakeState .rest).withDemand { State.reset.demand with flush := some 9 }; let f : RxFrame := wakeFrame; let rest : List RxFrame := []; tableHeld s = false ∧ s.line.rxq = f :: rest ∧ decodeNotice f = some (.house .wake) ∧ s.mode.mode = .rest ∧ s.demand.flush.isSome = true := by decide

theorem witness_read_answers_with_its_page_1 :
    let s : State := requestState .run 0; let f : RxFrame := requestFrame 0; let rest : List RxFrame := []; let index : Byte := 0; let value : Byte := 0; tableHeld s = false ∧ s.line.rxq = f :: rest ∧ decodeNotice f = some (.request .read index value) ∧ s.mode.mode ≠ .start ∧ s.line.faultCount < 32 ∧ (∀ x ∈ s.line.txq, x.cls ≠ .reply) ∧ s.line.txq.length < 4 ∧ s.mode.setupFlush = none ∧ s.demand.flush = none := by decide

theorem witness_read_answers_with_its_page_2 :
    let s : State := requestState .start 0; let f : RxFrame := requestFrame 0; let rest : List RxFrame := []; let index : Byte := 0; let value : Byte := 0; tableHeld s = false ∧ s.line.rxq = f :: rest ∧ decodeNotice f = some (.request .read index value) ∧ s.mode.mode = .start := by decide

theorem witness_set_clamps_and_marks_1 :
    let s : State := requestState .setup 1; let f : RxFrame := requestFrame 1; let rest : List RxFrame := []; let index : Byte := 4; let value : Byte := 130; let p : Fin 21 := 4; tableHeld s = false ∧ s.line.rxq = f :: rest ∧ decodeNotice f = some (.request .set index value) ∧ s.mode.mode = .setup ∧ index.toNat = p.val ∧ s.line.faultCount < 32 ∧ (∀ x ∈ s.line.txq, x.cls ≠ .reply) ∧ s.line.txq.length < 4 ∧ s.mode.setupFlush = none ∧ s.demand.flush = none := by decide

theorem witness_set_clamps_and_marks_2 :
    let s : State := requestState .run 1; let f : RxFrame := requestFrame 1; let rest : List RxFrame := []; let index : Byte := 4; let value : Byte := 130; tableHeld s = false ∧ s.line.rxq = f :: rest ∧ decodeNotice f = some (.request .set index value) ∧ s.mode.mode ≠ .start ∧ (s.mode.mode ≠ .setup ∨ 21 ≤ index.toNat) ∧ s.line.faultCount < 32 ∧ (∀ x ∈ s.line.txq, x.cls ≠ .reply) ∧ s.line.txq.length < 4 ∧ s.mode.setupFlush = none ∧ s.demand.flush = none := by decide

theorem witness_set_clamps_and_marks_3 :
    let s : State := requestState .start 1; let f : RxFrame := requestFrame 1; let rest : List RxFrame := []; let index : Byte := 4; let value : Byte := 130; tableHeld s = false ∧ s.line.rxq = f :: rest ∧ decodeNotice f = some (.request .set index value) ∧ s.mode.mode = .start := by decide

theorem witness_setup_enter_enters_setup_1 :
    let s : State := requestState .run 2; let f : RxFrame := requestFrame 2; let rest : List RxFrame := []; let index : Byte := 4; let value : Byte := 130; tableHeld s = false ∧ s.line.rxq = f :: rest ∧ decodeNotice f = some (.request .setupEnter index value) ∧ (s.mode.mode = .join ∨ s.mode.mode = .run ∨ s.mode.mode = .rest) ∧ (s.line.txq.filter fun e => e.onLine).length ≤ 1 := by decide

theorem witness_setup_enter_enters_setup_2 :
    let s : State := (requestState .start 2).withMode { State.reset.mode with startHold := none, setupWindow := some 9 }; let f : RxFrame := requestFrame 2; let rest : List RxFrame := []; let index : Byte := 4; let value : Byte := 130; tableHeld s = false ∧ s.line.rxq = f :: rest ∧ decodeNotice f = some (.request .setupEnter index value) ∧ s.mode.mode = .start ∧ s.mode.setupWindow.isSome = true ∧ s.line.txq = [] ∧ s.line.replacement = none := by decide

theorem witness_setup_enter_enters_setup_3 :
    let s : State := requestState .setup 2; let f : RxFrame := requestFrame 2; let rest : List RxFrame := []; let index : Byte := 4; let value : Byte := 130; tableHeld s = false ∧ s.line.rxq = f :: rest ∧ decodeNotice f = some (.request .setupEnter index value) ∧ s.mode.mode = .setup ∧ s.line.faultCount < 32 ∧ (∀ x ∈ s.line.txq, x.cls ≠ .reply) ∧ s.line.txq.length < 4 ∧ s.mode.setupFlush = none ∧ s.demand.flush = none := by decide

theorem witness_setup_enter_enters_setup_4 :
    let s : State := ((requestState .setup 2).withMode { State.reset.mode with mode := .setup, setupFlush := some 9 }).withLine { (requestState .setup 2).line with txq := [leaveEntry] }; let f : RxFrame := requestFrame 2; let rest : List RxFrame := []; let index : Byte := 4; let value : Byte := 130; tableHeld s = false ∧ s.line.rxq = f :: rest ∧ decodeNotice f = some (.request .setupEnter index value) ∧ s.mode.mode = .setup ∧ s.mode.setupFlush.isSome = true ∧ leaveQueued s = true ∧ s.line.faultCount < 32 ∧ (∀ x ∈ s.line.txq, x.cls ≠ .reply) ∧ s.line.txq.length < 4 := by decide

theorem witness_join_is_entered_alike_1 :
    let s : State := State.reset.withMode { State.reset.mode with setupWindow := some 9 }; let i : Count := 9; s.mode.mode = .start ∧ s.mode.setupWindow = some i := by decide

theorem witness_join_is_entered_alike_2 :
    let s : State := State.reset.withMode { State.reset.mode with mode := .setup, inactivity := some 9 }; let i : Count := 9; s.mode.mode = .setup ∧ s.mode.inactivity = some i := by decide

theorem witness_join_is_entered_alike_3 :
    let s : State := requestState .setup 3; let f : RxFrame := requestFrame 3; let rest : List RxFrame := []; let index : Byte := 4; let value : Byte := 130; tableHeld s = false ∧ s.line.rxq = f :: rest ∧ decodeNotice f = some (.request .setupLeave index value) ∧ s.mode.mode = .setup ∧ s.mode.setupFlush = none := by decide

theorem witness_join_is_entered_alike_4 :
    let s : State := State.reset.withMode { State.reset.mode with mode := .setup, setupFlush := some 9, leaveAsked := true }; let i : Count := 9; s.mode.mode = .setup ∧ s.mode.setupFlush = some i ∧ s.mode.leaveAsked = true := by decide

theorem witness_join_is_entered_alike_5 :
    let s : State := restingState; let i : Count := 9; s.mode.mode = .rest ∧ s.demand.restTimer = some i ∧ s.demand.flush = none := by decide

theorem witness_join_is_entered_alike_6 :
    let s : State := resumeState .rest; let f : RxFrame := resumeFrame; let rest : List RxFrame := []; tableHeld s = false ∧ s.line.rxq = f :: rest ∧ decodeNotice f = some (.house .resume) ∧ s.mode.mode = .rest ∧ s.demand.flush = none := by decide

theorem witness_join_is_entered_alike_7 :
    let s : State := wakeState .rest; let f : RxFrame := wakeFrame; let rest : List RxFrame := []; tableHeld s = false ∧ s.line.rxq = f :: rest ∧ decodeNotice f = some (.house .wake) ∧ s.mode.mode = .rest ∧ s.demand.flush = none := by decide

theorem witness_join_is_entered_alike_8 :
    let s : State := restingState; s.mode.mode = .rest ∧ s.demand.flush = none ∧ s.demand.button = none := by decide

theorem witness_join_is_entered_alike_9 :
    let s : State := humidState; let x : Conversion := { source := .rh, purposes := [.rest] }; let result : Int := 85; s.clim.converting = some x ∧ x.source = .rh ∧ Purpose.rest ∈ x.purposes ∧ s.mode.mode = .rest ∧ s.demand.flush = none ∧ (s.own.room = .wet ∨ s.own.room = .kitchen) ∧ s.clim.rhSensor.latched = false ∧ (85 ≤ result ∨ (result < 0 ∧ s.clim.rhSensor.invalid < 2 ∧ s.clim.rhSensor.held.any (fun v => decide (85 ≤ v)) = true)) := by decide

theorem witness_setup_and_rest_flushes_end_1 :
    let s : State := State.reset.withMode { State.reset.mode with mode := .setup, setupFlush := some 9 }; let i : Count := 9; s.mode.mode = .setup ∧ s.mode.setupFlush = some i ∧ s.mode.leaveAsked = false := by decide

theorem witness_setup_and_rest_flushes_end_2 :
    let s : State := ((requestState .setup 3).withMode { State.reset.mode with mode := .setup, setupFlush := some 9 }).withLine { (requestState .setup 3).line with txq := [leaveEntry] }; let f : RxFrame := requestFrame 3; let rest : List RxFrame := []; let index : Byte := 4; let value : Byte := 130; tableHeld s = false ∧ s.line.rxq = f :: rest ∧ decodeNotice f = some (.request .setupLeave index value) ∧ s.mode.mode = .setup ∧ s.mode.setupFlush.isSome = true ∧ leaveQueued s = true ∧ s.line.faultCount < 32 ∧ (∀ x ∈ s.line.txq, x.cls ≠ .reply) ∧ s.line.txq.length < 4 := by decide

theorem witness_setup_and_rest_flushes_end_3 :
    let s : State := requestState .run 3; let f : RxFrame := requestFrame 3; let rest : List RxFrame := []; let index : Byte := 4; let value : Byte := 130; tableHeld s = false ∧ s.line.rxq = f :: rest ∧ decodeNotice f = some (.request .setupLeave index value) ∧ (s.mode.mode = .join ∨ s.mode.mode = .run ∨ s.mode.mode = .rest) ∧ s.line.faultCount < 32 ∧ (∀ x ∈ s.line.txq, x.cls ≠ .reply) ∧ s.line.txq.length < 4 ∧ s.mode.setupFlush = none ∧ s.demand.flush = none := by decide

theorem witness_setup_and_rest_flushes_end_4 :
    let s : State := restingState.withDemand { restingState.demand with flush := some 9 }; let i : Count := 9; s.mode.mode = .rest ∧ s.demand.flush = some i ∧ s.demand.heldWake = none := by decide

theorem witness_setup_and_rest_flushes_end_5 :
    let s : State := restingState.withDemand { restingState.demand with flush := some 9, heldWake := some { cause := .press, mark := true } }; let i : Count := 9; let w : HeldWake := { cause := .press, mark := true }; s.mode.mode = .rest ∧ s.demand.flush = some i ∧ s.demand.heldWake = some w := by decide

theorem witness_setup_and_rest_flushes_end_6 :
    let s : State := (restingState.withDemand { restingState.demand with flush := some 9 }).withLine { sendingState.line with txq := [{ leaveEntry with onLine := true }] }; let e : TxEntry := { leaveEntry with onLine := true }; s.line.phase = .sending ∧ s.line.txq.find? (fun x => x.onLine) = some e ∧ s.mode.mode = .rest ∧ s.demand.flush.isSome = true ∧ (∀ x ∈ s.line.txq, x.cls = e.cls) ∧ s.line.replacement = none ∧ s.demand.heldWake = none := by decide

theorem witness_setup_and_rest_flushes_end_7 :
    let s : State := (restingState.withDemand { restingState.demand with flush := some 9, heldWake := some { cause := .press, mark := true } }).withLine { sendingState.line with txq := [{ leaveEntry with onLine := true }] }; let e : TxEntry := { leaveEntry with onLine := true }; let w : HeldWake := { cause := .press, mark := true }; s.line.phase = .sending ∧ s.line.txq.find? (fun x => x.onLine) = some e ∧ s.mode.mode = .rest ∧ s.demand.flush.isSome = true ∧ (∀ x ∈ s.line.txq, x.cls = e.cls) ∧ s.line.replacement = none ∧ s.demand.heldWake = some w := by decide

theorem witness_setup_and_rest_flushes_end_8 :
    let s : State := (State.reset.withMode { State.reset.mode with mode := .setup, setupFlush := some 9, leaveAsked := true }).withLine { sendingState.line with txq := [{ leaveEntry with onLine := true }] }; let e : TxEntry := { leaveEntry with onLine := true }; s.line.phase = .sending ∧ s.line.txq.find? (fun x => x.onLine) = some e ∧ s.mode.mode = .setup ∧ s.mode.setupFlush.isSome = true ∧ isLeave e = true ∧ s.line.replacement.any isLeave = false := by decide

theorem witness_setup_and_rest_flushes_end_9 :
    let s : State := (restingState.withDemand { restingState.demand with flush := some 9 }).withLine { sendingState.line with txq := [{ leaveEntry with onLine := true, attempts := 2 }] }; let e : TxEntry := { leaveEntry with onLine := true, attempts := 2 }; s.line.phase = .sending ∧ s.line.txq.find? (fun x => x.onLine) = some e ∧ s.mode.mode = .rest ∧ s.demand.flush.isSome = true ∧ (∀ x ∈ s.line.txq, x.cls = e.cls) ∧ s.line.replacement = none ∧ (e.withdrawn = true ∨ 2 ≤ e.attempts) ∧ s.demand.heldWake = none ∧ sendQueueShaped s.line ∧ countsInRange s.line := by unfold sendQueueShaped countsInRange ascending; decide

theorem witness_setup_and_rest_flushes_end_10 :
    let s : State := (restingState.withDemand { restingState.demand with flush := some 9, heldWake := some { cause := .press, mark := true } }).withLine { sendingState.line with txq := [{ leaveEntry with onLine := true, attempts := 2 }] }; let e : TxEntry := { leaveEntry with onLine := true, attempts := 2 }; let w : HeldWake := { cause := .press, mark := true }; s.line.phase = .sending ∧ s.line.txq.find? (fun x => x.onLine) = some e ∧ s.mode.mode = .rest ∧ s.demand.flush.isSome = true ∧ (∀ x ∈ s.line.txq, x.cls = e.cls) ∧ s.line.replacement = none ∧ (e.withdrawn = true ∨ 2 ≤ e.attempts) ∧ s.demand.heldWake = some w := by decide

theorem witness_setup_and_rest_flushes_end_11 :
    let s : State := (State.reset.withMode { State.reset.mode with mode := .setup, setupFlush := some 9, leaveAsked := true }).withLine { sendingState.line with txq := [{ leaveEntry with onLine := true, attempts := 2 }] }; let e : TxEntry := { leaveEntry with onLine := true, attempts := 2 }; s.line.phase = .sending ∧ s.line.txq.find? (fun x => x.onLine) = some e ∧ s.mode.mode = .setup ∧ s.mode.setupFlush.isSome = true ∧ isLeave e = true ∧ s.line.replacement.any isLeave = false ∧ (e.withdrawn = true ∨ 2 ≤ e.attempts) := by decide

theorem witness_clear_asks_for_checks_and_a_trial_1 :
    let s : State := requestState .run 4; let f : RxFrame := requestFrame 4; let rest : List RxFrame := []; let index : Byte := 4; let value : Byte := 130; tableHeld s = false ∧ s.line.rxq = f :: rest ∧ decodeNotice f = some (.request .clear index value) ∧ s.mode.mode ≠ .start ∧ s.line.faultCount < 32 ∧ (∀ x ∈ s.line.txq, x.cls ≠ .reply) ∧ s.line.txq.length < 4 ∧ s.mode.setupFlush = none ∧ s.demand.flush = none := by decide

theorem witness_clear_asks_for_checks_and_a_trial_2 :
    let s : State := requestState .start 4; let f : RxFrame := requestFrame 4; let rest : List RxFrame := []; let index : Byte := 4; let value : Byte := 130; tableHeld s = false ∧ s.line.rxq = f :: rest ∧ decodeNotice f = some (.request .clear index value) ∧ s.mode.mode = .start := by decide

theorem witness_clear_asks_for_checks_and_a_trial_3 :
    let s : State := pressedState; let p : Press := { since := 100, timed := true }; s.demand.button = some p ∧ p.timed = true ∧ s.mode.mode ≠ .start := by decide

theorem witness_clear_asks_for_checks_and_a_trial_4 :
    let s : State := pressedState.withMode State.reset.mode; let p : Press := { since := 100, timed := true }; s.demand.button = some p ∧ p.timed = true ∧ s.mode.mode = .start := by decide

theorem witness_filter_reset_starts_learning_1 :
    let s : State := requestState .join 5; let f : RxFrame := requestFrame 5; let rest : List RxFrame := []; let index : Byte := 4; let value : Byte := 130; tableHeld s = false ∧ s.line.rxq = f :: rest ∧ decodeNotice f = some (.request .filterReset index value) ∧ s.mode.mode ≠ .start ∧ s.mode.mode ≠ .run ∧ s.line.faultCount < 32 ∧ (∀ x ∈ s.line.txq, x.cls ≠ .reply) ∧ s.line.txq.length < 4 ∧ s.mode.setupFlush = none ∧ s.demand.flush = none := by decide

theorem witness_filter_reset_starts_learning_2 :
    let s : State := requestState .run 5; let f : RxFrame := requestFrame 5; let rest : List RxFrame := []; let index : Byte := 4; let value : Byte := 130; tableHeld s = false ∧ s.line.rxq = f :: rest ∧ decodeNotice f = some (.request .filterReset index value) ∧ s.mode.mode = .run := by decide

theorem witness_filter_reset_starts_learning_3 :
    let s : State := requestState .start 5; let f : RxFrame := requestFrame 5; let rest : List RxFrame := []; let index : Byte := 4; let value : Byte := 130; tableHeld s = false ∧ s.line.rxq = f :: rest ∧ decodeNotice f = some (.request .filterReset index value) ∧ s.mode.mode = .start := by decide

theorem witness_reversal_expiry_writes_the_half_cycle_1 :
    let s : State := runState; let i : Count := 71780; s.mode.mode = .run ∧ s.rev.next = some i := by decide

theorem witness_reversal_expiry_writes_the_half_cycle_2 :
    let s : State := runState; let i : Count := 71780; s.mode.mode = .run ∧ s.rev.next = some i := by decide

theorem witness_reversal_expiry_writes_the_half_cycle_3 :
    let s : State := sampledState; let i : Count := 71780; let side : Side := .inward; let k : HalfNo := 62; s.mode.mode = .run ∧ s.rev.next = some i ∧ s.own.direction = dirOfSide side ∧ s.own.k = some k := by decide

theorem witness_reversal_expiry_schedules_the_next_1 :
    let s : State := runState; let i : Count := 71780; s.mode.mode = .run ∧ s.rev.next = some i ∧ adoptedKp s.own.node s.rev.tally = none := by decide

theorem witness_reversal_expiry_schedules_the_next_2 :
    let s : State := runState; let i : Count := 71780; s.mode.mode = .run ∧ s.rev.next = some i := by decide

theorem witness_adoption_lands_on_the_other_group :
    adoptState.mode.mode = .run ∧ adoptState.rev.next = some 3071680 ∧ adoptedKp adoptState.own.node adoptState.rev.tally = some 13 ∧ (adoptState.rev.tally.filter fun x => !x.agreeing && x.kp = 13).getLast? = some adoptEntry ∧ 0 < paramNat adoptState 0 ∧ paramNat adoptState 0 ≤ 12 ∧ 0 < Count.since (Count.later 3071680 10240) adoptEntry.tr ∧ Count.since (Count.later 3071680 10240) adoptEntry.tr < 2 ^ 30 := by decide

theorem witness_entry_to_run_1 :
    let s : State := joinState; let i : Count := 71780; s.mode.mode = .join ∧ s.rev.next = some i := by decide

theorem witness_entry_to_run_2 :
    let s : State := joinState; let i : Count := 71780; s.mode.mode = .join ∧ s.rev.next = some i ∧ adoptedKp s.own.node s.rev.tally = none := by decide

theorem witness_entry_to_run_3 :
    let s : State := joinState; let i : Count := 71780; s.mode.mode = .join ∧ s.rev.next = some i := by decide

theorem witness_entry_to_run_4 :
    let s : State := joinState; let i : Count := 149432; s.mode.mode = .join ∧ s.rev.listening = some i ∧ s.rev.lastHeard = none ∧ s.rev.tally = [] := by decide

theorem witness_entry_to_run_5 :
    let s : State := joinState.withRev { joinState.rev with lastHeard := some { kp := 5, tr := 100000 } }; let i : Count := 149432; let h : Heard := { kp := 5, tr := 100000 }; s.mode.mode = .join ∧ s.rev.listening = some i ∧ s.rev.lastHeard = some h ∧ 0 < paramNat s 0 ∧ paramNat s 0 ≤ 12 ∧ 0 ≤ Count.since i h.tr ∧ Count.since i h.tr < 2 ^ 30 := by decide

theorem witness_windows_close_to_their_owners_1 :
    let s : State := runState; let i : Count := 3172; s.mode.mode = .run ∧ s.rev.gather = some i := by decide

theorem witness_windows_close_to_their_owners_2 :
    let s : State := runState; let i : Count := 10340; s.mode.mode = .run ∧ s.rev.claimWindow = some i := by decide

theorem witness_grants_follow_priority_1 :
    let s : State := State.reset.withUnit { State.reset.unit with waitPass := true }; s.unit.engine = .free ∧ s.unit.waitPass = true := by decide

theorem witness_grants_follow_priority_2 :
    let s : State := State.reset.withUnit { State.reset.unit with waitClimate := some sampleInputs }; let x : EvalInputs := sampleInputs; s.unit.engine = .free ∧ s.unit.waitPass = false ∧ s.unit.waitClimate = some x := by decide

theorem witness_grants_follow_priority_3 :
    let s : State := State.reset.withUnit { State.reset.unit with waitFilter := some { ratioIn := 300, ratioOut := 300 } }; let x : FilterPair := { ratioIn := 300, ratioOut := 300 }; s.unit.engine = .free ∧ s.unit.waitPass = false ∧ s.unit.waitClimate = none ∧ s.unit.waitFilter = some x := by decide

theorem witness_grants_follow_priority_4 :
    let s : State := State.reset.withUnit { State.reset.unit with waitPass := true }; (s.unit.waitPass = true ∨ s.unit.engine ≠ .free) := by decide

theorem witness_discarded_results_change_nothing_1 :
    let s : State := State.reset.withUnit { State.reset.unit with engine := .pass 0 2 true }; let a : Count := 0; let ms : Nat := 2; s.unit.engine = .pass a ms true := by decide

theorem witness_discarded_results_change_nothing_2 :
    let s : State := State.reset.withUnit { State.reset.unit with engine := .climate sampleInputs 0 3 true }; let x : EvalInputs := sampleInputs; let a : Count := 0; let ms : Nat := 3; s.unit.engine = .climate x a ms true := by decide

theorem witness_discarded_results_change_nothing_3 :
    let s : State := State.reset.withUnit { State.reset.unit with engine := .climate sampleInputs 0 3 false }; let x : EvalInputs := sampleInputs; let a : Count := 0; let ms : Nat := 3; s.unit.engine = .climate x a ms false := by decide

theorem witness_discarded_results_change_nothing_4 :
    let s : State := State.reset.withUnit { State.reset.unit with engine := .filter { ratioIn := 300, ratioOut := 300 } 0 2 true }; let x : FilterPair := { ratioIn := 300, ratioOut := 300 }; let a : Count := 0; let ms : Nat := 2; s.unit.engine = .filter x a ms true := by decide

theorem witness_fan_steps_by_state_1 :
    let s : State := fanState .rampDown; s.fan.finding = .nothing ∧ s.fan.stallSteps < 13 ∧ s.fan.shortSteps < 41 ∧ s.fan.state = .rampDown := by decide

theorem witness_fan_steps_by_state_2 :
    let s : State := fanState .running; s.fan.finding = .nothing ∧ s.fan.stallSteps < 13 ∧ s.fan.shortSteps < 41 ∧ s.fan.state = .running ∧ s.fan.trial ≠ .running := by decide

theorem witness_fan_steps_by_state_3 :
    let s : State := fanState .rampUp; s.fan.finding = .nothing ∧ s.fan.stallSteps < 13 ∧ s.fan.shortSteps < 41 ∧ s.fan.state = .rampUp := by decide

theorem witness_fan_steps_by_state_4 :
    let s : State := fanState .coast; s.fan.finding = .nothing ∧ s.fan.stallSteps < 13 ∧ s.fan.shortSteps < 41 ∧ s.fan.state = .coast := by decide

theorem witness_fan_steps_by_state_5 :
    let s : State := State.reset; s.fan.finding = .nothing ∧ s.fan.stallSteps < 13 ∧ s.fan.shortSteps < 41 ∧ (s.fan.state = .stopped ∨ s.fan.state = .flapOpening ∨ s.fan.state = .flapClosing) := by decide

theorem witness_coast_and_ramp_up_end_1 :
    let s : State := (fanState .coast).withFan { (fanState .coast).fan with finding := .coastOver, target := some .outward }; let side : Side := .outward; s.fan.state = .coast ∧ s.fan.finding = .coastOver ∧ s.fan.target = some (dirOfSide side) := by decide

theorem witness_coast_and_ramp_up_end_2 :
    let s : State := (fanState .coast).withFan { (fanState .coast).fan with finding := .coastOver, target := some .halt }; s.fan.state = .coast ∧ s.fan.finding = .coastOver ∧ s.fan.target = some .halt := by decide

theorem witness_coast_and_ramp_up_end_3 :
    let s : State := (fanState .rampUp).withFan { (fanState .rampUp).fan with finding := .inBand }; s.fan.state = .rampUp ∧ (s.fan.finding = .inBand ∨ s.fan.finding = .timedOut) ∧ s.fan.trial ≠ .running := by decide

theorem witness_coast_and_ramp_up_end_4 :
    let s : State := (fanState .rampUp).withFan { (fanState .rampUp).fan with finding := .spinUpFailed, trial := .running, latch := some .spin }; s.fan.state = .rampUp ∧ s.fan.finding ≠ .nothing ∧ s.fan.finding ≠ .coastOver ∧ s.fan.trial = .running := by decide

theorem witness_coast_and_ramp_up_end_5 :
    let s : State := (fanState .rampUp).withFan { (fanState .rampUp).fan with finding := .spinUpFailed }; s.fan.state = .rampUp ∧ s.fan.finding = .spinUpFailed ∧ s.fan.trial ≠ .running ∧ s.fan.restart = false ∧ s.fan.stallHistory = none := by decide

theorem witness_coast_and_ramp_up_end_6 :
    let s : State := (fanState .rampUp).withFan { (fanState .rampUp).fan with finding := .spinUpFailed, stallHistory := some 1 }; let i : Count := 1; s.fan.state = .rampUp ∧ s.fan.finding = .spinUpFailed ∧ s.fan.trial ≠ .running ∧ s.fan.restart = false ∧ s.fan.stallHistory = some i ∧ 614400 < (s.time.now - i).toNat := by decide

theorem witness_coast_and_ramp_up_end_7 :
    let s : State := (fanState .rampUp).withFan { (fanState .rampUp).fan with finding := .spinUpFailed, restart := true }; s.fan.state = .rampUp ∧ s.fan.finding = .spinUpFailed ∧ s.fan.trial ≠ .running ∧ s.fan.restart = true ∧ s.mode.mode = .run ∧ s.own.direction ≠ .halt ∧ s.fan.latch = none ∧ s.line.faultCount < 64 ∧ (∀ x ∈ s.line.txq, x.cls ≠ .change) ∧ s.line.txq.length < 4 := by decide

theorem witness_coast_and_ramp_up_end_8 :
    let s : State := (fanState .rampUp).withFan { (fanState .rampUp).fan with finding := .spinUpFailed, stallHistory := some 0 }; let i : Count := 0; s.fan.state = .rampUp ∧ s.fan.finding = .spinUpFailed ∧ s.fan.trial ≠ .running ∧ s.fan.restart = false ∧ s.fan.stallHistory = some i ∧ (s.time.now - i).toNat ≤ 614400 ∧ s.mode.mode = .run ∧ s.own.direction ≠ .halt ∧ s.fan.latch = none ∧ s.line.faultCount < 64 ∧ (∀ x ∈ s.line.txq, x.cls ≠ .change) ∧ s.line.txq.length < 4 := by decide

theorem witness_stall_and_flow_short_act_1 :
    let s : State := (fanState .running).withFan { (fanState .running).fan with stallSteps := 13 }; s.fan.state = .running ∧ 13 ≤ s.fan.stallSteps ∧ s.fan.restart = false ∧ s.fan.stallHistory = none := by decide

theorem witness_stall_and_flow_short_act_2 :
    let s : State := (fanState .running).withFan { (fanState .running).fan with stallSteps := 13, stallHistory := some 1 }; let i : Count := 1; s.fan.state = .running ∧ 13 ≤ s.fan.stallSteps ∧ s.fan.restart = false ∧ s.fan.stallHistory = some i ∧ 614400 < (s.time.now - i).toNat := by decide

theorem witness_stall_and_flow_short_act_3 :
    let s : State := stalledState; let i : Count := 0; s.fan.state = .running ∧ 13 ≤ s.fan.stallSteps ∧ s.fan.restart = false ∧ s.fan.stallHistory = some i ∧ (s.time.now - i).toNat ≤ 614400 ∧ s.mode.mode = .run ∧ s.own.direction ≠ .halt ∧ s.fan.latch = none ∧ s.line.faultCount < 64 ∧ (∀ x ∈ s.line.txq, x.cls ≠ .change) ∧ s.line.txq.length < 4 := by decide

theorem witness_stall_and_flow_short_act_4 :
    let s : State := (fanState .running).withFan { (fanState .running).fan with shortSteps := 41 }; s.fan.state = .running ∧ 41 ≤ s.fan.shortSteps := by decide

theorem witness_flap_travels_and_trials_1 :
    let s : State := (fanState .flapOpening).withFan { (fanState .flapOpening).fan with travel := some 9 }; s.fan.travel.isSome = true ∧ s.fan.state = .flapOpening := by decide

theorem witness_flap_travels_and_trials_2 :
    let s : State := (fanState .flapClosing).withFan { (fanState .flapClosing).fan with travel := some 9 }; s.fan.travel.isSome = true ∧ s.fan.state = .flapClosing := by decide

theorem witness_flap_travels_and_trials_3 :
    let s : State := flapState; let i : Count := 9; s.fan.travel = some i ∧ s.fan.state = .flapOpening ∧ s.fan.trial ≠ .running ∧ s.mode.mode = .run ∧ s.own.direction ≠ .halt ∧ s.fan.latch = none ∧ s.line.faultCount < 64 ∧ (∀ x ∈ s.line.txq, x.cls ≠ .change) ∧ s.line.txq.length < 4 := by decide

theorem witness_flap_travels_and_trials_4 :
    let s : State := (fanState .flapClosing).withFan { (fanState .flapClosing).fan with travel := some 9, wanted := .halt }; let i : Count := 9; s.fan.travel = some i ∧ s.fan.state = .flapClosing ∧ s.fan.wanted = .halt := by decide

theorem witness_flap_travels_and_trials_5 :
    let s : State := State.reset.withFan { State.reset.fan with travel := some 10240 }; s.fan.travel.isSome = true ∧ s.fan.state = .stopped := by decide

theorem witness_flap_travels_and_trials_6 :
    let s : State := State.reset.withFan { State.reset.fan with travel := some 10240 }; let i : Count := 10240; s.fan.travel = some i ∧ s.fan.state = .stopped ∧ s.fan.trial ≠ .running ∧ s.own.direction = .halt := by decide

theorem witness_flap_travels_and_trials_7 :
    let s : State := flapState.withFan { flapState.fan with latch := some .spin, trial := .running }; let i : Count := 9; s.fan.travel = some i ∧ s.fan.trial = .running ∧ (s.fan.state = .flapOpening ∨ s.fan.state = .flapClosing) := by decide

theorem witness_flap_travels_and_trials_8 :
    let s : State := (fanState .stopped).withFan { (fanState .stopped).fan with latch := some .spin, trial := .pending }; let k : HalfNo := 62; s.mode.mode = .run ∧ s.fan.state = .stopped ∧ s.fan.trial = .pending ∧ s.own.k = some k := by decide

theorem witness_half_cycle_points_request_conversions_1 :
    let s : State := runState; let i : Count := 35940; s.mode.mode = .run ∧ s.clim.midPoint = some i ∧ s.clim.converting = none ∧ s.clim.waitOuter = [] ∧ s.clim.waitInner = [] ∧ s.clim.waitRh = [] := by decide

theorem witness_half_cycle_points_request_conversions_2 :
    let s : State := runState; let i : Count := 70756; s.mode.mode = .run ∧ s.clim.endPoint = some i ∧ s.clim.converting = none ∧ s.clim.waitOuter = [] ∧ s.clim.waitInner = [] ∧ s.clim.waitRh = [] := by decide

theorem witness_half_cycle_points_request_conversions_3 :
    let s : State := restingState; let i : Count := 61449; s.mode.mode = .rest ∧ s.clim.restSampling = some i ∧ s.clim.converting = none ∧ s.clim.waitOuter = [] ∧ s.clim.waitInner = [] ∧ s.clim.waitRh = [] := by decide

theorem witness_conversions_are_judged_1 :
    let s : State := convertingState .outer; let x : Conversion := { source := .outer, purposes := [.endOfHalf .current] }; s.clim.converting = some x ∧ x.source = .outer := by decide

theorem witness_conversions_are_judged_2 :
    let s : State := convertingState .inner; let x : Conversion := { source := .inner, purposes := [.endOfHalf .current] }; s.clim.converting = some x ∧ x.source = .inner := by decide

theorem witness_conversions_are_judged_3 :
    let s : State := convertingState .rh; let x : Conversion := { source := .rh, purposes := [.endOfHalf .current] }; s.clim.converting = some x ∧ x.source = .rh := by decide

theorem witness_conversions_are_judged_4 :
    let s : State := (convertingState .inner).withClim { (convertingState .inner).clim with current := { emptySet with direction := .outward } }; let x : Conversion := { source := .inner, purposes := [.endOfHalf .current] }; s.clim.converting = some x ∧ x.source = .inner := by decide

theorem witness_conversions_are_judged_5 :
    let s : State := (convertingState .outer).withClim { (convertingState .outer).clim with awaiting := none }; s.clim.converting = some { source := .outer, purposes := [.endOfHalf .current] } ∧ s.clim.awaiting = none := by decide

theorem witness_conversions_are_judged_6 :
    let s : State := (convertingState .inner).withClim { (convertingState .inner).clim with converting := some { source := .inner, purposes := [.midHalf .previous, .endOfHalf .current] } }; let x : Conversion := { source := .inner, purposes := [.midHalf .previous, .endOfHalf .current] }; s.clim.converting = some x ∧ Purpose.rest ∉ x.purposes := by decide

theorem witness_conversions_are_judged_7 :
    let s : State := convertingState .rh; let x : Conversion := { source := .rh, purposes := [.endOfHalf .current] }; s.clim.converting = some x ∧ Purpose.rest ∉ x.purposes := by decide

theorem witness_conversions_are_judged_8 :
    let s : State := dueState; let x : Conversion := { source := .rh, purposes := [.endOfHalf .current] }; let a : Awaiting := { sources := [.rh], half := .current, previous := emptySet }; s.mode.mode = .run ∧ s.clim.converting = some x ∧ s.clim.awaiting = some a ∧ Purpose.endOfHalf a.half ∈ x.purposes ∧ (∀ y ∈ a.sources, y = x.source) ∧ s.unit.waitClimate = none := by decide

theorem witness_climate_evaluation_applies_1 :
    let s : State := State.reset.withUnit { State.reset.unit with engine := .climate sampleInputs 0 3 false }; let x : EvalInputs := sampleInputs; let a : Count := 0; let ms : Nat := 3; s.unit.engine = .climate x a ms false ∧ climateInRange s.clim := by unfold climateInRange; decide

theorem witness_climate_evaluation_applies_2 :
    let s : State := State.reset.withUnit { State.reset.unit with engine := .climate sampleInputs 0 3 false }; let x : EvalInputs := sampleInputs; let a : Count := 0; let ms : Nat := 3; s.unit.engine = .climate x a ms false := by decide

theorem witness_climate_evaluation_applies_3 :
    let s : State := State.reset.withUnit { State.reset.unit with engine := .climate sampleInputs 0 3 false }; let x : EvalInputs := sampleInputs; let a : Count := 0; let ms : Nat := 3; let rh : Int := 48; let out : Int := -80; s.unit.engine = .climate x a ms false ∧ x.rh = some rh ∧ x.tOutdoor = some out := by decide

theorem witness_climate_evaluation_applies_4 :
    let s : State := evaluating .watch sampleInputs; let x : EvalInputs := sampleInputs; let a : Count := 0; let ms : Nat := 3; s.unit.engine = .climate x a ms false ∧ x.stage ≠ .thaw ∧ s.frost.stage ≠ .thaw ∧ s.frost.stage ≠ .lockout ∧ (∀ v ∈ x.tOutdoor, param s 10 < v) ∧ x.outerLatched = false ∧ x.tOe.isSome = true ∧ s.frost.postThaw = none := by decide

theorem witness_climate_evaluation_applies_5 :
    let s : State := (evaluating .trim sampleInputs).withFrost { (evaluating .trim sampleInputs).frost with postThaw := some { seen := 1, high := true }, failed := 2 }; let x : EvalInputs := sampleInputs; let a : Count := 0; let ms : Nat := 3; let w : PostThaw := { seen := 1, high := true }; s.unit.engine = .climate x a ms false ∧ x.stage ≠ .thaw ∧ s.frost.stage ≠ .thaw ∧ s.frost.stage ≠ .lockout ∧ (∀ v ∈ x.tOutdoor, param s 10 < v) ∧ x.outerLatched = false ∧ x.tOe.isSome = true ∧ s.frost.postThaw = some w := by decide

theorem witness_climate_evaluation_applies_6 :
    let s : State := evaluating .watch { sampleInputs with outerLatched := true }; let x : EvalInputs := { sampleInputs with outerLatched := true }; let a : Count := 0; let ms : Nat := 3; s.unit.engine = .climate x a ms false ∧ x.stage ≠ .thaw ∧ s.frost.stage ≠ .thaw ∧ s.frost.stage ≠ .lockout ∧ (∀ v ∈ x.tOutdoor, param s 10 < v) ∧ x.outerLatched = true := by decide

theorem witness_climate_evaluation_applies_7 :
    let s : State := evaluating .thaw sampleInputs; let x : EvalInputs := sampleInputs; let a : Count := 0; let ms : Nat := 3; s.unit.engine = .climate x a ms false ∧ (x.stage = .thaw ∨ s.frost.stage = .thaw) ∧ s.frost.stage ≠ .lockout ∧ (∀ v ∈ x.tOutdoor, param s 10 < v) := by decide

theorem witness_climate_evaluation_applies_8 :
    let s : State := evaluating .watch sampleInputs; let x : EvalInputs := sampleInputs; let a : Count := 0; let ms : Nat := 3; s.unit.engine = .climate x a ms false ∧ s.mode.mode = .run ∧ windowClosedInLockout s.frost := by unfold windowClosedInLockout; decide

theorem witness_climate_evaluation_applies_9 :
    let s : State := evaluating .watch { sampleInputs with tOutdoor := some (-300) }; let x : EvalInputs := { sampleInputs with tOutdoor := some (-300) }; let a : Count := 0; let ms : Nat := 3; s.unit.engine = .climate x a ms false ∧ s.mode.mode = .run ∧ s.frost.stage ≠ .lockout ∧ s.own.direction ≠ .halt := by decide

theorem witness_filter_evaluation_and_hours_1 :
    let s : State := State.reset.withUnit { State.reset.unit with engine := .filter { ratioIn := 300, ratioOut := 300 } 0 2 false }; let x : FilterPair := { ratioIn := 300, ratioOut := 300 }; let a : Count := 0; let ms : Nat := 2; s.unit.engine = .filter x a ms false ∧ s.filt.learning = none ∧ 0 < s.filt.refIn ∧ 0 < s.filt.refOut := by decide

theorem witness_filter_evaluation_and_hours_2 :
    let s : State := (State.reset.withUnit { State.reset.unit with engine := .filter { ratioIn := 300, ratioOut := 300 } 0 2 false }).withFilt { State.reset.filt with learning := some 3 }; let x : FilterPair := { ratioIn := 300, ratioOut := 300 }; let a : Count := 0; let ms : Nat := 2; let n : Nat := 3; s.unit.engine = .filter x a ms false ∧ s.filt.learning = some n := by decide

theorem witness_filter_evaluation_and_hours_3 :
    let s : State := State.reset.withUnit { State.reset.unit with engine := .filter { ratioIn := 300, ratioOut := 300 } 0 2 false }; let x : FilterPair := { ratioIn := 300, ratioOut := 300 }; let a : Count := 0; let ms : Nat := 2; s.unit.engine = .filter x a ms false ∧ (param s 7 = 0 ∨ param s 7 = 1) := by decide

theorem witness_filter_evaluation_and_hours_4 :
    let s : State := runState.withUnit { runState.unit with engine := .filter { ratioIn := 300, ratioOut := 300 } 0 2 false }; let x : FilterPair := { ratioIn := 300, ratioOut := 300 }; let a : Count := 0; let ms : Nat := 2; s.unit.engine = .filter x a ms false ∧ s.mode.mode = .run := by decide

theorem witness_filter_evaluation_and_hours_5 :
    let t : Count := 1; let s : State := State.reset.withTime { State.reset.time with fanTime := 3686400 }; 3686400 ≤ (advanceTo t s).time.fanTime := by decide

theorem witness_button_and_demand_timers_1 :
    let s : State := runState; s.mode.mode ≠ .rest := by decide

theorem witness_button_and_demand_timers_2 :
    let s : State := restingState.withDemand { restingState.demand with flush := some 9 }; s.mode.mode = .rest ∧ s.demand.flush.isSome = true ∧ s.demand.button = none := by decide

theorem witness_button_and_demand_timers_3 :
    let s : State := pressedState; let p : Press := { since := 100, timed := true }; s.demand.button = some p := by decide

theorem witness_button_and_demand_timers_4 :
    let s : State := runState.withDemand { runState.demand with buttonBoost := some 9 }; let i : Count := 9; s.demand.buttonBoost = some i := by decide

theorem witness_button_and_demand_timers_5 :
    let s : State := runState.withDemand { runState.demand with runOn := some 9, humidity := .runOn }; let i : Count := 9; s.demand.runOn = some i := by decide

theorem witness_button_and_demand_timers_6 :
    let s : State := runState.withDemand { runState.demand with slot := some { level := .boost, source := 13, hold := some 9 } }; let h : HouseSlot := { level := .boost, source := 13, hold := some 9 }; let i : Count := 9; s.demand.slot = some h ∧ h.hold = some i := by decide

theorem witness_button_and_demand_timers_7 :
    let s : State := restingState.withDemand { restingState.demand with flush := some 9 }; let i : Count := 9; s.mode.mode = .rest ∧ s.demand.flush = some i := by decide

theorem witness_button_and_demand_timers_8 :
    let s : State := restingState.withDemand { restingState.demand with flush := some 9 }; let i : Count := 9; s.mode.mode = .rest ∧ s.demand.restTimer = some i ∧ s.demand.flush.isSome = true := by decide

theorem witness_store_writes_and_indicator_1 :
    let s : State := State.reset.withSvc { State.reset.svc with writing := some blankStore }; let image : StoreImage := blankStore; s.svc.writing = some image := by decide

theorem witness_store_writes_and_indicator_2 :
    let t : Count := 1; let s : State := runState.withTime { runState.time with runTime := 29491200 }; s.mode.mode = .run ∧ 29491200 ≤ (advanceTo t s).time.runTime := by decide

theorem witness_store_writes_and_indicator_3 :
    let s : State := State.reset.withMode { State.reset.mode with startHold := none }; s.mode.startHold = none ∧ conditionsFollow s := by unfold conditionsFollow; decide

theorem witness_store_writes_and_indicator_4 :
    let s : State := State.reset; s.mode.startHold.isSome = true ∧ conditionsFollow s := by unfold conditionsFollow; decide

end Sys2Proof.Tests
end

section
/-! ## The ends of a send: what READBACK_ERROR and LOST_ARBITRATION do to the entry on the line (R27, R28, R33)

First what each operation on the way leaves of the line block and of the two flushes, then one equation for a send that
ends in the OPEN state, then what a failed send does in every state. -/

namespace Sys2Proof.Laws

open Sys2Proof.Machine Sys2Proof.Safety

/-! ### The state around a command -/

section
variable (t : Count) (s : State)

@[simp] theorem advanceTo_line : (advanceTo t s).line = s.line := advanceTo_frame t s .line (by decide)
@[simp] theorem advanceTo_mode : (advanceTo t s).mode = s.mode := advanceTo_frame t s .mode (by decide)
@[simp] theorem advanceTo_demand : (advanceTo t s).demand = s.demand :=
  advanceTo_frame t s .demand (by decide)
@[simp] theorem finish_line : (finish s).line = s.line := rfl

/-- A command that rewrites the line block and ends changes the line and the conditions alone. -/
theorem finish_withLine_frame (l : LineControl) : othersKept [.line, .cond] s (finish (s.withLine l)) :=
  othersKept_append (withLine_frame s l) (finish_frame _)

end

/-! ### The transmit queue -/

theorem onLineEntry_some {e : TxEntry} {q : List TxEntry} (h : onLineEntry q = some e) :
    e ∈ q ∧ e.onLine = true :=
  ⟨List.mem_of_find?_eq_some h, List.find?_some (p := fun x : TxEntry => x.onLine) h⟩

/-- A class with an entry in the queue has one that the queue finds. -/
theorem entryOf_of_mem {e : TxEntry} {q : List TxEntry} (h : e ∈ q) : ∃ old, entryOf e.cls q = some old :=
  Option.ne_none_iff_exists'.mp fun hnone => entryOf_eq_none.mp hnone e h rfl

@[simp] theorem entryOf_withoutClass (cls : NoticeClass) (q : List TxEntry) :
    entryOf cls (withoutClass cls q) = none :=
  entryOf_eq_none.mpr fun _ h => (mem_withoutClass.mp h).2

section
variable (e : TxEntry) (s : State)

theorem takeReplacement_of_none (h : s.line.replacement = none) : takeReplacement s = s := by
  unfold takeReplacement
  rw [h]

@[simp] theorem takeReplacement_faultCount :
    (takeReplacement s).line.faultCount = s.line.faultCount := by
  unfold takeReplacement
  split <;> rfl

@[simp] theorem claimGone_line : (claimGone e s).line = s.line := by
  unfold claimGone
  split <;> rfl

@[simp] theorem claimGone_mode : (claimGone e s).mode = s.mode := by
  unfold claimGone
  split <;> rfl

@[simp] theorem acceptNotice_faultCount (l : LineControl) : (acceptNotice e l).faultCount = l.faultCount := by
  unfold acceptNotice
  split
  · split <;> rfl
  · split
    · rfl
    · split
      · split <;> rfl
      · rfl

@[simp] theorem queueNotice_faultCount : (queueNotice e s).line.faultCount = s.line.faultCount := by
  unfold queueNotice
  split
  · rfl
  · split
    · rfl
    · simp
  · simp

end

/-! ### The flushes that a send can end -/

section
variable (s : State)

@[simp] theorem modeStop_line : (modeStop s).line = s.line := by
  unfold modeStop
  rw [stopRequest_frame _ .line (by decide)]
  split <;> rfl

@[simp] theorem compareHours_line : (compareHours s).line = s.line := by
  unfold compareHours
  split
  · exact requestWrite_frame _ .line (by decide)
  · rfl

@[simp] theorem emptyPeers_line : (emptyPeers s).line = s.line := emptyPeers_frame s .line (by decide)
@[simp] theorem requestMarkedChecks_line : (requestMarkedChecks s).line = s.line := rfl
@[simp] theorem startListening_line : (startListening s).line = s.line := rfl
@[simp] theorem fanModeEntry_line : (fanModeEntry s).line = s.line := rfl
@[simp] theorem setWanted_line (d : Dir) : (setWanted d s).line = s.line := rfl
@[simp] theorem haltOwn_line : (haltOwn s).line = s.line := rfl
@[simp] theorem cutPass_line : (cutPass s).line = s.line := rfl
@[simp] theorem stopRestSampling_line : (stopRestSampling s).line = s.line := rfl

/-- The entry to JOIN leaves the line as it is. -/
@[simp] theorem joinEntry_line : (joinEntry s).line = s.line := by
  simp [joinEntry]

@[simp] theorem endSetupFlush_line : (endSetupFlush s).line = s.line := by
  have hwrite (x : State) : (requestWrite x).line = x.line := requestWrite_frame x .line (by decide)
  unfold endSetupFlush joinFromSetup
  dsimp only
  split
  · split
    · rw [joinEntry_line, hwrite]
      rfl
    · exact joinEntry_line _
  · rfl

/-- A held wake may queue its WAKE, and no notice that is queued moves the line fault count (R160, R162, R163). -/
@[simp] theorem endRestFlush_faultCount : (endRestFlush s).line.faultCount = s.line.faultCount := by
  unfold endRestFlush wakeStation queueWake
  dsimp only
  split
  · split <;> simp
  · simp

@[simp] theorem settleFlush_faultCount : (settleFlush s).line.faultCount = s.line.faultCount := by
  unfold settleFlush
  split
  · exact endRestFlush_faultCount s
  · split
    · rw [endSetupFlush_line]
    · rfl

theorem settleFlush_of_no_flush (hsetup : s.mode.setupFlush = none) (hrest : s.demand.flush = none) :
    settleFlush s = s := by
  simp [settleFlush, hsetup, hrest]

theorem settleFlush_of_run (h : s.mode.mode = .run) : settleFlush s = s := by
  simp [settleFlush, h]

end

/-! ### The charge of an error (R39 to R42) -/

/-- The line fault count of a state charged, before the line state follows it. -/
def addCharge (s : State) : State :=
  s.withLine { s.line with faultCount := min (s.line.faultCount + 4) 64 }

section
variable (s : State)

/-- All that a charge can do: it moves the count, and may enter MUTED or CUT OFF. -/
theorem chargeLine_cases :
    chargeLine s = addCharge s ∨ chargeLine s = enterMuted (addCharge s) ∨
      chargeLine s = enterCutOff (addCharge s) := by
  unfold chargeLine
  dsimp only
  split
  · exact .inr (.inl rfl)
  · exact .inr (.inr rfl)
  · exact .inr (.inr rfl)
  · exact .inl rfl

/-- Below 32 the line stays OPEN, and the charge moves the count alone. -/
theorem chargeLine_of_open (h : s.line.faultCount + 4 < 32) :
    chargeLine s = s.withLine { s.line with faultCount := s.line.faultCount + 4 } := by
  have hmin : min (s.line.faultCount + 4) 64 = s.line.faultCount + 4 := by omega
  have hbefore : s.line.faultCount < 32 := by omega
  simp [chargeLine, lineState, lineStateOf, hmin, hbefore, h]

@[simp] theorem chargeLine_mode : (chargeLine s).mode = s.mode := chargeLine_frame s .mode (by decide)

theorem chargeLine_replacement (h : s.line.replacement = none) : (chargeLine s).line.replacement = none := by
  obtain hc | hc | hc := chargeLine_cases s <;> rw [hc]
  · exact h
  · simp [enterMuted, countDrops, addCharge, h]
  · rfl

/-- A charge brings no entry into the queue. -/
theorem mem_of_mem_chargeLine {x : TxEntry} (h : x ∈ (chargeLine s).line.txq) : x ∈ s.line.txq := by
  obtain hc | hc | hc := chargeLine_cases s <;> rw [hc] at h
  · exact h
  · exact (List.mem_filter.mp h).1
  · simp [enterCutOff, countDrops] at h

/-- The entry on the line outlives the entry to MUTED, and its loss on the entry to CUT OFF is counted (R40, R41). -/
theorem chargeLine_onLine {e : TxEntry} (hmem : e ∈ s.line.txq) (hon : e.onLine = true)
    (hdrops : s.line.drops < 255) :
    (e ∈ (chargeLine s).line.txq ∧ s.line.drops ≤ (chargeLine s).line.drops) ∨
      s.line.drops < (chargeLine s).line.drops := by
  obtain hc | hc | hc := chargeLine_cases s <;> rw [hc]
  · exact .inl ⟨hmem, Nat.le_refl _⟩
  · refine .inl ⟨List.mem_filter.mpr ⟨hmem, by simp [hon]⟩, ?_⟩
    simp only [enterMuted, countDrops, addCharge, State.withLine_line]
    omega
  · have := List.length_pos_of_mem hmem
    right
    simp only [enterCutOff, countDrops, addCharge, State.withLine_line]
    omega

end

/-! ### The entry whose attempt failed (R28, R33, R40, R41) -/

section
variable {e : TxEntry} {s : State}

/-- In the OPEN state the entry is offered again with one attempt more, or dropped at its third error (R33). -/
theorem keepAfterError_of_open (hmem : e ∈ s.line.txq) (hopen : lineState s = .openLine) :
    keepAfterError e s =
      if e.attempts < 2 then
        s.withLine { s.line with
          txq := setEntry { e with onLine := false, attempts := e.attempts + 1 } s.line.txq }
      else countDrops 1 (removeEntry e.cls s) := by
  obtain ⟨old, hold⟩ := entryOf_of_mem hmem
  by_cases h : e.attempts < 2
  · have : ¬ 3 ≤ e.attempts + 1 := by omega
    simp [keepAfterError, hold, mutedLoss, hopen, h, this]
  · have : 3 ≤ e.attempts + 1 := by omega
    simp [keepAfterError, hold, h, this]

/-- At its third error the entry is dropped and counted, in every line state, unless it is gone already. -/
theorem keepAfterError_of_third (h : 2 ≤ e.attempts) :
    keepAfterError e s =
      if entryOf e.cls s.line.txq = none then s else countDrops 1 (removeEntry e.cls s) := by
  have : 3 ≤ e.attempts + 1 := by omega
  unfold keepAfterError
  split <;> simp [*]

variable (e s)

@[simp] theorem keepAfterError_faultCount :
    (keepAfterError e s).line.faultCount = s.line.faultCount := by
  unfold keepAfterError
  split
  · rfl
  · split <;> rfl

theorem keepAfterError_replacement :
    (keepAfterError e s).line.replacement = s.line.replacement := by
  unfold keepAfterError
  split
  · rfl
  · split <;> rfl

@[simp] theorem keepAfterError_mode : (keepAfterError e s).mode = s.mode := by
  unfold keepAfterError
  split
  · rfl
  · split <;> rfl

end

/-! ### A failed send (R28, R33, R34) -/

/-- What a readback error makes of the entry on the line, before a replacement and a flush are looked at. -/
def failEntry (e : TxEntry) (s : State) : State :=
  if e.withdrawn then chargeLine (claimGone e (removeEntry e.cls s)) else keepAfterError e (chargeLine s)

section
variable {e : TxEntry} {s : State}

theorem failSend_of_sending (hphase : s.line.phase = .sending) (he : onLineEntry s.line.txq = some e) :
    failSend s = settleFlush (takeReplacement (failEntry e (withPhase .busy s))) := by
  simp only [failSend, he, hphase, if_true]
  rfl

variable (e s)

@[simp] theorem failEntry_faultCount :
    (failEntry e s).line.faultCount = min (s.line.faultCount + 4) 64 := by
  unfold failEntry
  split <;> simp [removeEntry]

@[simp] theorem failEntry_mode : (failEntry e s).mode = s.mode := by
  unfold failEntry
  split <;> simp [removeEntry]

theorem failEntry_replacement (h : s.line.replacement = none) : (failEntry e s).line.replacement = none := by
  unfold failEntry
  split
  · exact chargeLine_replacement _ (by simp [removeEntry, h])
  · rw [keepAfterError_replacement, chargeLine_replacement s h]

variable {e s}

/-- After its third error no entry of its class is in the queue, in every line state (R33, R41). -/
theorem failEntry_third_gone (h : 2 ≤ e.attempts) : entryOf e.cls (failEntry e s).line.txq = none := by
  unfold failEntry
  split
  · refine entryOf_eq_none.mpr fun x hx => ?_
    have hleft := mem_of_mem_chargeLine _ hx
    rw [claimGone_line] at hleft
    exact (mem_withoutClass.mp hleft).2
  · rw [keepAfterError_of_third h]
    split
    · assumption
    · exact entryOf_withoutClass _ _

/-- The loss of an entry not withdrawn at its third error is counted, by the error or by CUT OFF (R33, R41). -/
theorem failEntry_third_counted (h : 2 ≤ e.attempts) (hmem : e ∈ s.line.txq) (hon : e.onLine = true)
    (hkept : e.withdrawn = false) (hdrops : s.line.drops < 255) :
    s.line.drops < (failEntry e s).line.drops := by
  have hcharge := chargeLine_onLine s hmem hon hdrops
  simp only [failEntry, hkept, Bool.false_eq_true, if_false, keepAfterError_of_third h]
  split
  next hgone =>
    obtain ⟨hin, -⟩ | hlt := hcharge
    · exact absurd rfl (entryOf_eq_none.mp hgone e hin)
    · exact hlt
  next =>
    simp only [countDrops, removeEntry, State.withLine_line]
    omega

/-- Below a count of 32 the entry is charged and offered again, or charged, dropped and counted (R33, R39). -/
theorem failEntry_of_open (hmem : e ∈ s.line.txq) (hkept : e.withdrawn = false)
    (hcount : s.line.faultCount + 4 < 32) :
    failEntry e s = s.withLine
      (if e.attempts < 2 then
        { s.line with
          faultCount := s.line.faultCount + 4
          txq := setEntry { e with onLine := false, attempts := e.attempts + 1 } s.line.txq }
      else
        { s.line with
          faultCount := s.line.faultCount + 4, drops := min (s.line.drops + 1) 255
          txq := withoutClass e.cls s.line.txq }) := by
  have hcharge := chargeLine_of_open s hcount
  have hmem' : e ∈ (chargeLine s).line.txq := by simpa [hcharge]
  have hopen : lineState (chargeLine s) = .openLine := by simp [hcharge, lineState, lineStateOf, hcount]
  simp only [failEntry, hkept, Bool.false_eq_true, if_false, keepAfterError_of_open hmem' hopen]
  rw [hcharge]
  split <;> rfl

/-- Below a count of 32, with no replacement waiting and no flush, only the line block changes (R33, R39). -/
theorem failSend_of_open (hphase : s.line.phase = .sending) (he : onLineEntry s.line.txq = some e)
    (hkept : e.withdrawn = false) (hrepl : s.line.replacement = none) (hcount : s.line.faultCount + 4 < 32)
    (hsetup : s.mode.setupFlush = none) (hrest : s.demand.flush = none) :
    failSend s = s.withLine
      (if e.attempts < 2 then
        { s.line with
          phase := .busy, faultCount := s.line.faultCount + 4
          txq := setEntry { e with onLine := false, attempts := e.attempts + 1 } s.line.txq }
      else
        { s.line with
          phase := .busy, faultCount := s.line.faultCount + 4, drops := min (s.line.drops + 1) 255
          txq := withoutClass e.cls s.line.txq }) := by
  obtain ⟨hmem, -⟩ := onLineEntry_some he
  have hnone := failEntry_replacement e (withPhase .busy s) hrepl
  rw [failSend_of_sending hphase he, takeReplacement_of_none _ hnone,
    failEntry_of_open (s := withPhase .busy s) hmem hkept hcount]
  exact settleFlush_of_no_flush _ hsetup hrest

/-- In RUN with no replacement waiting, the failed entry's fate is the end of the matter. -/
theorem failSend_of_run (hphase : s.line.phase = .sending) (he : onLineEntry s.line.txq = some e)
    (hrepl : s.line.replacement = none) (hrun : s.mode.mode = .run) :
    failSend s = failEntry e (withPhase .busy s) := by
  have hnone := failEntry_replacement e (withPhase .busy s) hrepl
  rw [failSend_of_sending hphase he, takeReplacement_of_none _ hnone]
  exact settleFlush_of_run _ (by rw [failEntry_mode]; exact hrun)

theorem failSend_faultCount (hphase : s.line.phase = .sending) (he : onLineEntry s.line.txq = some e) :
    (failSend s).line.faultCount = min (s.line.faultCount + 4) 64 := by
  rw [failSend_of_sending hphase he, settleFlush_faultCount, takeReplacement_faultCount,
    failEntry_faultCount]
  rfl

/-! ### A lost arbitration (R27) -/

/-- In the OPEN state, with no replacement waiting and no flush, the entry comes off the line and stays as it is. -/
theorem loseArbitration_of_open (hphase : s.line.phase = .sending) (he : onLineEntry s.line.txq = some e)
    (hkept : e.withdrawn = false) (hrepl : s.line.replacement = none) (hopen : lineState s = .openLine)
    (hsetup : s.mode.setupFlush = none) (hrest : s.demand.flush = none) :
    loseArbitration s = s.withLine { s.line with
      phase := .receiving, txq := setEntry { e with onLine := false } s.line.txq } := by
  have hstate : lineState (withPhase .receiving s) = .openLine := hopen
  have hkeep : keepAfterArbitration e (withPhase .receiving s) = s.withLine { s.line with
      phase := .receiving, txq := setEntry { e with onLine := false } s.line.txq } := by
    simp only [keepAfterArbitration, mutedLoss, hkept, hstate, Bool.false_eq_true, if_false]
    rfl
  have hnone : (keepAfterArbitration e (withPhase .receiving s)).line.replacement = none := by
    rw [hkeep]
    exact hrepl
  simp only [loseArbitration, he, hphase, if_true]
  rw [takeReplacement_of_none _ hnone, hkeep]
  exact settleFlush_of_no_flush _ hsetup hrest

end

/-- Settles O23, from the equation of a failed send in the OPEN state, what a failed send does to its entry in every line
state, and the equation of a lost arbitration. -/
theorem readbackErrorsChargeAndDrop : Obligations.ReadbackErrorsChargeAndDrop := by
  refine ⟨?belowMuted, ?everyState, ?arbitration⟩
  case belowMuted =>
    intro t s e hphase he hkept hrepl hcount hsetup hrest
    have hfail := failSend_of_open (s := advanceTo t s) (e := e) (by simpa) (by simpa [onLineEntry]) hkept
      (by simpa) (by simpa) (by simpa) (by simpa)
    refine ⟨finish (failSend (advanceTo t s)), rfl, ?_, ?_⟩
    · rw [hfail, finish_line, State.withLine_line, advanceTo_line]
    · rw [hfail]
      exact finish_withLine_frame _ _
  case everyState =>
    intro t s e hphase he
    have hphase' : (advanceTo t s).line.phase = .sending := by simpa
    have he' : onLineEntry (advanceTo t s).line.txq = some e := by simpa [onLineEntry]
    obtain ⟨hmem, hon⟩ := onLineEntry_some he'
    refine ⟨finish (failSend (advanceTo t s)), rfl, ?_, fun hthird hrepl hrun => ?_⟩
    · rw [finish_line, failSend_faultCount hphase' he', advanceTo_line]
    · rw [finish_line, failSend_of_run hphase' he' (by simpa) (by simpa)]
      refine ⟨failEntry_third_gone hthird, fun hkept hdrops => ?_⟩
      have hcounted := failEntry_third_counted (s := withPhase .busy (advanceTo t s)) hthird hmem hon hkept
        (by simpa [withPhase])
      simpa [withPhase] using hcounted
  case arbitration =>
    intro t s e hphase he hkept hrepl hopen hsetup hrest
    have hlose := loseArbitration_of_open (s := advanceTo t s) (e := e) (by simpa) (by simpa [onLineEntry]) hkept
      (by simpa) (by simpa [lineState]) (by simpa) (by simpa)
    refine ⟨finish (loseArbitration (advanceTo t s)), rfl, ?_⟩
    simp [hlose]

end Sys2Proof.Laws
end

section
/-! ## The balance pass: what it gives each participant, and what its completion writes (R80 to R83, R88)

First the proportional division that both cases share, then the flows of a taking and of a giving side, then the
pass as a whole, and last the state after PASS_COMPLETE. -/

namespace Sys2Proof.Laws

open Sys2Proof.Machine Sys2Proof.Safety

/-! ### Sums over a list

Of naturals and with what core Lean has: this text is also compiled without Mathlib. -/

section
variable {α : Type} {f g : α → Nat} {xs : List α}

theorem natSum_map_add (f g : α → Nat) (xs : List α) :
    (xs.map fun x => f x + g x).sum = (xs.map f).sum + (xs.map g).sum := by
  induction xs with
  | nil => rfl
  | cons x xs ih =>
    simp only [List.map_cons, List.sum_cons, ih]
    omega

theorem natSum_map_mul (n : Nat) (f : α → Nat) (xs : List α) :
    (xs.map fun x => n * f x).sum = n * (xs.map f).sum := by
  induction xs with
  | nil => rfl
  | cons x xs ih => simp only [List.map_cons, List.sum_cons, ih, Nat.mul_add]

theorem natSum_map_le (h : ∀ x ∈ xs, f x ≤ g x) : (xs.map f).sum ≤ (xs.map g).sum := by
  induction xs with
  | nil => exact Nat.le_refl _
  | cons x xs ih =>
    obtain ⟨hx, hxs⟩ := List.forall_mem_cons.mp h
    simp only [List.map_cons, List.sum_cons]
    exact Nat.add_le_add hx (ih hxs)

end

/-! ### The division in proportion (R81, R82) -/

/-- The truncated share of a participant in `total`. -/
def truncShare (total : Nat) (weight : Participant → Nat) (ps : List Participant) (p : Participant) : Nat :=
  total * weight p / (ps.map weight).sum

/-- What the truncated shares leave of `total`. -/
def leftOver (total : Nat) (weight : Participant → Nat) (ps : List Participant) : Nat :=
  total - (ps.map (truncShare total weight ps)).sum

/-- A participant's part of `total`: its truncated share, and one code more if its share is below its weight and
fewer of those before it in node order than the remainder has codes are so too (R81, R82). -/
def nodePart (total : Nat) (weight : Participant → Nat) (ps : List Participant) (p : Participant) : Nat :=
  truncShare total weight ps p +
    (if truncShare total weight ps p < weight p ∧
        (ps.filter fun q => q.node < p.node ∧ truncShare total weight ps q < weight q).length <
          leftOver total weight ps then 1 else 0)

/-- Each participant with its part of `total`. -/
def awards (total : Nat) (weight : Participant → Nat) (ps : List Participant) : List (Participant × Nat) :=
  ps.zip (apportion total (ps.map weight))

/-- The first share gets one code while the remainder lasts, if it is below its weight. -/
theorem addRemainder_cons (r share weight : Nat) (rest : List (Nat × Nat)) :
    addRemainder r ((share, weight) :: rest) =
      (share + if share < weight ∧ 0 < r then 1 else 0) ::
        addRemainder (if share < weight then r - 1 else r) rest := by
  cases r with
  | zero => simp [addRemainder]
  | succ r => by_cases h : share < weight <;> simp [addRemainder, h]

@[simp] theorem addRemainder_length (r : Nat) (xs : List (Nat × Nat)) : (addRemainder r xs).length = xs.length := by
  induction xs generalizing r with
  | nil => simp [addRemainder]
  | cons x xs ih =>
    obtain ⟨share, weight⟩ := x
    simp [addRemainder_cons, ih]

section
variable (share weight : Participant → Nat)

theorem addRemainder_sum (r : Nat) (ps : List Participant) :
    (addRemainder r (ps.map fun p => (share p, weight p))).sum =
      (ps.map share).sum + min r (ps.map fun p => if share p < weight p then 1 else 0).sum := by
  induction ps generalizing r with
  | nil => simp [addRemainder]
  | cons p ps ih =>
    simp only [List.map_cons, addRemainder_cons, List.sum_cons, ih]
    by_cases hbelow : share p < weight p
    · simp only [hbelow, true_and, if_true]
      split <;> omega
    · simp only [hbelow, false_and, if_false]
      omega

/-- No share that is within its weight is raised above it. -/
theorem addRemainder_le_weight {r : Nat} {ps : List Participant} (hle : ∀ p ∈ ps, share p ≤ weight p) :
    ∀ x ∈ ps.zip (addRemainder r (ps.map fun p => (share p, weight p))), x.2 ≤ weight x.1 := by
  induction ps generalizing r with
  | nil => simp
  | cons p ps ih =>
    obtain ⟨hp, hps⟩ := List.forall_mem_cons.mp hle
    rw [List.map_cons, addRemainder_cons, List.zip_cons_cons]
    refine List.forall_mem_cons.mpr ⟨?_, ih hps⟩
    dsimp only
    split <;> omega

/-- In ascending node order, those before a participant in the list are those of lower node. -/
theorem addRemainder_of_ascending {r : Nat} {ps : List Participant} (hasc : ascending Participant.node ps) :
    addRemainder r (ps.map fun p => (share p, weight p)) =
      ps.map fun p => share p +
        (if share p < weight p ∧ (ps.filter fun q => q.node < p.node ∧ share q < weight q).length < r
          then 1 else 0) := by
  induction ps generalizing r with
  | nil => simp [addRemainder]
  | cons p ps ih =>
    obtain ⟨hp, hps⟩ := List.pairwise_cons.mp hasc
    have hnone : ((p :: ps).filter fun q => q.node < p.node ∧ share q < weight q) = [] := by
      refine List.filter_eq_nil_iff.mpr fun q hq => ?_
      have hnot : ¬ q.node < p.node := by
        obtain rfl | hq := List.mem_cons.mp hq
        · exact Nat.lt_irrefl _
        · exact Nat.lt_asymm (hp q hq)
      exact fun h => hnot (of_decide_eq_true h).1
    rw [List.map_cons, addRemainder_cons, ih hps, List.map_cons]
    congr 1
    · simp only [hnone, List.length_nil]
    · refine List.map_congr_left fun q hq => ?_
      have hlt := hp q hq
      have hcount : ((p :: ps).filter fun x => x.node < q.node ∧ share x < weight x).length =
          (if share p < weight p then 1 else 0) +
            (ps.filter fun x => x.node < q.node ∧ share x < weight x).length := by
        rw [List.filter_cons]
        by_cases hbelow : share p < weight p
        · simp only [hlt, hbelow, and_self, decide_true, if_true, List.length_cons, Nat.add_comm]
        · simp only [hbelow, and_false, decide_false, Bool.false_eq_true, if_false, Nat.zero_add]
      rw [hcount]
      refine congrArg (share q + ·) (ite_congr (propext (and_congr_right fun _ => ?_)) (fun _ => rfl) fun _ => rfl)
      split <;> omega

end

section
variable {total : Nat} {weight : Participant → Nat} {ps : List Participant}

theorem apportion_map (total : Nat) (weight : Participant → Nat) (ps : List Participant) :
    apportion total (ps.map weight) =
      addRemainder (leftOver total weight ps) (ps.map fun p => (truncShare total weight ps p, weight p)) := by
  simp only [apportion, List.map_map]
  rfl

@[simp] theorem apportion_length (ws : List Nat) : (apportion total ws).length = ws.length := by
  simp [apportion]

theorem truncShare_le_weight (hle : total ≤ (ps.map weight).sum) (p : Participant) :
    truncShare total weight ps p ≤ weight p :=
  Nat.div_le_of_le_mul (Nat.mul_le_mul_right _ hle)

/-- The truncated shares do not exceed `total`. -/
theorem truncShare_sum_le (hle : total ≤ (ps.map weight).sum) :
    (ps.map (truncShare total weight ps)).sum ≤ total := by
  obtain hzero | hpos := Nat.eq_zero_or_pos (ps.map weight).sum
  · have hweights : (ps.map (truncShare total weight ps)).sum ≤ (ps.map weight).sum :=
      natSum_map_le fun p _ => truncShare_le_weight hle p
    omega
  · refine Nat.le_of_mul_le_mul_left ?_ hpos
    calc (ps.map weight).sum * (ps.map (truncShare total weight ps)).sum
        = (ps.map fun p => (ps.map weight).sum * truncShare total weight ps p).sum :=
          (natSum_map_mul ..).symm
      _ ≤ (ps.map fun p => total * weight p).sum := natSum_map_le fun p _ => Nat.mul_div_le _ _
      _ = (ps.map weight).sum * total := by rw [natSum_map_mul, Nat.mul_comm]

/-- With one code more wherever the share is below its weight, the shares reach `total`. -/
theorem le_truncShare_sum_add (hle : total ≤ (ps.map weight).sum) :
    total ≤ (ps.map (truncShare total weight ps)).sum +
      (ps.map fun p => if truncShare total weight ps p < weight p then 1 else 0).sum := by
  obtain hzero | hpos := Nat.eq_zero_or_pos (ps.map weight).sum
  · omega
  · refine Nat.le_of_mul_le_mul_left ?_ hpos
    rw [← natSum_map_add, ← natSum_map_mul, Nat.mul_comm, ← natSum_map_mul]
    refine natSum_map_le fun p _ => ?_
    split
    next => exact Nat.le_of_lt (Nat.lt_mul_div_succ _ hpos)
    next hbelow => exact Nat.mul_le_mul hle (Nat.le_of_not_lt hbelow)

/-- The parts add up to what is divided. -/
theorem apportion_sum (hle : total ≤ (ps.map weight).sum) : (apportion total (ps.map weight)).sum = total := by
  have hlower := truncShare_sum_le hle
  have hupper := le_truncShare_sum_add hle
  rw [apportion_map, addRemainder_sum]
  unfold leftOver
  omega

@[simp] theorem awards_fst : (awards total weight ps).map Prod.fst = ps :=
  List.map_fst_zip (by simp)

theorem awards_snd_sum (hle : total ≤ (ps.map weight).sum) :
    ((awards total weight ps).map Prod.snd).sum = total := by
  rw [awards, List.map_snd_zip (by simp), apportion_sum hle]

/-- No part exceeds its weight. -/
theorem awards_le_weight (hle : total ≤ (ps.map weight).sum) : ∀ x ∈ awards total weight ps, x.2 ≤ weight x.1 := by
  rw [awards, apportion_map]
  exact addRemainder_le_weight _ _ fun p _ => truncShare_le_weight hle p

theorem awards_of_ascending (hasc : ascending Participant.node ps) :
    awards total weight ps = ps.map fun p => (p, nodePart total weight ps p) := by
  rw [awards, apportion_map, addRemainder_of_ascending _ _ hasc]
  exact List.map_prod_left_eq_zip.symm

theorem awards_map_of_fst (f : Participant → Nat) :
    ((awards total weight ps).map fun x => f x.1) = ps.map f := by
  calc ((awards total weight ps).map fun x => f x.1)
      = ((awards total weight ps).map Prod.fst).map f := List.map_map.symm
    _ = ps.map f := by rw [awards_fst]

end

/-! ### The flows of the two sides (R80 to R82) -/

theorem work_le_ceil (p : Participant) : p.work ≤ p.ceil := Nat.min_le_right _ _

/-- Headroom is what C leaves above w, so w and headroom fill C (R80). -/
theorem ceil_sum (ps : List Participant) : (ps.map Participant.ceil).sum = workSum ps + headSum ps := by
  rw [workSum, headSum, ← natSum_map_add]
  exact congrArg List.sum (List.map_congr_left fun p _ => (Nat.add_sub_cancel' (work_le_ceil p)).symm)

theorem zip_zipWith_map {α β γ δ : Type} (f : γ → β → δ) (g : α → γ) (xs : List α) (ys : List β) :
    xs.zip (List.zipWith f (xs.map g) ys) = (xs.zip ys).map fun x => (x.1, f (g x.1) x.2) := by
  induction xs generalizing ys with
  | nil => rfl
  | cons x xs ih =>
    cases ys with
    | nil => rfl
    | cons y ys => simp [ih]

section
variable {takers givers : List Participant}

/-- Case A: the headroom covers the excess (R81). -/
theorem sidedFlows_of_room (h : workSum givers - workSum takers ≤ headSum takers) :
    sidedFlows takers givers =
      ((awards (workSum givers - workSum takers) Participant.head takers).map fun x => (x.1, x.1.work + x.2)) ++
        givers.map fun p => (p, p.work) := by
  simp only [sidedFlows, takerFlows, giverFlows, if_pos h]
  rw [zip_zipWith_map, List.map_prod_left_eq_zip]
  rfl

/-- Case B: the excess goes beyond the headroom (R82). -/
theorem sidedFlows_of_short (h : headSum takers < workSum givers - workSum takers) :
    sidedFlows takers givers =
      (takers.map fun p => (p, p.ceil)) ++
        (awards (workSum givers - workSum takers - headSum takers) Participant.work givers).map
          fun x => (x.1, x.1.work - x.2) := by
  simp only [sidedFlows, takerFlows, giverFlows, if_neg (Nat.not_le_of_lt h)]
  rw [zip_zipWith_map, List.map_prod_left_eq_zip]
  rfl

/-- The flows `ts` of the takers and `gs` of the givers balance: equal sums, the takers raised within C, the givers
lowered (R80 to R83). -/
structure Balanced (takers givers : List Participant) (ts gs : List (Participant × Nat)) : Prop where
  taken : ts.map Prod.fst = takers
  given : gs.map Prod.fst = givers
  sums : (ts.map Prod.snd).sum = (gs.map Prod.snd).sum
  raised : ∀ x ∈ ts, x.1.work ≤ x.2 ∧ x.2 ≤ x.1.ceil
  lowered : ∀ x ∈ gs, x.2 ≤ x.1.work

theorem balanced_of_room (hle : workSum takers ≤ workSum givers)
    (h : workSum givers - workSum takers ≤ headSum takers) :
    Balanced takers givers
      ((awards (workSum givers - workSum takers) Participant.head takers).map fun x => (x.1, x.1.work + x.2))
      (givers.map fun p => (p, p.work)) where
  taken := by simp [Function.comp_def]
  given := by simp [Function.comp_def]
  sums := by
    simp only [List.map_map, Function.comp_def]
    rw [natSum_map_add, awards_map_of_fst, awards_snd_sum h]
    exact Nat.add_sub_cancel' hle
  raised := List.forall_mem_map.mpr fun x hx => by
    have hpart : x.2 ≤ x.1.head := awards_le_weight h x hx
    have hceil := work_le_ceil x.1
    unfold Participant.head at hpart
    dsimp only
    omega
  lowered := by simp

theorem balanced_of_short (hle : workSum takers ≤ workSum givers)
    (h : headSum takers < workSum givers - workSum takers) :
    Balanced takers givers (takers.map fun p => (p, p.ceil))
      ((awards (workSum givers - workSum takers - headSum takers) Participant.work givers).map
        fun x => (x.1, x.1.work - x.2)) where
  taken := by simp [Function.comp_def]
  given := by simp [Function.comp_def]
  sums := by
    have hcut : workSum givers - workSum takers - headSum takers ≤ workSum givers := by omega
    have hleft : ∀ x ∈ awards (workSum givers - workSum takers - headSum takers) Participant.work givers,
        x.1.work - x.2 + x.2 = x.1.work :=
      fun x hx => Nat.sub_add_cancel (awards_le_weight hcut x hx)
    have hgivers := congrArg List.sum (List.map_congr_left hleft)
    rw [natSum_map_add, awards_snd_sum hcut, awards_map_of_fst] at hgivers
    simp only [List.map_map, Function.comp_def, ceil_sum]
    change _ = workSum givers at hgivers
    omega
  raised := List.forall_mem_map.mpr fun p _ => ⟨work_le_ceil p, Nat.le_refl _⟩
  lowered := List.forall_mem_map.mpr fun x _ => Nat.sub_le _ _

/-- The sided flows are those of the takers before those of the givers, and they balance (R83). -/
theorem sidedFlows_balanced (hle : workSum takers ≤ workSum givers) :
    ∃ ts gs, sidedFlows takers givers = ts ++ gs ∧ Balanced takers givers ts gs := by
  obtain hshort | hroom := Nat.lt_or_ge (headSum takers) (workSum givers - workSum takers)
  · exact ⟨_, _, sidedFlows_of_short hshort, balanced_of_short hle hshort⟩
  · exact ⟨_, _, sidedFlows_of_room hroom, balanced_of_room hle hroom⟩

end

/-! ### The pass as a whole (R80, R83) -/

theorem side_eq_or (a b : Side) : a = b ∨ a = otherSide b := by
  cases a <;> cases b <;> simp [otherSide]

@[simp] theorem otherSide_ne (side : Side) : otherSide side ≠ side := by
  cases side <;> simp [otherSide]

@[simp] theorem otherSide_otherSide (side : Side) : otherSide (otherSide side) = side := by
  cases side <;> rfl

theorem side_of_mem_onSide {side : Side} {ps : List Participant} {p : Participant} (h : p ∈ onSide side ps) :
    p.side = side :=
  of_decide_eq_true (List.mem_filter.mp h).2

/-- Every participant is on one side or the other. -/
theorem onSide_perm (side : Side) (ps : List Participant) :
    (onSide side ps ++ onSide (otherSide side) ps).Perm ps := by
  have hother : onSide (otherSide side) ps = ps.filter fun p => !decide (p.side = side) := by
    refine List.filter_congr fun p _ => ?_
    obtain h | h := side_eq_or p.side side <;> simp [h, (otherSide_ne side).symm]
  rw [hother]
  exact List.filter_append_perm _ _

theorem flowSum_append (side : Side) (xs ys : List (Participant × Nat)) :
    flowSum side (xs ++ ys) = flowSum side xs + flowSum side ys := by
  simp [flowSum]

/-- The flows of one side's participants count for that side in full. -/
theorem flowSum_same {side : Side} {xs : List (Participant × Nat)} (h : ∀ x ∈ xs, x.1.side = side) :
    flowSum side xs = (xs.map Prod.snd).sum := by
  rw [flowSum, List.filter_eq_self.mpr fun x hx => decide_eq_true (h x hx)]

/-- And for the other side not at all. -/
theorem flowSum_other {side : Side} {xs : List (Participant × Nat)} (h : ∀ x ∈ xs, x.1.side ≠ side) :
    flowSum side xs = 0 := by
  rw [flowSum, List.filter_eq_nil_iff.mpr fun x hx => by simpa using h x hx]
  rfl

section
variable {ps : List Participant}

/-- Nothing has to be moved: a side is empty, or both want the same (R80). -/
def passEven (ps : List Participant) : Prop :=
  onSide .inward ps = [] ∨ onSide .outward ps = [] ∨ workSum (onSide .inward ps) = workSum (onSide .outward ps)

/-- `side` is the taking side: it is not empty, and wants less than the other (R80). -/
def passTaking (side : Side) (ps : List Participant) : Prop :=
  onSide side ps ≠ [] ∧ workSum (onSide side ps) < workSum (onSide (otherSide side) ps)

theorem passFlows_of_even (h : passEven ps) : passFlows ps = ps.map fun p => (p, p.work) := if_pos h

theorem passTaking_other_ne {side : Side} (h : passTaking side ps) : onSide (otherSide side) ps ≠ [] := by
  obtain ⟨-, hlt⟩ := h
  intro hnil
  simp [hnil, workSum] at hlt

theorem not_passEven_of_taking {side : Side} (h : passTaking side ps) : ¬ passEven ps := by
  have hother := passTaking_other_ne h
  obtain ⟨hne, hlt⟩ := h
  cases side with
  | inward => exact not_or.mpr ⟨hne, not_or.mpr ⟨hother, Nat.ne_of_lt hlt⟩⟩
  | outward => exact not_or.mpr ⟨hother, not_or.mpr ⟨hne, Nat.ne_of_gt hlt⟩⟩

theorem passFlows_of_taking {side : Side} (h : passTaking side ps) :
    passFlows ps = sidedFlows (onSide side ps) (onSide (otherSide side) ps) := by
  have hodd := not_passEven_of_taking h
  cases side with
  | inward => exact (if_neg hodd).trans (if_pos h.2)
  | outward => exact (if_neg hodd).trans (if_neg (Nat.lt_asymm h.2))

theorem passEven_or_taking (ps : List Participant) : passEven ps ∨ ∃ side, passTaking side ps := by
  by_cases heven : passEven ps
  · exact .inl heven
  · simp only [passEven, not_or] at heven
    obtain ⟨hin, hout, hne⟩ := heven
    obtain hlt | hgt := Nat.lt_or_gt_of_ne hne
    · exact .inr ⟨.inward, hin, hlt⟩
    · exact .inr ⟨.outward, hout, hgt⟩

/-- A pass with a taking side gives the flows of that side and then those of the other, and they balance. -/
theorem passFlows_balanced {side : Side} (h : passTaking side ps) :
    ∃ ts gs, passFlows ps = ts ++ gs ∧ Balanced (onSide side ps) (onSide (otherSide side) ps) ts gs := by
  rw [passFlows_of_taking h]
  exact sidedFlows_balanced (Nat.le_of_lt h.2)

theorem Balanced.side_taken {side : Side} {givers : List Participant} {ts gs : List (Participant × Nat)}
    (hb : Balanced (onSide side ps) givers ts gs) : ∀ x ∈ ts, x.1.side = side := fun _ hx =>
  side_of_mem_onSide (ps := ps) (hb.taken ▸ List.mem_map_of_mem hx)

theorem Balanced.side_given {side : Side} {takers : List Participant} {ts gs : List (Participant × Nat)}
    (hb : Balanced takers (onSide side ps) ts gs) : ∀ x ∈ gs, x.1.side = side := fun _ hx =>
  side_of_mem_onSide (ps := ps) (hb.given ▸ List.mem_map_of_mem hx)

/-- Every participant gets one flow. -/
theorem passFlows_perm (ps : List Participant) : ((passFlows ps).map fun x => x.1).Perm ps := by
  obtain heven | ⟨side, htaking⟩ := passEven_or_taking ps
  · simp [passFlows_of_even heven, Function.comp_def]
  · obtain ⟨ts, gs, hflows, hb⟩ := passFlows_balanced htaking
    rw [hflows, List.map_append, hb.taken, hb.given]
    exact onSide_perm side ps

theorem passFlows_le_ceil (ps : List Participant) : ∀ x ∈ passFlows ps, x.2 ≤ x.1.ceil := by
  obtain heven | ⟨side, htaking⟩ := passEven_or_taking ps
  · rw [passFlows_of_even heven]
    exact List.forall_mem_map.mpr fun p _ => work_le_ceil p
  · obtain ⟨ts, gs, hflows, hb⟩ := passFlows_balanced htaking
    rw [hflows]
    exact List.forall_mem_append.mpr
      ⟨fun x hx => (hb.raised x hx).2, fun x hx => Nat.le_trans (hb.lowered x hx) (work_le_ceil x.1)⟩

/-- In a one-sided pass each gets its w (R80). -/
theorem passFlows_one_sided (h : onSide .inward ps = [] ∨ onSide .outward ps = []) :
    ∀ x ∈ passFlows ps, x.2 = x.1.work := by
  rw [passFlows_of_even (h.imp_right .inl)]
  simp

/-- In a two-sided pass the flows of both sides have the same sum (R83). -/
theorem passFlows_flowSum (hin : onSide .inward ps ≠ []) (hout : onSide .outward ps ≠ []) :
    flowSum .inward (passFlows ps) = flowSum .outward (passFlows ps) := by
  obtain heven | ⟨side, htaking⟩ := passEven_or_taking ps
  · have hsum (side : Side) : flowSum side (ps.map fun p => (p, p.work)) = workSum (onSide side ps) := by
      simp [flowSum, workSum, onSide, List.filter_map, Function.comp_def]
    rw [passFlows_of_even heven, hsum, hsum]
    exact (heven.resolve_left hin).resolve_left hout
  · obtain ⟨ts, gs, hflows, hb⟩ := passFlows_balanced htaking
    have htakers : flowSum side (ts ++ gs) = (ts.map Prod.snd).sum := by
      rw [flowSum_append, flowSum_same hb.side_taken, flowSum_other fun x hx => by simp [hb.side_given x hx]]
      rfl
    have hgivers : flowSum (otherSide side) (ts ++ gs) = (gs.map Prod.snd).sum := by
      rw [flowSum_append, flowSum_same hb.side_given,
        flowSum_other fun x hx => by simp [hb.side_taken x hx, (otherSide_ne side).symm], Nat.zero_add]
    have hboth : flowSum side (ts ++ gs) = flowSum (otherSide side) (ts ++ gs) := by
      rw [htakers, hgivers, hb.sums]
    rw [hflows]
    cases side with
    | inward => exact hboth
    | outward => exact hboth.symm

/-- On the side that wants less nobody gets less than w, on the other nobody more (R81, R82). -/
theorem passFlows_bounds {side : Side} (hle : workSum (onSide side ps) ≤ workSum (onSide (otherSide side) ps)) :
    ∀ x ∈ passFlows ps,
      (x.1.side = side → x.1.work ≤ x.2) ∧ (x.1.side = otherSide side → x.2 ≤ x.1.work) := by
  obtain heven | ⟨taking, htaking⟩ := passEven_or_taking ps
  · rw [passFlows_of_even heven]
    simp
  · obtain rfl | rfl := side_eq_or taking side
    · obtain ⟨ts, gs, hflows, hb⟩ := passFlows_balanced htaking
      rw [hflows]
      refine List.forall_mem_append.mpr ⟨fun x hx => ?_, fun x hx => ?_⟩
      · simp [hb.side_taken x hx, (hb.raised x hx).1, (otherSide_ne taking).symm]
      · simp [hb.side_given x hx, hb.lowered x hx]
    · have hlt := htaking.2
      rw [otherSide_otherSide] at hlt
      omega

end

/-! ### The shares of a pass in ascending node order (R81, R82) -/

section
variable {ps : List Participant} {side : Side}

theorem onSide_ascending (hasc : ascending Participant.node ps) : ascending Participant.node (onSide side ps) :=
  List.Pairwise.filter _ hasc

/-- In case A a taker gets w and its part of the excess, and a giver w (R81). -/
theorem passFlows_of_room (hasc : ascending Participant.node ps) (htaking : passTaking side ps)
    (hroom : workSum (onSide (otherSide side) ps) - workSum (onSide side ps) ≤ headSum (onSide side ps)) :
    ∀ x ∈ passFlows ps,
      x.2 = if x.1.side = side then
          x.1.work + nodePart (workSum (onSide (otherSide side) ps) - workSum (onSide side ps))
            Participant.head (onSide side ps) x.1
        else x.1.work := by
  rw [passFlows_of_taking htaking, sidedFlows_of_room hroom, awards_of_ascending (onSide_ascending hasc),
    List.map_map]
  refine List.forall_mem_append.mpr
    ⟨List.forall_mem_map.mpr fun p hp => ?_, List.forall_mem_map.mpr fun p hp => ?_⟩
  · simp [side_of_mem_onSide hp]
  · simp [side_of_mem_onSide hp]

/-- In case B a taker gets C, and a giver w less its part of what the headroom leaves (R82). -/
theorem passFlows_of_short (hasc : ascending Participant.node ps) (htaking : passTaking side ps)
    (hshort : headSum (onSide side ps) < workSum (onSide (otherSide side) ps) - workSum (onSide side ps)) :
    ∀ x ∈ passFlows ps,
      x.2 = if x.1.side = side then x.1.ceil
        else x.1.work - nodePart
          (workSum (onSide (otherSide side) ps) - workSum (onSide side ps) - headSum (onSide side ps))
          Participant.work (onSide (otherSide side) ps) x.1 := by
  rw [passFlows_of_taking htaking, sidedFlows_of_short hshort, awards_of_ascending (onSide_ascending hasc),
    List.map_map]
  refine List.forall_mem_append.mpr
    ⟨List.forall_mem_map.mpr fun p hp => ?_, List.forall_mem_map.mpr fun p hp => ?_⟩
  · simp [side_of_mem_onSide hp]
  · simp [side_of_mem_onSide hp]

end

/-! ### The completion of a pass (R86 to R88, R92) -/

section
variable (t : Count) (s : State)

@[simp] theorem advanceTo_own : (advanceTo t s).own = s.own := advanceTo_frame t s .own (by decide)
@[simp] theorem advanceTo_pass : (advanceTo t s).pass = s.pass := advanceTo_frame t s .pass (by decide)
@[simp] theorem advanceTo_unit : (advanceTo t s).unit = s.unit := advanceTo_frame t s .unit (by decide)
@[simp] theorem advanceTo_peers : (advanceTo t s).peers = s.peers := advanceTo_frame t s .peers (by decide)
@[simp] theorem finish_own : (finish s).own = s.own := rfl
@[simp] theorem finish_pass : (finish s).pass = s.pass := rfl
@[simp] theorem finish_unit : (finish s).unit = s.unit := rfl
@[simp] theorem finish_peers : (finish s).peers = s.peers := rfl

theorem settleTable_peers : (settleTable s).peers =
    { records := if s.peers.owedEmptying then [] else ageTimes s.peers.owedAgeings s.peers.records
      owedAgeings := 0
      owedEmptying := false } := rfl

@[simp] theorem settleTable_own : (settleTable s).own = s.own := rfl
@[simp] theorem settleTable_pass : (settleTable s).pass = s.pass := rfl
@[simp] theorem settleTable_unit : (settleTable s).unit = s.unit := rfl

/-- The pass state that a completion leaves (R86). -/
def stateAfterPass : PassState → PassState
  | .idle => .idle
  | .waiting => .waiting
  | .running => .idle
  | .runningOneMore => .waiting

@[simp] theorem afterPass_own : (afterPass s).own = s.own := by
  unfold afterPass
  split <;> rfl

@[simp] theorem afterPass_peers : (afterPass s).peers = s.peers := by
  unfold afterPass
  split <;> rfl

/-- A completion changes nothing of the pass but its state (R86). -/
theorem afterPass_pass : (afterPass s).pass = { s.pass with state := stateAfterPass s.pass.state } := by
  cases h : s.pass.state with
  | idle =>
    simp only [afterPass, stateAfterPass, h]
    rw [← h]
  | waiting =>
    simp only [afterPass, stateAfterPass, h]
    rw [← h]
  | running => simp [afterPass, stateAfterPass, h]
  | runningOneMore => simp [afterPass, stateAfterPass, h]

/-- A pass owed is requested of the calculation unit, and nothing else is (R86, R87). -/
theorem afterPass_unit : (afterPass s).unit =
    { s.unit with waitPass := s.unit.waitPass || decide (s.pass.state = .runningOneMore) } := by
  cases h : s.pass.state <;> simp [afterPass, h]

theorem afterPass_frame : othersKept [.pass, .unit] s (afterPass s) := by
  unfold afterPass
  split
  · exact othersKept_append (withPass_frame s _) (withUnit_frame _ _)
  · exact othersKept_mono (withPass_frame s _) (by simp)
  · exact othersKept_refl _ _

/-- F of a participant is its flow of the pass, limited to C; a station that took no part keeps F (R88). -/
def flowAfterPass : Nat :=
  match selfFlow s.own.node s.pass.snapshot with
  | some f => min f s.own.ceil
  | none => s.own.flow

@[simp] theorem flowAfterPass_advanceTo : flowAfterPass (advanceTo t s) = flowAfterPass s := by
  simp [flowAfterPass]

theorem applyPass_own : (applyPass s).own = { s.own with flow := flowAfterPass s } := by
  cases h : selfFlow s.own.node s.pass.snapshot <;> simp [applyPass, flowAfterPass, h]

theorem applyPass_pass : (applyPass s).pass =
    { s.pass with record := recordOf s.own.node s.pass.snapshot, current := true } := by
  cases h : selfFlow s.own.node s.pass.snapshot <;> simp [applyPass, h]

@[simp] theorem applyPass_unit : (applyPass s).unit = s.unit := by
  cases h : selfFlow s.own.node s.pass.snapshot <;> simp [applyPass, h]

@[simp] theorem applyPass_peers : (applyPass s).peers = s.peers := by
  cases h : selfFlow s.own.node s.pass.snapshot <;> simp [applyPass, h]

theorem applyPass_frame : othersKept [.own, .pass] s (applyPass s) := by
  unfold applyPass
  dsimp only
  split
  · exact othersKept_append (withOwn_frame s _) (withPass_frame _ _)
  · exact othersKept_mono (withPass_frame s _) (by simp)

end

section
variable {s : State} {since : Count} {ms : Nat}

/-- The order of a completion that is not discarded: the engine is freed, the result applied, the snapshot emptied, a
pass owed requested, and the table's hold ended (R87, R88, R92). -/
theorem completePass_of_kept (h : s.unit.engine = .pass since ms false) :
    completePass s =
      let applied := applyPass (s.withUnit { s.unit with engine := .free })
      settleTable (afterPass (applied.withPass { applied.pass with snapshot := [] })) := by
  simp [completePass, h]

theorem completePass_own (h : s.unit.engine = .pass since ms false) :
    (completePass s).own = { s.own with flow := flowAfterPass s } := by
  simp [completePass_of_kept h, applyPass_own, flowAfterPass]

theorem completePass_pass (h : s.unit.engine = .pass since ms false) :
    (completePass s).pass =
      { state := stateAfterPass s.pass.state, snapshot := [],
        record := recordOf s.own.node s.pass.snapshot, current := true } := by
  simp [completePass_of_kept h, afterPass_pass, applyPass_pass]

theorem completePass_unit (h : s.unit.engine = .pass since ms false) :
    (completePass s).unit =
      { s.unit with
        engine := .free, waitPass := s.unit.waitPass || decide (s.pass.state = .runningOneMore) } := by
  rw [completePass_of_kept h, settleTable_unit, afterPass_unit, State.withPass_pass, State.withPass_unit, applyPass_pass,
    applyPass_unit]
  rfl

theorem completePass_peers (h : s.unit.engine = .pass since ms false) :
    (completePass s).peers =
      { records := if s.peers.owedEmptying then [] else ageTimes s.peers.owedAgeings s.peers.records
        owedAgeings := 0
        owedEmptying := false } := by
  simp [completePass_of_kept h, settleTable_peers]

theorem completePass_frame (h : s.unit.engine = .pass since ms false) :
    othersKept [.own, .pass, .unit, .peers] s (completePass s) := by
  rw [completePass_of_kept h]
  have hfree := othersKept_append (withUnit_frame s { s.unit with engine := .free }) (applyPass_frame _)
  have hrest (x : State) (b : BalancePass) :=
    othersKept_append (othersKept_append (withPass_frame x b) (afterPass_frame _)) (settleTable_frame _)
  exact othersKept_mono (othersKept_append hfree (hrest _ _)) (by simp)

/-- The THAW count of the record is over the other participants (R76). -/
theorem recordOf_thaws (node : Nat) (ps : List Participant) :
    (recordOf node ps).thaws = (ps.filter fun p => p.stage = .thaw ∧ p.node ≠ node).length := by
  simp only [recordOf, and_comm]

end

/-- Settles O13: the pass balances by what the division gives each participant, and the completion by what each of its
steps writes. -/
theorem passBalancesTheHouse : Obligations.PassBalancesTheHouse := by
  refine ⟨?balance, ?shares, ?completion⟩
  case balance =>
    exact fun ps => ⟨passFlows_perm ps, passFlows_le_ceil ps, passFlows_one_sided,
      fun ⟨hin, hout⟩ => ⟨passFlows_flowSum hin hout, fun _ => passFlows_bounds⟩⟩
  case shares =>
    exact fun ps side hasc htakers hless =>
      have htaking : passTaking side ps := ⟨htakers, hless⟩
      ⟨passFlows_of_room hasc htaking, passFlows_of_short hasc htaking⟩
  case completion =>
    intro t s since ms hengine
    have hbusy : (advanceTo t s).unit.engine = .pass since ms false := by simpa
    refine ⟨finish (completePass (advanceTo t s)), rfl, ?_⟩
    rw [finish_own, finish_pass, finish_unit, finish_peers, completePass_own hbusy, completePass_pass hbusy,
      completePass_unit hbusy, completePass_peers hbusy]
    simp only [advanceTo_own, advanceTo_pass, advanceTo_unit, advanceTo_peers, recordOf_thaws,
      flowAfterPass_advanceTo, true_and]
    exact ⟨rfl, rfl, rfl, rfl, othersKept_append (completePass_frame hbusy) (finish_frame _)⟩

end Sys2Proof.Laws
end

section
/-! ## What every operation keeps

One relation gathers the ranges and relations that the invariants name, with the queue of commands and the time base.
Each operation of the model is shown once to keep it, block by block, and the commands follow from their operations. -/

namespace Sys2Proof.Laws

open Sys2Proof.Machine Sys2Proof.Safety

/-! ### What every operation keeps -/

/-- The counts of the line block in their ranges, and the receive queue within its two slots. -/
def lineFits (l : LineControl) : Prop := countsInRange l ∧ receiveQueueFits l

def tableKept (p : PeerTable) : Prop := tableAged p ∧ tableSorted p

def driveKept (f : FanDrive) : Prop := flapFollows f ∧ driveInRange f

def frostKept (f : FrostGuard) : Prop := frostInRange f ∧ causeHeld f

/-- The reversal timer without RUN work (R72). -/
def revIdle (r : ReversalTimer) : Prop :=
  r.gather = none ∧ r.claimWindow = none ∧ r.statusTimer = none ∧ r.tally = []

/-- Climate sensing without RUN work (R125). -/
def pointsIdle (c : ClimateSensing) : Prop := c.midPoint = none ∧ c.endPoint = none

/-- No block holds RUN work (R72, R125, R145, R168). -/
def runIdle (s : State) : Prop :=
  revIdle s.rev ∧ pointsIdle s.clim ∧ s.frost.claims = [] ∧ s.filt.held = none

theorem runWorkOnlyInRun_iff (s : State) : runWorkOnlyInRun s ↔ (s.mode.mode ≠ .run → runIdle s) := by
  simp only [runWorkOnlyInRun, runIdle, revIdle, pointsIdle, and_assoc]

/-- `t` follows from `s` without the passing of time: it keeps the waiting commands, the time base, and each range and
relation that the invariants name. -/
structure Keeps (s t : State) : Prop where
  pending : t.pending = s.pending
  now     : t.time.now = s.time.now
  line    : lineFits s.line → lineFits t.line
  flow    : flowBounded s.own → flowBounded t.own
  table   : tableKept s.peers → tableKept t.peers
  drive   : driveKept s.fan → driveKept t.fan
  frost   : frostKept s.frost → frostKept t.frost
  window  : windowClosedInLockout s.frost → windowClosedInLockout t.frost
  sensing : climateInRange s.clim → climateInRange t.clim
  filter  : filterInRange s.filt → filterInRange t.filt
  work    : (s.mode.mode ≠ .run → runIdle s) → (t.mode.mode ≠ .run → runIdle t)

theorem Keeps.refl (s : State) : Keeps s s :=
  ⟨rfl, rfl, id, id, id, id, id, id, id, id, id⟩

theorem Keeps.trans {s t u : State} (h1 : Keeps s t) (h2 : Keeps t u) : Keeps s u where
  pending := h2.pending.trans h1.pending
  now := h2.now.trans h1.now
  line := h2.line ∘ h1.line
  flow := h2.flow ∘ h1.flow
  table := h2.table ∘ h1.table
  drive := h2.drive ∘ h1.drive
  frost := h2.frost ∘ h1.frost
  window := h2.window ∘ h1.window
  sensing := h2.sensing ∘ h1.sensing
  filter := h2.filter ∘ h1.filter
  work := h2.work ∘ h1.work

/-- The same, from the last operation back. -/
theorem Keeps.after {s t u : State} (h2 : Keeps t u) (h1 : Keeps s t) : Keeps s u := h1.trans h2

/-! ### Block updates -/

section
variable {s : State}

theorem keeps_withTime {b : TimeBase} (h : b.now = s.time.now) : Keeps s (s.withTime b) :=
  { Keeps.refl s with now := h }

theorem keeps_withUnit (b : CalcUnit) : Keeps s (s.withUnit b) := { Keeps.refl s with }

theorem keeps_withPass (b : BalancePass) : Keeps s (s.withPass b) := { Keeps.refl s with }

theorem keeps_withDemand (b : DemandUnit) : Keeps s (s.withDemand b) := { Keeps.refl s with }

theorem keeps_withCond (b : ConditionUnit) : Keeps s (s.withCond b) := { Keeps.refl s with }

theorem keeps_withSvc (b : ServiceUnit) : Keeps s (s.withSvc b) := { Keeps.refl s with }

/-- A mode other than RUN is entered from RUN only when its work has ended. -/
theorem keeps_withMode {b : ModeControl} (h : b.mode ≠ .run → s.mode.mode = .run → runIdle s) :
    Keeps s (s.withMode b) :=
  { Keeps.refl s with
    work := fun hs hb => (Decidable.em (s.mode.mode = .run)).elim (h hb) hs }

theorem keeps_withOwn {o : OwnRecord} (h : flowBounded s.own → flowBounded o) : Keeps s (s.withOwn o) :=
  { Keeps.refl s with flow := h }

theorem keeps_withLine {l : LineControl} (h : lineFits s.line → lineFits l) : Keeps s (s.withLine l) :=
  { Keeps.refl s with line := h }

theorem keeps_withPeers {p : PeerTable} (h : tableKept s.peers → tableKept p) : Keeps s (s.withPeers p) :=
  { Keeps.refl s with table := h }

theorem keeps_withFan {f : FanDrive} (h : driveKept s.fan → driveKept f) : Keeps s (s.withFan f) :=
  { Keeps.refl s with drive := h }

theorem keeps_withRev {r : ReversalTimer} (h : s.mode.mode ≠ .run → revIdle s.rev → revIdle r) :
    Keeps s (s.withRev r) :=
  { Keeps.refl s with
    work := fun hs hm =>
      have ⟨hrev, hrest⟩ := hs hm
      ⟨h hm hrev, hrest⟩ }

theorem keeps_withClim {c : ClimateSensing} (hr : climateInRange s.clim → climateInRange c)
    (h : s.mode.mode ≠ .run → pointsIdle s.clim → pointsIdle c) : Keeps s (s.withClim c) :=
  { Keeps.refl s with
    sensing := hr
    work := fun hs hm =>
      have ⟨hrev, hclim, hrest⟩ := hs hm
      ⟨hrev, h hm hclim, hrest⟩ }

theorem keeps_withFrost {f : FrostGuard} (hr : frostKept s.frost → frostKept f)
    (hw : windowClosedInLockout s.frost → windowClosedInLockout f)
    (h : s.mode.mode ≠ .run → s.frost.claims = [] → f.claims = []) : Keeps s (s.withFrost f) :=
  { Keeps.refl s with
    frost := hr
    window := hw
    work := fun hs hm =>
      have ⟨hrev, hclim, hfrost, hfilt⟩ := hs hm
      ⟨hrev, hclim, h hm hfrost, hfilt⟩ }

theorem keeps_withFilt {f : FilterSupervisor} (hr : filterInRange s.filt → filterInRange f)
    (h : s.mode.mode ≠ .run → s.filt.held = none → f.held = none) : Keeps s (s.withFilt f) :=
  { Keeps.refl s with
    filter := hr
    work := fun hs hm =>
      have ⟨hrev, hclim, hfrost, hfilt⟩ := hs hm
      ⟨hrev, hclim, hfrost, h hm hfilt⟩ }

theorem finish_keeps (s : State) : Keeps s (finish s) := keeps_withCond _

end
end Sys2Proof.Laws
end

section
/-! ## What every operation keeps: the line, the peer table and the requests -/

namespace Sys2Proof.Laws

open Sys2Proof.Machine Sys2Proof.Safety

/-! ### The line -/

theorem bump_le (n : Nat) : bump n ≤ 255 := Nat.min_le_right _ _

section
variable {l : LineControl}

theorem lineFits_rxFaults (h : lineFits l) (n : Nat) : lineFits { l with rxFaults := bump n } :=
  have ⟨⟨hf, _, ho, hd, hc, ha⟩, hq⟩ := h
  ⟨⟨hf, bump_le n, ho, hd, hc, ha⟩, hq⟩

theorem lineFits_drops (h : lineFits l) {n : Nat} (hn : n ≤ 255) (q : List TxEntry) (r : Option TxEntry) :
    lineFits { l with txq := q, replacement := r, drops := n } :=
  have ⟨⟨hf, hr, ho, _, hc, ha⟩, hq⟩ := h
  ⟨⟨hf, hr, ho, hn, hc, ha⟩, hq⟩

theorem lineFits_acceptNotice (e : TxEntry) (h : lineFits l) : lineFits (acceptNotice e l) := by
  unfold acceptNotice
  split
  · split <;> exact h
  · split
    · exact h
    · split
      · split <;> exact lineFits_drops h (bump_le _) _ _
      · exact lineFits_drops h (bump_le _) _ _

theorem lineFits_rest {f : RxFrame} {fs : List RxFrame} (h : lineFits l) (hq : l.rxq = f :: fs) :
    lineFits { l with rxq := fs } := by
  obtain ⟨hc, hr⟩ := h
  refine ⟨hc, ?_⟩
  simp only [receiveQueueFits, hq, List.length_cons] at hr ⊢
  omega

end

section
variable (s : State)

theorem countRxFault_keeps : Keeps s (countRxFault s) := keeps_withLine fun h => lineFits_rxFaults h _

theorem countOverrun_keeps : Keeps s (countOverrun s) :=
  keeps_withLine fun ⟨⟨hf, hr, _, hd, hc, ha⟩, hq⟩ => ⟨⟨hf, hr, bump_le _, hd, hc, ha⟩, hq⟩

theorem countClash_keeps : Keeps s (countClash s) :=
  keeps_withLine fun ⟨⟨hf, hr, ho, hd, _, _⟩, hq⟩ => ⟨⟨hf, hr, ho, hd, bump_le _, Nat.zero_le _⟩, hq⟩

theorem countDrops_keeps (n : Nat) : Keeps s (countDrops n s) :=
  keeps_withLine fun h => lineFits_drops h (Nat.min_le_right _ _) _ _

theorem queueNotice_keeps (e : TxEntry) : Keeps s (queueNotice e s) := by
  unfold queueNotice
  split
  · exact Keeps.refl s
  · split
    · exact countDrops_keeps s 1
    · exact keeps_withLine (lineFits_acceptNotice e)
  · exact keeps_withLine (lineFits_acceptNotice e)

theorem withdraw_keeps (p : TxEntry → Bool) : Keeps s (withdraw p s) := keeps_withLine id

theorem withPhase_keeps (p : LinePhase) : Keeps s (withPhase p s) := keeps_withLine id

theorem enterMuted_keeps : Keeps s (enterMuted s) :=
  keeps_withLine fun h => lineFits_drops h (Nat.min_le_right _ _) _ _

theorem enterCutOff_keeps : Keeps s (enterCutOff s) :=
  keeps_withLine fun h => lineFits_drops h (Nat.min_le_right _ _) [] none

theorem addCharge_keeps : Keeps s (addCharge s) :=
  keeps_withLine fun ⟨⟨_, hr, ho, hd, hc, ha⟩, hq⟩ => ⟨⟨Nat.min_le_right _ _, hr, ho, hd, hc, ha⟩, hq⟩

theorem chargeLine_keeps : Keeps s (chargeLine s) := by
  obtain h | h | h := chargeLine_cases s <;> rw [h]
  · exact addCharge_keeps s
  · exact (addCharge_keeps s).trans (enterMuted_keeps _)
  · exact (addCharge_keeps s).trans (enterCutOff_keeps _)

theorem creditLine_keeps : Keeps s (creditLine s) :=
  keeps_withLine fun ⟨⟨hf, hrest⟩, hq⟩ => ⟨⟨Nat.le_trans (Nat.sub_le _ _) hf, hrest⟩, hq⟩

theorem removeEntry_keeps (cls : NoticeClass) : Keeps s (removeEntry cls s) := keeps_withLine id

theorem takeReplacement_keeps : Keeps s (takeReplacement s) := by
  unfold takeReplacement
  split
  · exact keeps_withLine id
  · exact Keeps.refl s

theorem lineGoesIdle_keeps : Keeps s (lineGoesIdle s) := by
  unfold lineGoesIdle
  split
  · exact withPhase_keeps s _
  · exact Keeps.refl s

theorem frameBegins_keeps : Keeps s (frameBegins s) := by
  unfold frameBegins
  split
  · exact withPhase_keeps s _
  · exact Keeps.refl s

theorem abandonFrame_keeps : Keeps s (abandonFrame s) := (withPhase_keeps s _).trans (countRxFault_keeps _)

theorem enterRxQueue_keeps (f : RxFrame) : Keeps s (enterRxQueue f s) := by
  unfold enterRxQueue
  split
  · rename_i hroom
    refine keeps_withLine fun ⟨hc, _⟩ => ⟨hc, ?_⟩
    simp only [receiveQueueFits, List.length_append, List.length_singleton]
    omega
  · exact countOverrun_keeps s

theorem filterFrame_keeps (f : RxFrame) : Keeps s (filterFrame f s) := by
  unfold filterFrame
  split
  · exact countRxFault_keeps s
  split
  · exact countClash_keeps s
  split
  · exact Keeps.refl s
  split
  · exact Keeps.refl s
  · exact enterRxQueue_keeps s f

theorem receiveFrame_keeps (levels : List LineLevel) : Keeps s (receiveFrame levels s) := by
  unfold receiveFrame
  split
  · split
    · exact Keeps.refl s
    · exact withPhase_keeps s _
    · exact abandonFrame_keeps s
    · exact (withPhase_keeps s _).trans (countRxFault_keeps _)
    · exact (withPhase_keeps s _).trans (filterFrame_keeps _ _)
  · exact Keeps.refl s

theorem beginSend_keeps : Keeps s (beginSend s) := by
  unfold beginSend
  split
  · split
    · exact keeps_withLine id
    · exact Keeps.refl s
  · exact Keeps.refl s

theorem claimGone_keeps (e : TxEntry) : Keeps s (claimGone e s) := by
  unfold claimGone
  split
  · exact keeps_withFrost id id fun _ => id
  · exact Keeps.refl s

theorem keepAfterArbitration_keeps (e : TxEntry) : Keeps s (keepAfterArbitration e s) := by
  unfold keepAfterArbitration
  split
  · exact (removeEntry_keeps s _).trans (claimGone_keeps _ e)
  split
  · exact (removeEntry_keeps s _).trans (countDrops_keeps _ 1)
  · exact keeps_withLine id

theorem keepAfterError_keeps (e : TxEntry) : Keeps s (keepAfterError e s) := by
  unfold keepAfterError
  split
  · exact Keeps.refl s
  · split
    · exact (removeEntry_keeps s _).trans (countDrops_keeps _ 1)
    · exact keeps_withLine id

theorem failEntry_keeps (e : TxEntry) : Keeps s (failEntry e s) := by
  unfold failEntry
  split
  · exact ((removeEntry_keeps s _).trans (claimGone_keeps _ e)).trans (chargeLine_keeps _)
  · exact (chargeLine_keeps s).trans (keepAfterError_keeps _ e)

theorem ageClash_keeps : Keeps s (ageClash s) :=
  keeps_withLine fun ⟨⟨hf, hr, ho, hd, hc, _⟩, hq⟩ => ⟨⟨hf, hr, ho, hd, hc, Nat.min_le_right _ _⟩, hq⟩

theorem startSampling_keeps : Keeps s (startSampling s) := keeps_withLine id

end

/-! ### The peer table -/

section
variable {p : PeerTable} {rs : List PeerRecord}

/-- A record within its ages (R15, R16). -/
def recordYoung (r : PeerRecord) : Prop := r.age < 4 ∧ ∀ c ∈ r.climate.toList, c.age < 16

theorem tableKept_iff : tableKept p ↔
    (∀ r ∈ p.records, recordYoung r) ∧ p.records.Pairwise fun a b => a.node < b.node := Iff.rfl

theorem ageRecords_young : ∀ r ∈ ageRecords rs, recordYoung r := by
  intro r hr
  obtain ⟨hmem, hage⟩ := List.mem_filter.mp hr
  obtain ⟨x, -, rfl⟩ := List.mem_map.mp hmem
  refine ⟨of_decide_eq_true hage, fun c hc => ?_⟩
  cases hx : x.climate with
  | none => simp [hx] at hc
  | some y =>
    by_cases hy : y.age + 1 < 16
    · simp only [hx, Option.bind_some, ageClimate, hy, if_true, Option.toList_some, List.mem_singleton] at hc
      simpa [hc] using hy
    · simp [hx, ageClimate, hy] at hc

theorem ageRecords_sorted (h : rs.Pairwise fun a b => a.node < b.node) :
    (ageRecords rs).Pairwise fun a b => a.node < b.node :=
  List.Pairwise.filter _ (List.pairwise_map.mpr h)

theorem tableKept_ageRecords (h : tableKept p) : tableKept { p with records := ageRecords p.records } :=
  ⟨ageRecords_young, ageRecords_sorted h.2⟩

theorem tableKept_nil (n : Nat) (b : Bool) : tableKept { records := [], owedAgeings := n, owedEmptying := b } :=
  tableKept_iff.mpr ⟨by simp, List.Pairwise.nil⟩

theorem ageTimes_kept (n : Nat) (h : (∀ r ∈ rs, recordYoung r) ∧ rs.Pairwise fun a b => a.node < b.node) :
    (∀ r ∈ ageTimes n rs, recordYoung r) ∧ (ageTimes n rs).Pairwise fun a b => a.node < b.node := by
  induction n generalizing rs with
  | zero => exact h
  | succ n ih => exact ih ⟨ageRecords_young, ageRecords_sorted h.2⟩

theorem withoutPeer_kept (node : Nat) (h : tableKept p) :
    tableKept { p with records := withoutPeer node p.records } :=
  ⟨fun r hr => h.1 r ((List.mem_filter.mp hr).1), List.Pairwise.filter _ h.2⟩

/-- A written record leaves the table in node order, one record a node (R9). -/
theorem putPeer_sorted (r : PeerRecord) (h : rs.Pairwise fun a b => a.node < b.node) :
    (putPeer r rs).Pairwise fun a b => a.node < b.node := by
  have hint (xs : List PeerRecord) : (xs.Pairwise fun a b => a.node < b.node) ↔
      xs.Pairwise fun a b => (a.node : Int) < (b.node : Int) := by simp only [Int.ofNat_lt]
  rw [hint]
  refine insertOrd_ascending _ ((hint _).mp (List.Pairwise.filter _ h)) fun x hx => ?_
  have : x.node ≠ r.node := by simpa using (List.mem_filter.mp hx).2
  omega

theorem putPeer_kept {r : PeerRecord} (hr : recordYoung r) (h : tableKept p) :
    tableKept { p with records := putPeer r p.records } := by
  refine ⟨fun x hx => ?_, putPeer_sorted r h.2⟩
  obtain rfl | hx := (mem_insertOrd _).mp hx
  · exact hr
  · exact h.1 x ((List.mem_filter.mp hx).1)

end

section
variable (s : State)

theorem agePeers_keeps : Keeps s (agePeers s) := by
  unfold agePeers
  split
  · exact keeps_withPeers id
  · exact keeps_withPeers tableKept_ageRecords

theorem emptyPeers_keeps : Keeps s (emptyPeers s) := by
  unfold emptyPeers
  split
  · exact keeps_withPeers id
  · exact keeps_withPeers fun _ => tableKept_nil _ _

theorem settleTable_keeps : Keeps s (settleTable s) := by
  refine keeps_withPeers fun h => ?_
  cases s.peers.owedEmptying with
  | true => exact tableKept_nil _ _
  | false => exact ageTimes_kept _ h

/-- The record of a node, kept or created, is young in a table that is (R11). -/
theorem recordFor_climate_young (node : Nat) (h : tableKept s.peers) :
    recordYoung (recordFor s node) := by
  unfold recordFor
  cases hp : peerOf node s.peers.records with
  | none => exact ⟨Nat.zero_lt_succ 3, by simp [blankPeer]⟩
  | some r => exact h.1 r (List.mem_of_find?_eq_some hp)

theorem writePeer_keeps {r : PeerRecord} (hr : tableKept s.peers → recordYoung r) : Keeps s (writePeer r s) :=
  keeps_withPeers fun h => putPeer_kept (hr h) h

theorem announce_young {r : PeerRecord} (a : Announcement) (agree : Bool) (h : recordYoung r) :
    recordYoung (announce a agree r) := ⟨Nat.zero_lt_succ 3, h.2⟩

end

/-! ### Requests -/

section
variable (s : State)

theorem requestPass_keeps : Keeps s (requestPass s) := by
  unfold requestPass
  split
  · exact (keeps_withPass _).trans (keeps_withUnit _)
  · exact Keeps.refl s
  · exact keeps_withPass _
  · exact Keeps.refl s

theorem trigger_keeps : Keeps s (trigger s) := by
  unfold trigger
  split
  · exact requestPass_keeps s
  · exact Keeps.refl s

theorem cutPass_keeps : Keeps s (cutPass s) := (keeps_withUnit _).trans (keeps_withPass _)

/-- What requests to the converter, and withdrawn purposes, leave of climate sensing. -/
structure ClimStays (c d : ClimateSensing) : Prop where
  outer    : d.outer = c.outer
  inner    : d.inner = c.inner
  rhSensor : d.rhSensor = c.rhSensor
  ratios   : d.ratios = c.ratios
  midPoint : d.midPoint = c.midPoint
  endPoint : d.endPoint = c.endPoint

theorem startConversion_stays (c : ClimateSensing) : ClimStays c (startConversion c) := by
  unfold startConversion withWaiting
  split
  · split <;> exact ⟨rfl, rfl, rfl, rfl, rfl, rfl⟩
  · exact ⟨rfl, rfl, rfl, rfl, rfl, rfl⟩

theorem addRequest_stays (src : Source) (p : Purpose) (c : ClimateSensing) : ClimStays c (addRequest src p c) := by
  unfold addRequest withWaiting
  split
  · exact ⟨rfl, rfl, rfl, rfl, rfl, rfl⟩
  · split <;> exact ⟨rfl, rfl, rfl, rfl, rfl, rfl⟩

theorem ClimStays.trans {c d e : ClimateSensing} (h1 : ClimStays c d) (h2 : ClimStays d e) : ClimStays c e :=
  ⟨h2.outer.trans h1.outer, h2.inner.trans h1.inner, h2.rhSensor.trans h1.rhSensor, h2.ratios.trans h1.ratios,
    h2.midPoint.trans h1.midPoint, h2.endPoint.trans h1.endPoint⟩

theorem addRequests_stays (rs : List (Source × Purpose)) (c : ClimateSensing) :
    ClimStays c (rs.foldl (fun c r => addRequest r.1 r.2 c) c) := by
  induction rs generalizing c with
  | nil => exact ⟨rfl, rfl, rfl, rfl, rfl, rfl⟩
  | cons r rs ih => exact (addRequest_stays r.1 r.2 c).trans (ih _)

theorem ClimStays.inRange {c d : ClimateSensing} (h : ClimStays c d) (hc : climateInRange c) : climateInRange d := by
  simpa only [climateInRange, h.outer, h.inner, h.rhSensor, h.ratios] using hc

theorem ClimStays.pointsIdle {c d : ClimateSensing} (h : ClimStays c d) (hc : pointsIdle c) : pointsIdle d := by
  simpa only [Laws.pointsIdle, h.midPoint, h.endPoint] using hc

theorem keeps_of_climStays {c : ClimateSensing} (h : ClimStays s.clim c) : Keeps s (s.withClim c) :=
  keeps_withClim h.inRange fun _ => h.pointsIdle

theorem requestConversions_keeps (rs : List (Source × Purpose)) : Keeps s (requestConversions rs s) :=
  keeps_of_climStays s ((addRequests_stays rs _).trans (startConversion_stays _))

theorem startWrite_keeps : Keeps s (startWrite s) := keeps_withSvc _

theorem requestWrite_keeps : Keeps s (requestWrite s) := by
  unfold requestWrite
  split
  · exact startWrite_keeps s
  · exact keeps_withSvc _

end
end Sys2Proof.Laws
end

section
/-! ## What every operation keeps: the balance pass and the fan drive -/

namespace Sys2Proof.Laws

open Sys2Proof.Machine Sys2Proof.Safety

/-! ### The balance pass -/

section
variable (s : State)

theorem grantPass_keeps : Keeps s (grantPass s) := by
  unfold grantPass
  split
  · split
    · exact (keeps_withPass _).trans (keeps_withUnit _)
    · exact Keeps.refl s
  · exact Keeps.refl s

theorem grantEvaluation_keeps : Keeps s (grantEvaluation s) := by
  unfold grantEvaluation
  split
  · split
    · exact Keeps.refl s
    · split
      · exact keeps_withUnit _
      · exact keeps_withUnit _
      · exact Keeps.refl s
  · exact Keeps.refl s

/-- A pass writes F at or below C, and nothing else of the own record (R88). -/
theorem applyPass_keeps : Keeps s (applyPass s) := by
  unfold applyPass
  dsimp only
  split
  · refine (keeps_withOwn fun ⟨_, hhalt⟩ => ⟨Nat.min_le_right _ _, fun hd => ?_⟩).trans (keeps_withPass _)
    obtain ⟨hwant, hceil, -⟩ := hhalt hd
    exact ⟨hwant, hceil, by simp [hceil]⟩
  · exact keeps_withPass _

theorem afterPass_keeps : Keeps s (afterPass s) := by
  unfold afterPass
  split
  · exact (keeps_withPass _).trans (keeps_withUnit _)
  · exact keeps_withPass _
  · exact Keeps.refl s

theorem completePass_keeps : Keeps s (completePass s) := by
  unfold completePass
  split
  · refine (settleTable_keeps _).after ((afterPass_keeps _).after ((keeps_withPass _).after ?_))
    split
    · exact keeps_withUnit _
    · exact (applyPass_keeps _).after (keeps_withUnit _)
  · exact Keeps.refl s

end

/-! ### The own record and the fan drive -/

theorem flowBounded_halt {o : OwnRecord} (hd : o.want = 0 ∧ o.ceil = 0 ∧ o.flow = 0) : flowBounded o :=
  ⟨by omega, fun _ => hd⟩

/-- Fan states of the same flap command, and unchanged measures, keep what the fan drive keeps (R101). -/
theorem driveKept_of_flap {f g : FanDrive} (h : driveKept f) (hs : flapOpenState g.state = flapOpenState f.state)
    (hf : g.flap = f.flap) (hm : driveInRange f → driveInRange g) : driveKept g :=
  ⟨by rw [flapFollows, hf, hs]; exact h.1, hm h.2⟩

section
variable (s : State)

theorem haltOwn_keeps : Keeps s (haltOwn s) := keeps_withOwn fun _ => flowBounded_halt ⟨rfl, rfl, rfl⟩

theorem ceilingFor_halt : ceilingFor s .halt = 0 := rfl

/-- C of the direction in force bounds F, and is 0 in HALT (R4, R5). -/
theorem writeCeil_keeps : Keeps s (writeCeil (ceilingFor s s.own.direction) s) := by
  refine keeps_withOwn fun ⟨_, hhalt⟩ => ⟨?_, fun hd => ?_⟩
  · dsimp only
    split <;> exact Nat.min_le_right _ _
  · obtain ⟨hwant, -, -⟩ := hhalt hd
    have hceil : ceilingFor s s.own.direction = 0 := by rw [show s.own.direction = .halt from hd, ceilingFor_halt]
    exact ⟨hwant, hceil, by simp [hceil]⟩

theorem announceFall_keeps (before : Nat) : Keeps s (announceFall before s) := by
  unfold announceFall
  split
  · split
    · exact queueNotice_keeps s _
    · exact Keeps.refl s
  · exact Keeps.refl s

theorem recomputeCeil_keeps : Keeps s (recomputeCeil s) := by
  unfold recomputeCeil
  split
  · exact Keeps.refl s
  · exact ((writeCeil_keeps s).trans (announceFall_keeps _ _)).trans (trigger_keeps _)

variable {s} in
/-- A change of fan state between states of the same flap command (R96, R101). -/
theorem enterFan_keeps {st : FanState} (h : flapOpenState st = flapOpenState s.fan.state) : Keeps s (enterFan st s) :=
  keeps_withFan fun hk => driveKept_of_flap hk h rfl id

theorem setTarget_keeps (d : Option Dir) : Keeps s (setTarget d s) := keeps_withFan id

theorem setWanted_keeps (d : Dir) : Keeps s (setWanted d s) := keeps_withFan id

theorem fanStopped_keeps : Keeps s (fanStopped s) := by
  unfold fanStopped
  split
  · exact Keeps.refl s
  · exact haltOwn_keeps s

theorem closeFlap_keeps : Keeps s (closeFlap s) := keeps_withFan fun ⟨_, hr⟩ => ⟨rfl, hr⟩

theorem openFlapFor_keeps (side : Side) : Keeps s (openFlapFor side s) := keeps_withFan fun ⟨_, hr⟩ => ⟨rfl, hr⟩

variable {s} in
theorem rampDownTo_keeps (d : Dir) (h : flapOpenState s.fan.state = true) : Keeps s (rampDownTo d s) :=
  (setTarget_keeps s _).trans (enterFan_keeps (by exact h.symm))

theorem compareWanted_keeps : Keeps s (compareWanted s) := by
  unfold compareWanted
  split
  · split
    · exact openFlapFor_keeps s _
    · exact Keeps.refl s
  · rename_i hst
    split
    · exact Keeps.refl s
    · exact rampDownTo_keeps _ (by rw [hst]; rfl)
  · exact Keeps.refl s

theorem fanRequest_keeps (side : Side) : Keeps s (fanRequest side s) :=
  (setWanted_keeps s _).trans (compareWanted_keeps _)

theorem stopRequest_keeps : Keeps s (stopRequest s) := by
  have hstop : Keeps s (s.withFan { s.fan with wanted := .halt, restart := false }) := keeps_withFan id
  unfold stopRequest
  dsimp only
  split
  · exact hstop.trans (fanStopped_keeps _)
  · rename_i hst
    exact hstop.trans (rampDownTo_keeps _ (by rw [State.withFan_fan, hst]; rfl))
  · rename_i hst
    exact hstop.trans (rampDownTo_keeps _ (by rw [State.withFan_fan, hst]; rfl))
  · exact hstop.trans (setTarget_keeps _ _)
  · exact hstop.trans (setTarget_keeps _ _)
  · exact ((hstop.trans (setTarget_keeps _ _)).trans (closeFlap_keeps _)).trans (fanStopped_keeps _)
  · exact hstop.trans (fanStopped_keeps _)

theorem modeStop_keeps : Keeps s (modeStop s) := by
  unfold modeStop
  refine Keeps.trans ?_ (stopRequest_keeps _)
  split
  · exact keeps_withFan id
  · exact Keeps.refl s

variable {s} in
theorem enterStopped_keeps (h : flapOpenState s.fan.state = false) : Keeps s (enterStopped s) := by
  unfold enterStopped
  refine (compareWanted_keeps _).after (Keeps.after ?_ (enterFan_keeps (st := .stopped) h.symm))
  exact keeps_withFan id

variable {s} in
theorem enterRunning_keeps (h : flapOpenState s.fan.state = true) : Keeps s (enterRunning s) := by
  unfold enterRunning
  refine (compareWanted_keeps _).after (Keeps.after ?_ (enterFan_keeps (st := .running) h.symm))
  exact keeps_withFan id

theorem haltInside_keeps : Keeps s (haltInside s) := by
  unfold haltInside
  split
  · exact Keeps.refl s
  · refine (haltOwn_keeps s).trans (Keeps.trans ?_ (stopRequest_keeps _))
    split
    · exact (queueNotice_keeps _ _).trans (trigger_keeps _)
    · exact Keeps.refl _

theorem latchFanStall_keeps (cause : StallCause) : Keeps s (latchFanStall cause s) := by
  unfold latchFanStall
  split
  · exact keeps_withFan id
  · exact (haltInside_keeps _).after (keeps_withFan id)

theorem fanModeEntry_keeps : Keeps s (fanModeEntry s) :=
  keeps_withFan fun ⟨hf, hd, hs, _⟩ => ⟨hf, hd, hs, Nat.zero_le _⟩

end

/-! ### The commands of the fan drive -/

theorem controlDuty_le (low high target : Int) (speed duty : Nat) : controlDuty low high target speed duty ≤ 1000 := by
  unfold controlDuty clampInt
  omega

theorem pulseSpeed_le (micros : Nat) : pulseSpeed micros ≤ 2550 := by
  unfold pulseSpeed
  split
  · exact Nat.le_refl _
  · exact Nat.min_le_right _ _

section
variable (s : State)

variable {s} in
theorem stepRampDown_keeps (h : s.fan.state = .rampDown) : Keeps s (stepRampDown s) := by
  have hduty : Keeps s (s.withFan { s.fan with duty := s.fan.duty - 100 }) :=
    keeps_withFan fun ⟨hf, hd, hrest⟩ => ⟨hf, Nat.le_trans (Nat.sub_le _ _) hd, hrest⟩
  unfold stepRampDown
  dsimp only
  split
  · exact hduty.trans ((enterFan_keeps (by rw [State.withFan_fan, State.withFan_fan, h]; rfl)).after (keeps_withFan fun hk => hk))
  · exact hduty

theorem stepCoast_keeps : Keeps s (stepCoast s) := keeps_withFan fun ⟨hf, _, hrest⟩ => ⟨hf, Nat.zero_le _, hrest⟩

theorem stepRampUp_keeps : Keeps s (stepRampUp s) :=
  keeps_withFan fun ⟨hf, _, hrest⟩ => ⟨hf, controlDuty_le _ _ _ _ _, hrest⟩

theorem stepRunning_keeps : Keeps s (stepRunning s) :=
  keeps_withFan fun ⟨hf, _, hrest⟩ => ⟨hf, controlDuty_le _ _ _ _ _, hrest⟩

theorem stepState_keeps : Keeps s (stepState s) := by
  unfold stepState
  split
  · exact stepRampDown_keeps ‹_›
  · exact stepCoast_keeps s
  · exact stepRampUp_keeps s
  · exact stepRunning_keeps s
  · exact Keeps.refl s
  · exact Keeps.refl s
  · exact Keeps.refl s

theorem enterWindow_keeps (st : FanState) (drive : Side) : Keeps s (enterWindow st drive s) :=
  keeps_withFan fun ⟨hf, hd, hs, _⟩ => ⟨hf, hd, hs, List.length_take_le _ _⟩

theorem countStep_keeps : Keeps s (countStep s) := keeps_withFan id

variable {s} in
theorem enterRampUp_keeps (h : flapOpenState s.fan.state = true) : Keeps s (enterRampUp s) :=
  (enterFan_keeps (by exact h.symm)).after (keeps_withFan fun ⟨hf, _, hrest⟩ => ⟨hf, Nat.zero_le _, hrest⟩)

theorem endCoast_keeps : Keeps s (endCoast s) := by
  unfold endCoast
  split
  · rename_i h
    split
    · exact (enterRampUp_keeps (by simp [h.1, flapOpenState])).after (keeps_withFan id)
    · exact (closeFlap_keeps s).trans (fanStopped_keeps _)
  · exact Keeps.refl s

variable {s} in
theorem stallNow_keeps (h : flapOpenState s.fan.state = true) : Keeps s (stallNow s) := by
  unfold stallNow
  split
  · exact (rampDownTo_keeps _ (by exact h)).after (keeps_withFan fun hk => hk)
  · exact latchFanStall_keeps s _

theorem trialPassed_keeps : Keeps s (trialPassed s) := keeps_withFan id

theorem trialFailed_keeps (cause : StallCause) : Keeps s (trialFailed cause s) := keeps_withFan id

theorem endRampUp_keeps : Keeps s (endRampUp s) := by
  unfold endRampUp
  split
  · rename_i hst
    have hopen : flapOpenState s.fan.state = true := by rw [hst]; rfl
    split
    · split
      · exact (trialPassed_keeps s).trans (stopRequest_keeps _)
      · exact enterRunning_keeps hopen
    · split
      · exact (trialPassed_keeps s).trans (stopRequest_keeps _)
      · exact enterRunning_keeps hopen
    · split
      · exact (trialFailed_keeps s _).trans (stopRequest_keeps _)
      · exact stallNow_keeps hopen
    · exact Keeps.refl s
    · exact Keeps.refl s
  · exact Keeps.refl s

theorem takeStall_keeps : Keeps s (takeStall s) := by
  unfold takeStall
  split
  · rename_i h
    exact stallNow_keeps (by rw [h.1]; rfl)
  · exact Keeps.refl s

theorem takeFlowShort_keeps : Keeps s (takeFlowShort s) := by
  unfold takeFlowShort
  split
  · exact (recomputeCeil_keeps _).after (keeps_withFan id)
  · exact Keeps.refl s

theorem takePulse_keeps (micros : Nat) : Keeps s (takePulse micros s) :=
  keeps_withFan fun ⟨hf, hd, _, hw⟩ => ⟨hf, hd, pulseSpeed_le micros, hw⟩

theorem endTravel_keeps : Keeps s (endTravel s) := keeps_withFan id

theorem flapArrives_keeps : Keeps s (flapArrives s) := by
  unfold flapArrives
  split
  · exact Keeps.refl s
  · rename_i hst
    split
    · exact closeFlap_keeps s
    · exact (endTravel_keeps s).trans (enterRampUp_keeps (by simp [endTravel, hst, flapOpenState]))
  · rename_i hst
    split
    · exact ((endTravel_keeps s).trans (trialPassed_keeps _)).trans
        (enterStopped_keeps (by simp [trialPassed, endTravel, hst, flapOpenState]))
    · exact (endTravel_keeps s).trans (enterStopped_keeps (by simp [endTravel, hst, flapOpenState]))
  · exact endTravel_keeps s

theorem latchFlap_keeps : Keeps s (latchFlap s) := by
  unfold latchFlap
  refine Keeps.trans ?_ (latchFanStall_keeps _ _)
  split
  · exact trialFailed_keeps s _
  · exact Keeps.refl s

/-- A stop request in FLAP CLOSING leaves the flap on its way (R100). -/
theorem stopRequest_flapClosing {s : State} (h : s.fan.state = .flapClosing) :
    (stopRequest s).fan.state = .flapClosing := by
  simp [stopRequest, h]

theorem haltInside_flapClosing {s : State} (h : s.fan.state = .flapClosing) :
    (haltInside s).fan.state = .flapClosing := by
  unfold haltInside
  split
  · exact h
  · refine stopRequest_flapClosing ?_
    split
    · rw [trigger_frame _ .fan (by decide), queueChange, queueNotice_frame _ _ .fan (by decide)]
      exact h
    · exact h

theorem latchFanStall_flapClosing {s : State} (cause : StallCause) (h : s.fan.state = .flapClosing) :
    (latchFanStall cause s).fan.state = .flapClosing := by
  unfold latchFanStall
  split
  · exact h
  · exact haltInside_flapClosing h

theorem latchFlap_flapClosing {s : State} (h : s.fan.state = .flapClosing) :
    (latchFlap s).fan.state = .flapClosing := by
  unfold latchFlap
  refine latchFanStall_flapClosing _ ?_
  split <;> exact h

theorem startTrial_keeps : Keeps s (startTrial s) := by
  unfold startTrial
  split
  · exact keeps_withFan fun ⟨_, hr⟩ => ⟨rfl, hr⟩
  · exact Keeps.refl s

end
end Sys2Proof.Laws
end

section
/-! ## What every operation keeps: mode changes

The entries to JOIN, REST and SETUP are named block by block, so that a proof goes from one block to the next. -/

namespace Sys2Proof.Laws

open Sys2Proof.Machine Sys2Proof.Safety

/-! ### Mode changes -/

section
variable (s : State)

theorem dropClaim_keeps : Keeps s (dropClaim s) := by
  unfold dropClaim
  refine Keeps.after (keeps_withFrost id id fun _ => id) ?_
  split
  · exact withdraw_keeps s _
  · exact Keeps.refl s

/-- Giving the own claim up writes the line and the frost guard alone (R131, R136). -/
theorem dropClaim_frame : othersKept [.line, .frost] s (dropClaim s) := by
  unfold dropClaim
  dsimp only
  split
  · exact othersKept_append (withdraw_frame _ s) (withFrost_frame _ _)
  · exact othersKept_mono (withFrost_frame s _) (by simp)

theorem frostDeparture_keeps : Keeps s (frostDeparture s) :=
  Keeps.trans (dropClaim_keeps s) (keeps_withFrost id (fun _ _ => rfl) fun _ _ => rfl)

theorem stopReversals_keeps : Keeps s (stopReversals s) := keeps_withRev fun _ _ => ⟨rfl, rfl, rfl, rfl⟩

theorem climateDeparture_keeps : Keeps s (climateDeparture s) :=
  (keeps_withUnit _).after (Keeps.after (keeps_withClim id fun _ _ => ⟨rfl, rfl⟩) (Keeps.refl s))

theorem filterDeparture_keeps : Keeps s (filterDeparture s) :=
  (keeps_withUnit _).after (Keeps.after (keeps_withFilt id fun _ _ => rfl) (Keeps.refl s))

theorem leaveRun_keeps : Keeps s (leaveRun s) :=
  (filterDeparture_keeps _).after ((climateDeparture_keeps _).after ((frostDeparture_keeps _).after
    ((cutPass_keeps _).after (stopReversals_keeps s))))

theorem frostDeparture_frame : othersKept [.line, .frost] s (frostDeparture s) :=
  othersKept_trans (dropClaim_frame s) (othersKept_mono (withFrost_frame _ _) (by simp))

theorem climateDeparture_frame : othersKept [.clim, .unit] s (climateDeparture s) :=
  othersKept_append (withClim_frame s _) (cutClimateJob_frame _)

theorem filterDeparture_frame : othersKept [.filt, .unit] s (filterDeparture s) :=
  othersKept_append (withFilt_frame s _) (cutFilterJob_frame _)

theorem stopReversals_frame : othersKept [.rev] s (stopReversals s) := withRev_frame s _

/-- The end of RUN work (R72, R87, R125, R145, R168). -/
theorem leaveRun_frame : othersKept [.rev, .unit, .pass, .line, .frost, .clim, .filt] s (leaveRun s) :=
  othersKept_mono
    (othersKept_append (stopReversals_frame s) (othersKept_append (cutPass_frame _)
      (othersKept_append (frostDeparture_frame _)
        (othersKept_append (climateDeparture_frame _) (filterDeparture_frame _)))))
    (by simp)

@[simp] theorem leaveRun_mode : (leaveRun s).mode = s.mode := leaveRun_frame s .mode (by decide)

/-- No reversal work is left (R70, R72). -/
@[simp] theorem leaveRun_rev : (leaveRun s).rev = (stopReversals s).rev := by
  unfold leaveRun
  rw [filterDeparture_frame _ .rev (by decide), climateDeparture_frame _ .rev (by decide),
    frostDeparture_frame _ .rev (by decide), cutPass_frame _ .rev (by decide)]

/-- Every block has ended its RUN work (R72, R125, R145, R168). -/
theorem leaveRun_runIdle : runIdle (leaveRun s) := by
  refine ⟨?_, ?_, ?_, rfl⟩
  · rw [leaveRun_rev]
    exact ⟨rfl, rfl, rfl, rfl⟩
  · unfold leaveRun
    rw [pointsIdle, filterDeparture_frame _ .clim (by decide)]
    exact ⟨rfl, rfl⟩
  · unfold leaveRun
    rw [filterDeparture_frame _ .frost (by decide), climateDeparture_frame _ .frost (by decide)]
    rfl

theorem stopRestSampling_keeps : Keeps s (stopRestSampling s) := keeps_withClim id fun _ h => h

theorem requestMarkedChecks_keeps : Keeps s (requestMarkedChecks s) :=
  (requestConversions_keeps _ _).after (Keeps.after (keeps_withClim id fun _ => id) (Keeps.refl s))

theorem compareHours_keeps : Keeps s (compareHours s) := by
  unfold compareHours
  split
  · refine (requestWrite_keeps _).after (keeps_withFilt (fun h => ?_) fun _ => id)
    obtain ⟨h1, h2, h3, h4, h5, -, -, h6, h7⟩ := h
    exact ⟨h1, h2, h3, h4, h5, Nat.zero_le _, Nat.zero_le _, h6, h7⟩
  · exact Keeps.refl s

theorem startListening_keeps : Keeps s (startListening s) :=
  Keeps.trans (stopReversals_keeps s) (keeps_withRev fun _ => id)

end

/-! ### The parts of an entry to JOIN -/

section
variable (s : State)

def joinMode : State :=
  s.withMode { s.mode with
    mode := .join, setupWindow := none, inactivity := none, setupFlush := none, leaveAsked := false }

def joinOwn : State :=
  (haltOwn s).withOwn { (haltOwn s).own with k := none, instant := none, leaving := false }

def joinPass : State :=
  (cutPass s).withPass
    { state := .idle, snapshot := [], record := { nodes := [], n := 0, thaws := 0 }, current := false }

def joinClim : State := (stopRestSampling s).withClim (emptySets (stopRestSampling s).clim)

def joinFrost : State := s.withFrost { s.frost with claims := [], granted := false, ownClaim := .idle }

def joinDemand : State := s.withDemand { s.demand with restTimer := none, heldWake := none, flush := none }

def dropHeldSample : State := s.withFilt { s.filt with held := none }

/-- An entry to JOIN before the CLEAR checks and the hours are looked at. -/
def joinBlocks : State :=
  dropHeldSample (joinDemand (joinFrost (joinClim (fanModeEntry (setWanted .halt
    (joinPass (emptyPeers (joinOwn (startListening (joinMode s))))))))))

theorem joinEntry_eq : joinEntry s = compareHours (requestMarkedChecks (joinBlocks s)) := rfl

variable {s}

/-- JOIN is entered from modes other than RUN (R2, R69). -/
theorem joinEntry_keeps (h : s.mode.mode ≠ .run) : Keeps s (joinEntry s) := by
  have hmode : Keeps s (joinMode s) := keeps_withMode fun _ hrun => absurd hrun h
  have hown (x : State) : Keeps x (joinOwn x) := keeps_withOwn fun _ => flowBounded_halt ⟨rfl, rfl, rfl⟩
  have hpass (x : State) : Keeps x (joinPass x) := (keeps_withPass _).after (cutPass_keeps x)
  have hclim (x : State) : Keeps x (joinClim x) := (stopRestSampling_keeps x).trans (keeps_withClim id fun _ => id)
  have hfrost (x : State) : Keeps x (joinFrost x) := keeps_withFrost id id fun _ _ => rfl
  have hdemand (x : State) : Keeps x (joinDemand x) := keeps_withDemand _
  have hfilt (x : State) : Keeps x (dropHeldSample x) := keeps_withFilt id fun _ _ => rfl
  rw [joinEntry_eq]
  refine (compareHours_keeps _).after ((requestMarkedChecks_keeps _).after ((hfilt _).after ((hdemand _).after
    ((hfrost _).after ((hclim _).after ?_)))))
  exact (fanModeEntry_keeps _).after ((setWanted_keeps _ _).after ((hpass _).after ((emptyPeers_keeps _).after
    ((hown _).after ((startListening_keeps _).after hmode)))))

theorem joinFromSetup_keeps (h : s.mode.mode ≠ .run) : Keeps s (joinFromSetup s) := by
  unfold joinFromSetup
  split
  · refine (joinEntry_keeps ?_).after (requestWrite_keeps s)
    rwa [requestWrite_frame s .mode (by decide)]
  · exact joinEntry_keeps h

end

/-! ### Entries to REST -/

section
variable (s : State)

def restMode : State := s.withMode { s.mode with mode := .rest }

def restDemand (length : Nat) : State :=
  s.withDemand { s.demand with
    buttonBoost := none, runOn := none, humidity := .off
    restTimer := some (Count.later s.time.now length) }

def restClim : State :=
  s.withClim { s.clim with restSampling := some (Count.later s.time.now restSamplingCounts) }

theorem restCommon_eq (length : Nat) :
    restCommon length s = fanModeEntry (dropHeldSample (restClim (restDemand (restMode s) length))) := rfl

variable {s}

/-- REST is entered with the RUN work ended (R160, R161). -/
theorem restCommon_keeps (length : Nat) (h : s.mode.mode = .run → runIdle s) : Keeps s (restCommon length s) := by
  have hmode : Keeps s (restMode s) := keeps_withMode fun _ => h
  have hclim (x : State) : Keeps x (restClim x) := keeps_withClim id fun _ => id
  have hfilt (x : State) : Keeps x (dropHeldSample x) := keeps_withFilt id fun _ _ => rfl
  rw [restCommon_eq]
  exact (fanModeEntry_keeps _).after ((hfilt _).after ((hclim _).after ((keeps_withDemand _).after hmode)))

theorem restFromJoin_keeps (length : Nat) (h : s.mode.mode ≠ .run) : Keeps s (restFromJoin length s) := by
  unfold restFromJoin
  refine (haltOwn_keeps _).after (Keeps.after (restCommon_keeps length fun hrun => ?_) (stopReversals_keeps s))
  exact absurd hrun h

variable (s)

theorem restFromRun_keeps (length : Nat) : Keeps s (restFromRun length s) := by
  have hown (x : State) : Keeps x (x.withOwn { x.own with leaving := true }) := keeps_withOwn id
  unfold restFromRun
  refine (keeps_withDemand _).after ((queueNotice_keeps _ _).after ((hown _).after ?_))
  exact Keeps.after (restCommon_keeps length fun _ => leaveRun_runIdle s) (leaveRun_keeps s)

@[simp] theorem modeStop_mode : (modeStop s).mode = s.mode := by
  unfold modeStop
  rw [stopRequest_frame _ .mode (by decide)]
  split <;> rfl

variable {s}

theorem wakeStation_keeps (mark : Bool) (h : s.mode.mode ≠ .run) : Keeps s (wakeStation mark s) := by
  unfold wakeStation
  split
  · exact (queueNotice_keeps _ _).after (joinEntry_keeps h)
  · exact joinEntry_keeps h

theorem takeWake_keeps (cause : WakeCause) (mark : Bool) (h : s.mode.mode ≠ .run) :
    Keeps s (takeWake cause mark s) := by
  unfold takeWake
  split
  · exact keeps_withDemand _
  · exact wakeStation_keeps mark h

theorem endRestFlush_keeps (h : s.mode.mode ≠ .run) : Keeps s (endRestFlush s) := by
  unfold endRestFlush
  dsimp only
  split
  · refine Keeps.after (wakeStation_keeps _ ?_) ((modeStop_keeps _).after (keeps_withDemand _))
    simpa
  · exact (modeStop_keeps _).after (keeps_withDemand _)

end

/-! ### Entries to SETUP -/

section
variable (s : State)

def setupMode : State :=
  s.withMode { s.mode with
    mode := .setup, setupWindow := none, leaveAsked := false
    inactivity := some (Count.later s.time.now inactivityCounts) }

def setupLine : State := s.withLine { s.line with faultCount := 0, cutOff := none }

def setupFrost : State :=
  s.withFrost { s.frost with
    stage := .noFrost, severity := 0, rise := 0, fall := 0, warm := 0, lockHalves := 0
    thawHalves := 0, failed := 0, cause := none
    holdOff := if s.frost.stage = .thaw then 6 else s.frost.holdOff }

def setupDemand : State :=
  s.withDemand { s.demand with
    buttonBoost := none, runOn := none, humidity := .off, dryGuard := false, dryCount := 0
    slot := none, restTimer := none, flush := none, heldWake := none }

theorem setupCommon_eq :
    setupCommon s = requestMarkedChecks (fanModeEntry (setupDemand (setupFrost (emptyPeers (setupLine
      (emptyQueue (setupMode s))))))) := rfl

theorem setupFrost_keeps : Keeps s (setupFrost s) := by
  refine keeps_withFrost (fun hf => ?_) (fun _ hst => nomatch hst) fun _ => id
  obtain ⟨⟨-, -, -, -, -, -, hold, -, hthaw, hfailed⟩, -⟩ := hf
  refine ⟨⟨Nat.zero_le _, Nat.zero_le _, Nat.zero_le _, Nat.zero_le _, Nat.zero_le _, Nat.zero_le _, ?_,
    Nat.zero_le _, hthaw, hfailed⟩, by simp [causeHeld]⟩
  dsimp only
  split
  · exact Nat.le_refl 6
  · exact hold

variable {s}

/-- SETUP is entered with the RUN work ended (R145, R179). -/
theorem setupCommon_keeps (h : s.mode.mode = .run → runIdle s) : Keeps s (setupCommon s) := by
  have hmode : Keeps s (setupMode s) := keeps_withMode fun _ => h
  have hline (x : State) : Keeps x (setupLine x) :=
    keeps_withLine fun ⟨⟨_, hrest⟩, hq⟩ => ⟨⟨Nat.zero_le _, hrest⟩, hq⟩
  rw [setupCommon_eq]
  exact (requestMarkedChecks_keeps _).after ((fanModeEntry_keeps _).after ((keeps_withDemand _).after
    ((setupFrost_keeps _).after ((emptyPeers_keeps _).after ((hline _).after ((withdraw_keeps _ _).after hmode))))))

theorem endSetupFlush_keeps (h : s.mode.mode ≠ .run) : Keeps s (endSetupFlush s) := by
  have hmode : Keeps s (s.withMode { s.mode with setupFlush := none, leaveAsked := false }) :=
    keeps_withMode fun _ hrun => absurd hrun h
  unfold endSetupFlush
  dsimp only
  split
  · exact hmode.trans (joinFromSetup_keeps h)
  · exact hmode

variable (s)

theorem haltUnlessRun_keeps (m : Mode) : Keeps s (haltUnlessRun m s) := by
  unfold haltUnlessRun
  split
  · exact Keeps.refl s
  · exact haltOwn_keeps s

@[simp] theorem haltUnlessRun_mode (m : Mode) : (haltUnlessRun m s).mode = s.mode := by
  unfold haltUnlessRun
  split <;> rfl

def markLeaving : State := s.withOwn { s.own with leaving := true }

def startSetupFlush : State := s.withMode { s.mode with setupFlush := some (Count.later s.time.now flushCounts) }

/-- The station in SETUP, its LEAVE not yet queued. -/
def setupFromModesBlocks : State :=
  markLeaving (haltUnlessRun s.mode.mode (setupCommon (stopRestSampling (leaveRun s))))

theorem setupFromModes_eq :
    setupFromModes s = modeStop (startSetupFlush (queueLeave (setupFromModesBlocks s))) := rfl

theorem requestMarkedChecks_frame : othersKept [.clim] s (requestMarkedChecks s) :=
  othersKept_trans (withClim_frame s _) (requestConversions_frame _ _)

theorem fanModeEntry_frame : othersKept [.fan] s (fanModeEntry s) := withFan_frame s _

theorem setupLine_frame : othersKept [.line] s (setupLine s) := withLine_frame s _
theorem setupFrost_frame : othersKept [.frost] s (setupFrost s) := withFrost_frame s _
theorem setupDemand_frame : othersKept [.demand] s (setupDemand s) := withDemand_frame s _

/-- After the mode block an entry to SETUP writes these. -/
theorem setupCommon_frame :
    othersKept [.line, .peers, .frost, .demand, .fan, .clim] (setupMode s) (setupCommon s) := by
  rw [setupCommon_eq]
  refine othersKept_append (bs := [.line]) ?_ (othersKept_append (emptyPeers_frame _)
    (othersKept_append (setupFrost_frame _) (othersKept_append (setupDemand_frame _)
      (othersKept_append (fanModeEntry_frame _) (requestMarkedChecks_frame _)))))
  exact othersKept_trans (withdraw_frame _ _) (setupLine_frame _)

@[simp] theorem setupCommon_mode : (setupCommon s).mode = (setupMode s).mode := setupCommon_frame s .mode (by decide)

@[simp] theorem setupFromModesBlocks_mode : (setupFromModesBlocks s).mode = (setupMode (leaveRun s)).mode := by
  unfold setupFromModesBlocks markLeaving
  rw [State.withOwn_mode, haltUnlessRun_mode, setupCommon_mode]
  rfl

theorem setupFromModes_keeps : Keeps s (setupFromModes s) := by
  have hidle : runIdle (stopRestSampling (leaveRun s)) := leaveRun_runIdle s
  have hown (x : State) : Keeps x (markLeaving x) := keeps_withOwn id
  have hblocks : Keeps s (setupFromModesBlocks s) :=
    (hown _).after ((haltUnlessRun_keeps _ _).after (Keeps.after (setupCommon_keeps fun _ => hidle)
      ((stopRestSampling_keeps _).after (leaveRun_keeps s))))
  have hmode : (queueLeave (setupFromModesBlocks s)).mode.mode = .setup := by
    rw [queueLeave, queueNotice_frame _ _ .mode (by decide), setupFromModesBlocks_mode]
    rfl
  rw [setupFromModes_eq]
  have hflush : Keeps _ (startSetupFlush (queueLeave (setupFromModesBlocks s))) :=
    keeps_withMode fun _ hrun => nomatch hmode.symm.trans hrun
  exact (modeStop_keeps _).after (hflush.after (hblocks.trans (queueNotice_keeps _ _)))

theorem settleFlush_keeps : Keeps s (settleFlush s) := by
  unfold settleFlush
  split
  · rename_i h
    exact endRestFlush_keeps (by rw [h.1]; decide)
  split
  · rename_i h
    exact endSetupFlush_keeps (by rw [h.1]; decide)
  · exact Keeps.refl s

end

/-! ### CLEAR -/

section
variable (s : State)

theorem climateInRange_mark {c : ClimateSensing} (srcs : List Source) (h : climateInRange c) :
    climateInRange (markChecks c srcs) := by
  induction srcs generalizing c with
  | nil => exact h
  | cons src srcs ih => exact ih (by cases src <;> exact h)

theorem pointsIdle_mark {c : ClimateSensing} (srcs : List Source) (h : pointsIdle c) :
    pointsIdle (markChecks c srcs) := by
  induction srcs generalizing c with
  | nil => exact h
  | cons src srcs ih => exact ih (by cases src <;> exact h)

/-- The part of a CLEAR that asks for the CLEAR checks (R116). -/
def askChecks : State :=
  if s.mode.mode = .start then s.withClim (markChecks s.clim (latchedSources s))
  else requestConversions ((latchedSources s).map fun src => (src, Purpose.clearCheck)) s

theorem clearLatches_eq :
    clearLatches s =
      if (askChecks s).fan.latch.isSome ∧ (askChecks s).fan.trial = .idle then
        (askChecks s).withFan { (askChecks s).fan with trial := .pending }
      else askChecks s := rfl

theorem askChecks_keeps : Keeps s (askChecks s) := by
  unfold askChecks
  split
  · exact keeps_withClim (climateInRange_mark _) fun _ => pointsIdle_mark _
  · exact requestConversions_keeps s _

theorem clearLatches_keeps : Keeps s (clearLatches s) := by
  rw [clearLatches_eq]
  split
  · exact (askChecks_keeps s).trans (keeps_withFan id)
  · exact askChecks_keeps s

end
end Sys2Proof.Laws
end

section
/-! ## What every operation keeps: the frost guard and the demand unit -/

namespace Sys2Proof.Laws

open Sys2Proof.Machine Sys2Proof.Safety

/-! ### The frost guard -/

section
variable {f : FrostGuard}

theorem bump16_le (n : Nat) : bump16 n ≤ 65535 := Nat.min_le_right _ _

/-- A stage other than LOCKOUT that follows one holds no cause (R127). -/
theorem frostKept_move {st : FrostStage} {failed : Nat} (hf : failed ≤ 3) (hst : st ≠ .lockout)
    (hs : f.stage ≠ .lockout) (h : frostKept f) :
    frostKept { f with stage := st, rise := 0, fall := 0, warm := 0, failed := failed } := by
  obtain ⟨⟨h1, -, -, -, h5, h6, h7, -, h9, h10⟩, hcause⟩ := h
  refine ⟨⟨h1, Nat.zero_le _, Nat.zero_le _, Nat.zero_le _, h5, h6, h7, hf, h9, h10⟩, ?_⟩
  simp only [causeHeld, hs, hst, iff_false] at hcause ⊢
  exact hcause

/-- The ranges of LOCKOUT at its entry (R136). -/
theorem frostKept_lock (cause : LockCause) (rise fall warm failed : Nat) (hr : rise ≤ 3) (hfa : fall ≤ 2)
    (hw : warm ≤ 2) (hf : failed ≤ 3) (h : frostKept f) :
    frostKept { f with
      stage := .lockout, rise := rise, fall := fall, warm := warm, failed := failed, cause := some cause,
      lockHalves := 0, postThaw := none } := by
  obtain ⟨⟨h1, -, -, -, -, h6, h7, -, h9, h10⟩, -⟩ := h
  exact ⟨⟨h1, hr, hfa, hw, Nat.zero_le _, h6, h7, hf, h9, h10⟩, by simp [causeHeld]⟩

end

section
variable (s : State)

@[simp] theorem dropClaim_stage : (dropClaim s).frost.stage = s.frost.stage := by
  unfold dropClaim
  split <;> rfl

/-- The state of a change of stage with the own claim given up where R131 says so. -/
def claimLeft : State := if s.frost.stage = .claiming then dropClaim s else s

theorem claimLeft_keeps : Keeps s (claimLeft s) := by
  unfold claimLeft
  split
  · exact dropClaim_keeps s
  · exact Keeps.refl s

@[simp] theorem claimLeft_stage : (claimLeft s).frost.stage = s.frost.stage := by
  unfold claimLeft
  split
  · exact dropClaim_stage s
  · rfl

theorem moveStage_of_ne {st : FrostStage} (h : s.frost.stage ≠ st) :
    moveStage st s = (claimLeft s).withFrost { (claimLeft s).frost with
      stage := st, rise := 0, fall := 0, warm := 0
      failed := if st = .noFrost then 0 else (claimLeft s).frost.failed } := by
  unfold moveStage claimLeft
  rw [if_neg h]

theorem moveStage_of_eq {st : FrostStage} (h : s.frost.stage = st) : moveStage st s = s := if_pos h

variable {s}

/-- Outside LOCKOUT a change of stage keeps the frost guard's ranges (R127, R131). -/
theorem moveStage_keeps {st : FrostStage} (hst : st ≠ .lockout) (hs : s.frost.stage ≠ .lockout) :
    Keeps s (moveStage st s) := by
  by_cases heq : s.frost.stage = st
  · rw [moveStage_of_eq s heq]
    exact Keeps.refl s
  · rw [moveStage_of_ne s heq]
    refine (claimLeft_keeps s).trans (keeps_withFrost (fun h => ?_) (fun _ hl => absurd hl hst) fun _ => id)
    refine frostKept_move ?_ hst (by rwa [claimLeft_stage]) h
    obtain ⟨-, -, -, -, -, -, -, hfailed, -, -⟩ := h.1
    split
    · exact Nat.zero_le _
    · exact hfailed

theorem moveStage_keeps_or {st : FrostStage} (h : s.frost.stage = .lockout ↔ st = .lockout) :
    Keeps s (moveStage st s) := by
  by_cases hst : st = .lockout
  · rw [moveStage_of_eq s ((h.mpr hst).trans hst.symm)]
    exact Keeps.refl s
  · exact moveStage_keeps hst fun hs => hst (h.mp hs)

theorem changeStage_keeps {st : FrostStage} (h : s.frost.stage = .lockout ↔ st = .lockout) :
    Keeps s (changeStage st s) := (moveStage_keeps_or h).trans (recomputeCeil_keeps _)

variable (s)

/-- The frost block that a LOCKOUT begins with (R136). -/
def lockNow (cause : LockCause) : State :=
  (moveStage .lockout s).withFrost { (moveStage .lockout s).frost with
    cause := some cause, lockHalves := 0, postThaw := none }

theorem lockNow_keeps (cause : LockCause) : Keeps s (lockNow s cause) := by
  unfold lockNow
  by_cases heq : s.frost.stage = .lockout
  · rw [moveStage_of_eq s heq]
    refine keeps_withFrost (fun h => ?_) (fun _ _ => rfl) fun _ => id
    obtain ⟨-, hr, hfa, hw, -, -, -, hf, -, -⟩ := h.1
    have := frostKept_lock cause _ _ _ _ hr hfa hw hf h
    rwa [← heq] at this
  · rw [moveStage_of_ne s heq]
    refine (claimLeft_keeps s).trans (keeps_withFrost (s := claimLeft s) (fun h => ?_) (fun _ _ => rfl) fun _ => id)
    obtain ⟨-, -, -, -, -, -, -, hf, -, -⟩ := h.1
    exact frostKept_lock (f := (claimLeft s).frost) cause 0 0 0 _ (Nat.zero_le _) (Nat.zero_le _) (Nat.zero_le _) hf h

/-- The THAW that a LOCKOUT ends (R136). -/
def thawCut : State :=
  s.withFrost { s.frost with holdOff := if s.frost.stage = .thaw then 6 else s.frost.holdOff, thawHalves := 0 }

theorem thawCut_keeps : Keeps s (thawCut s) := by
  refine keeps_withFrost (fun ⟨⟨h1, h2, h3, h4, h5, _, h7, h8, h9, h10⟩, hc⟩ => ?_) id fun _ => id
  refine ⟨⟨h1, h2, h3, h4, h5, Nat.zero_le _, ?_, h8, h9, h10⟩, hc⟩
  dsimp only
  split
  · exact Nat.le_refl 6
  · exact h7

theorem enterLockout_eq (cause : LockCause) :
    enterLockout cause s = haltInside (requestWrite (lockNow (thawCut (dropClaim s)) cause)) := rfl

theorem enterLockout_keeps (cause : LockCause) : Keeps s (enterLockout cause s) := by
  rw [enterLockout_eq]
  exact (haltInside_keeps _).after ((requestWrite_keeps _).after ((lockNow_keeps _ _).after
    ((thawCut_keeps _).after (dropClaim_keeps s))))

theorem endLockout_keeps : Keeps s (endLockout s) := by
  unfold endLockout
  dsimp only
  by_cases heq : s.frost.stage = .noFrost
  · rw [moveStage_of_eq s heq]
    refine keeps_withFrost (fun h => ?_) (fun _ hl => nomatch heq.symm.trans hl) fun _ => id
    obtain ⟨⟨h1, h2, h3, -, -, h6, h7, -, h9, h10⟩, -⟩ := h
    exact ⟨⟨h1, h2, h3, Nat.zero_le _, Nat.zero_le _, h6, h7, Nat.zero_le _, h9, h10⟩, by simp [causeHeld, heq]⟩
  · rw [moveStage_of_ne s heq]
    refine (claimLeft_keeps s).trans
      (keeps_withFrost (s := claimLeft s) (fun h => ?_) (fun _ hl => nomatch hl) fun _ => id)
    obtain ⟨⟨h1, -, -, -, -, h6, h7, -, h9, h10⟩, -⟩ := h
    exact ⟨⟨h1, Nat.zero_le _, Nat.zero_le _, Nat.zero_le _, Nat.zero_le _, h6, h7, Nat.zero_le _, h9, h10⟩,
      by simp [causeHeld]⟩

theorem severityAfter_le (r : FrostResult) {old : Nat} (h : old ≤ 7) : severityAfter r old ≤ 7 := by
  have hbase (t : Int) : baseSeverity t ≤ 7 := by
    unfold baseSeverity
    split <;> omega
  unfold severityAfter
  split
  · split
    · exact Nat.min_le_right _ _
    · exact hbase _
  · exact h

variable {s} in
theorem judgeInLockout_keeps (p10 t : Int) (hs : s.frost.stage = .lockout) : Keeps s (judgeInLockout p10 t s) := by
  unfold judgeInLockout
  split
  · refine keeps_withFrost (fun ⟨⟨h1, h2, h3, _, h5, h6, h7, h8, h9, h10⟩, _⟩ => ?_) id fun _ => id
    refine ⟨⟨h1, h2, h3, Nat.zero_le _, ?_, h6, h7, h8, h9, h10⟩, by simp [causeHeld, hs]⟩
    dsimp only
    split
    · exact Nat.zero_le _
    · exact h5
  · split
    · split
      · rename_i hw
        exact keeps_withFrost
          (fun ⟨⟨h1, h2, h3, _, h5⟩, hc⟩ => ⟨⟨h1, h2, h3, Nat.le_of_lt hw, h5⟩, hc⟩) id fun _ => id
      · exact endLockout_keeps s
    · exact keeps_withFrost
        (fun ⟨⟨h1, h2, h3, _, h5⟩, hc⟩ => ⟨⟨h1, h2, h3, Nat.zero_le _, h5⟩, hc⟩) id fun _ => id

theorem judgeLockout_keeps (r : FrostResult) : Keeps s (judgeLockout r s) := by
  unfold judgeLockout
  split
  · exact Keeps.refl s
  · split
    · exact judgeInLockout_keeps _ _ ‹_›
    · split
      · exact enterLockout_keeps s _
      · exact Keeps.refl s

theorem heldStage_lockout (t : Option Int) (st : FrostStage) : st = .lockout ↔ heldStage t st = .lockout := by
  cases st <;> cases t <;> simp [heldStage] <;> split <;> simp

theorem faultHold_keeps (r : FrostResult) : Keeps s (faultHold r s) := by
  unfold faultHold
  exact (changeStage_keeps (heldStage_lockout _ _)).after (keeps_withFrost id (fun _ _ => rfl) fun _ => id)

theorem setRise_keeps {n : Nat} (h : n ≤ 3) : Keeps s (setRise n s) :=
  keeps_withFrost (fun ⟨⟨h1, _, _, h4⟩, hc⟩ => ⟨⟨h1, h, Nat.zero_le _, h4⟩, hc⟩) id fun _ => id

theorem setFall_keeps {n : Nat} (h : n ≤ 2) : Keeps s (setFall n s) :=
  keeps_withFrost (fun ⟨⟨h1, _, _, h4⟩, hc⟩ => ⟨⟨h1, Nat.zero_le _, h, h4⟩, hc⟩) id fun _ => id

theorem stageTransition_keeps : Keeps s (stageTransition s) := by
  have move {old st : FrostStage} (hs : s.frost.stage = old) (h : (old = .lockout ↔ st = .lockout) := by decide) :
      Keeps s (changeStage st s) := changeStage_keeps (by rw [hs]; exact h)
  unfold stageTransition
  split
  next hs =>
    split
    · exact move hs
    · exact Keeps.refl s
  next hs =>
    split
    · split
      · exact setRise_keeps s (by omega)
      · exact move hs
    · split
      · split
        · exact setFall_keeps s (by omega)
        · exact move hs
      · exact setRise_keeps s (by omega)
  next hs =>
    split
    · split
      · exact setRise_keeps s (by omega)
      · split
        · exact move hs
        · exact setRise_keeps s (by omega)
    · split
      · split
        · exact setFall_keeps s (by omega)
        · exact move hs
      · exact setRise_keeps s (by omega)
  next hs =>
    split
    · exact move hs
    · exact Keeps.refl s
  · exact Keeps.refl s
  · exact Keeps.refl s

theorem thawFailed_keeps : Keeps s (thawFailed s) := by
  have hcount : Keeps s (s.withFrost { s.frost with
      postThaw := none, failed := min (s.frost.failed + 1) 3, failedTotal := bump16 s.frost.failedTotal }) :=
    keeps_withFrost (fun ⟨⟨h1, h2, h3, h4, h5, h6, h7, _, h9, _⟩, hc⟩ =>
      ⟨⟨h1, h2, h3, h4, h5, h6, h7, Nat.min_le_right _ _, h9, bump16_le _⟩, hc⟩) (fun _ _ => rfl) fun _ => id
  unfold thawFailed
  dsimp only
  split
  · exact hcount.trans (enterLockout_keeps _ _)
  · exact hcount

theorem judgeThaw_keeps : Keeps s (judgeThaw s) := by
  unfold judgeThaw
  split
  · exact Keeps.refl s
  next w hw =>
    split
    · exact keeps_withFrost (fun ⟨⟨h1, h2, h3, h4, h5, h6, h7, _, h9⟩, hc⟩ =>
        ⟨⟨h1, h2, h3, h4, h5, h6, h7, Nat.zero_le _, h9⟩, hc⟩) (fun _ _ => rfl) fun _ => id
    · split
      · exact keeps_withFrost id (fun h hl => nomatch hw.symm.trans (h hl)) fun _ => id
      · split
        · exact thawFailed_keeps s
        · exact keeps_withFrost id (fun _ _ => rfl) fun _ => id

theorem judgeStage_keeps (r : FrostResult) : Keeps s (judgeStage r s) := by
  unfold judgeStage
  split
  · exact faultHold_keeps s r
  · split
    · exact Keeps.refl s
    · exact (judgeThaw_keeps _).after (stageTransition_keeps s)

theorem applyFrost_keeps (r : FrostResult) : Keeps s (applyFrost r s) := by
  have hseverity : Keeps s (s.withFrost { s.frost with severity := severityAfter r s.frost.severity }) :=
    keeps_withFrost (fun ⟨⟨h1, hrest⟩, hc⟩ => ⟨⟨severityAfter_le r h1, hrest⟩, hc⟩) id fun _ => id
  have hlock := hseverity.trans (judgeLockout_keeps _ r)
  unfold applyFrost
  dsimp only
  split
  · exact hlock
  · exact hlock.trans (judgeStage_keeps _ r)

/-- What the stage makes of an own reversal expiry (R132, R133, R137). -/
def frostHalf : State :=
  match s.frost.stage with
  | .claiming =>
    if s.frost.granted then
      (moveStage .thaw s).withFrost { (moveStage .thaw s).frost with
        thawHalves := 1, thawTotal := bump16 (moveStage .thaw s).frost.thawTotal }
    else s
  | .thaw =>
    if s.frost.thawHalves < 4 then s.withFrost { s.frost with thawHalves := s.frost.thawHalves + 1 }
    else
      (moveStage .trim s).withFrost { (moveStage .trim s).frost with
        thawHalves := 0, holdOff := 6, postThaw := some { seen := 0, high := false } }
  | .lockout =>
    if s.frost.cause = some LockCause.failed then
      if s.frost.lockHalves + 1 < 20 then s.withFrost { s.frost with lockHalves := s.frost.lockHalves + 1 }
      else endLockout s
    else s
  | _ => s

def holdOffDown : State := s.withFrost { s.frost with holdOff := s.frost.holdOff - 1 }

def claimsCleared : State := s.withFrost { s.frost with claims := [], ownClaim := .idle, granted := false }

theorem frostExpiry_eq : frostExpiry s = claimsCleared (frostHalf (holdOffDown s)) := rfl

theorem moveStage_stage (st : FrostStage) : (moveStage st s).frost.stage = st := by
  by_cases heq : s.frost.stage = st
  · rw [moveStage_of_eq s heq, heq]
  · rw [moveStage_of_ne s heq]
    rfl

theorem frostHalf_keeps : Keeps s (frostHalf s) := by
  unfold frostHalf
  split
  next hs =>
    split
    · refine (moveStage_keeps (st := .thaw) (by decide) (by rw [hs]; decide)).trans
        (keeps_withFrost (fun ⟨⟨h1, h2, h3, h4, h5, _, h7, h8, _, h10⟩, hc⟩ => ?_) id fun _ => id)
      exact ⟨⟨h1, h2, h3, h4, h5, by dsimp only; omega, h7, h8, bump16_le _, h10⟩, hc⟩
    · exact Keeps.refl s
  next hs =>
    split
    · exact keeps_withFrost (fun ⟨⟨h1, h2, h3, h4, h5, _, h7⟩, hc⟩ => ⟨⟨h1, h2, h3, h4, h5, by dsimp only; omega, h7⟩, hc⟩)
        id fun _ => id
    · refine (moveStage_keeps (st := .trim) (by decide) (by rw [hs]; decide)).trans
        (keeps_withFrost (fun ⟨⟨h1, h2, h3, h4, h5, _, _, h8⟩, hc⟩ => ?_) (fun _ hl => ?_) fun _ => id)
      · exact ⟨⟨h1, h2, h3, h4, h5, by dsimp only; omega, by dsimp only; omega, h8⟩, hc⟩
      · exact nomatch (moveStage_stage s .trim).symm.trans hl
  next =>
    split
    · split
      · exact keeps_withFrost (fun ⟨⟨h1, h2, h3, h4, _, h6⟩, hc⟩ => ⟨⟨h1, h2, h3, h4, by dsimp only; omega, h6⟩, hc⟩)
          id fun _ => id
      · exact endLockout_keeps s
    · exact Keeps.refl s
  · exact Keeps.refl s

theorem frostExpiry_keeps : Keeps s (frostExpiry s) := by
  have hhold : Keeps s (holdOffDown s) :=
    keeps_withFrost (fun ⟨⟨h1, h2, h3, h4, h5, h6, h7, h8⟩, hc⟩ => ⟨⟨h1, h2, h3, h4, h5, h6, by dsimp only; omega, h8⟩, hc⟩)
      id fun _ => id
  rw [frostExpiry_eq]
  exact (hhold.trans (frostHalf_keeps _)).trans (keeps_withFrost id id fun _ _ => rfl)

theorem queueClaim_keeps : Keeps s (queueClaim s) := by
  have hmark (x : State) : Keeps x (x.withFrost { x.frost with ownClaim := .queued }) :=
    keeps_withFrost id id fun _ => id
  unfold queueClaim
  split
  · dsimp only
    split
    · exact queueNotice_keeps s _
    · exact (queueNotice_keeps s _).trans (hmark _)
  · exact Keeps.refl s

/-- A claim qualifies in RUN alone (R141). -/
theorem claimQualifies_run {node : Nat} {k : HalfNo} {start : Count} (h : claimQualifies s node k start = true) :
    s.mode.mode = .run := by
  unfold claimQualifies at h
  split at h
  · simp only [Bool.and_eq_true, decide_eq_true_eq, and_assoc] at h
    exact h.1
  · exact absurd h (by decide)

theorem receiveClaim_keeps (node : Nat) (k : HalfNo) (severity : Nat) (start : Count) :
    Keeps s (receiveClaim node k severity start s) := by
  unfold receiveClaim
  split
  · rename_i h
    exact keeps_withFrost id id fun hne => absurd (claimQualifies_run s h) hne
  · exact Keeps.refl s

theorem placeOwnClaim_keeps (k : HalfNo) (severity : Nat) (start : Count) :
    Keeps s (placeOwnClaim k severity start s) := by
  unfold placeOwnClaim
  split
  · rename_i h
    exact keeps_withFrost id id fun hne => absurd (claimQualifies_run s h) hne
  · exact Keeps.refl s

theorem closeClaims_keeps : Keeps s (closeClaims s) := by
  unfold closeClaims
  split
  · dsimp only
    split
    · exact withdraw_keeps s _
    · exact (withdraw_keeps s _).trans (keeps_withFrost id id fun _ => id)
  · exact Keeps.refl s

end

/-! ### Demand -/

section
variable (s : State)

theorem applyHumidity_keeps (rh prev : Option Int) : Keeps s (applyHumidity rh prev s) := by
  unfold applyHumidity judgeHumidity
  split
  · split
    · exact keeps_withDemand _
    · split
      · exact keeps_withDemand _
      · exact Keeps.refl s
  · exact Keeps.refl s

theorem applyDryGuard_keeps (rh tOutdoor : Option Int) : Keeps s (applyDryGuard rh tOutdoor s) := by
  unfold applyDryGuard
  split
  · split
    · exact keeps_withDemand _
    · exact Keeps.refl s
  · split
    · split
      · split <;> exact keeps_withDemand _
      · exact keeps_withDemand _
    · exact Keeps.refl s

theorem pressButton_keeps : Keeps s (pressButton s) := by
  unfold pressButton
  split
  · exact Keeps.refl s
  · dsimp only
    split
    · rename_i h
      exact (keeps_withDemand _).trans (takeWake_keeps _ _ (by rw [State.withDemand_mode, h]; decide))
    · exact keeps_withDemand _

theorem releaseButton_keeps : Keeps s (releaseButton s) := by
  unfold releaseButton releaseEffect
  split
  · exact Keeps.refl s
  · dsimp only
    split
    · split
      · exact (keeps_withDemand _).trans (keeps_withDemand _)
      · split
        · exact (keeps_withDemand _).trans (keeps_withDemand _)
        · exact keeps_withDemand _
    · exact keeps_withDemand _

theorem applyLevel_keeps (node : Nat) (level : Level) (hold : Nat) : Keeps s (applyLevel node level hold s) := by
  unfold applyLevel
  split
  · exact Keeps.refl s
  · exact keeps_withDemand _

theorem applyRest_keeps (arg : Nat) : Keeps s (applyRest arg s) := by
  unfold applyRest
  split
  · exact restFromRun_keeps s _
  · exact restFromJoin_keeps _ (by simp [*])
  · exact keeps_withDemand _
  · exact Keeps.refl s
  · exact Keeps.refl s

theorem applyResume_keeps (node : Nat) : Keeps s (applyResume node s) := by
  unfold applyResume
  split
  · exact takeWake_keeps _ _ (by simp [*])
  · exact Keeps.refl s
  · exact Keeps.refl s
  · split
    · split
      · exact keeps_withDemand _
      · exact Keeps.refl s
    · exact Keeps.refl s

theorem applyWake_keeps : Keeps s (applyWake s) := by
  unfold applyWake
  split
  · exact takeWake_keeps _ _ (by simp [*])
  · exact Keeps.refl s

end
end Sys2Proof.Laws
end

section
/-! ## What every operation keeps: sensing, the filter supervisor and the own reversal expiry -/

namespace Sys2Proof.Laws

open Sys2Proof.Machine Sys2Proof.Safety

/-! ### Climate sensing -/

section
variable (s : State)

/-- A judged sensor has an invalid count of at most 2 (R115). -/
theorem judgeSensor_invalid (valid : Option Int) (check : Bool) {x : Sensor} (h : x.invalid ≤ 2) :
    (judgeSensor valid check x).invalid ≤ 2 := by
  unfold judgeSensor
  split
  · exact Nat.zero_le _
  · split
    · exact h
    · split
      · dsimp only
        omega
      · exact Nat.zero_le _

theorem climateInRange_withSensor {c : ClimateSensing} (src : Source) {x : Sensor} (hx : x.invalid ≤ 2)
    (h : climateInRange c) : climateInRange (withSensor c src x) := by
  obtain ⟨ho, hi, hr, hn⟩ := h
  cases src with
  | outer => exact ⟨hx, hi, hr, hn⟩
  | inner => exact ⟨ho, hx, hr, hn⟩
  | rh => exact ⟨ho, hi, hx, hn⟩

theorem sensorOf_invalid {c : ClimateSensing} (src : Source) (h : climateInRange c) : (sensorOf c src).invalid ≤ 2 := by
  obtain ⟨ho, hi, hr, -⟩ := h
  cases src with
  | outer => exact ho
  | inner => exact hi
  | rh => exact hr

theorem deliverSet_stays (src : Source) (r : Reading) (c : ClimateSensing) (p : Purpose) :
    ClimStays c (deliverSet src r c p) := by
  unfold deliverSet
  split <;> exact ⟨rfl, rfl, rfl, rfl, rfl, rfl⟩

theorem deliverSets_stays (src : Source) (r : Reading) (ps : List Purpose) (c : ClimateSensing) :
    ClimStays c (ps.foldl (deliverSet src r) c) := by
  induction ps generalizing c with
  | nil => exact ⟨rfl, rfl, rfl, rfl, rfl, rfl⟩
  | cons p ps ih => exact (deliverSet_stays src r c p).trans (ih _)

theorem flowBounded_writeClimatePart (src : Source) (valid : Option Int) (latched outEnd : Bool) {o : OwnRecord}
    (h : flowBounded o) : flowBounded (writeClimatePart src valid latched outEnd o) := by
  unfold writeClimatePart
  split
  · split <;> exact h
  · split
    · exact h
    · split <;> exact h
  · split <;> exact h

theorem pointsIdle_withSensor {c : ClimateSensing} (src : Source) (x : Sensor) (h : pointsIdle c) :
    pointsIdle (withSensor c src x) := by
  cases src <;> exact h

theorem deliver_keeps (src : Source) (ps : List Purpose) (valid : Option Int) :
    Keeps s (deliver src ps valid s) := by
  have hown : Keeps s (s.withOwn (writeClimatePart src valid
      (judgeSensor valid (ps.contains .clearCheck) (sensorOf s.clim src)).latched (endsOutHalf s.clim ps) s.own)) :=
    keeps_withOwn (flowBounded_writeClimatePart _ _ _ _)
  have hstay := deliverSets_stays src (readingOf valid (judgeSensor valid (ps.contains .clearCheck) (sensorOf s.clim src)))
    ps (withSensor { s.clim with converting := none } src
      (judgeSensor valid (ps.contains .clearCheck) (sensorOf s.clim src)))
  refine hown.trans (keeps_withClim (fun h => hstay.inRange ?_) fun _ h => hstay.pointsIdle ?_)
  · exact climateInRange_withSensor _ (judgeSensor_invalid _ _ (sensorOf_invalid src h)) h
  · exact pointsIdle_withSensor _ _ h

theorem settleAwaiting_keeps (src : Source) (ps : List Purpose) : Keeps s (settleAwaiting src ps s) := by
  have hclim (a : Option Awaiting) : Keeps s (s.withClim { s.clim with awaiting := a }) :=
    keeps_withClim id fun _ => id
  unfold settleAwaiting
  split
  · split
    · dsimp only
      split
      · exact (hclim none).trans (keeps_withUnit _)
      · exact hclim _
    · exact Keeps.refl s
  · exact Keeps.refl s

theorem converterGoesOn_keeps : Keeps s (converterGoesOn s) := keeps_of_climStays s (startConversion_stays _)

theorem humidityWakes_rest {src : Source} {ps : List Purpose} {r : Reading} (h : humidityWakes s src ps r = true) :
    s.mode.mode = .rest := by
  simp only [humidityWakes, Bool.and_eq_true, decide_eq_true_eq, and_assoc] at h
  exact h.1

/-- The state with the result of a conversion delivered, its converter not yet going on. -/
def delivered (x : Conversion) (result : Int) : State :=
  settleAwaiting x.source x.purposes (deliver x.source x.purposes (judgeResult x.source result) s)

theorem completeConversion_of_some {x : Conversion} (result : Int) (h : s.clim.converting = some x) :
    completeConversion result s =
      if humidityWakes (delivered s x result) x.source x.purposes
          (readingOf (judgeResult x.source result) (sensorOf (delivered s x result).clim x.source)) then
        converterGoesOn (wakeStation true
          ((delivered s x result).withDemand { (delivered s x result).demand with humidity := .active }))
      else converterGoesOn (delivered s x result) := by
  simp only [completeConversion, h]
  rfl

theorem completeConversion_keeps (result : Int) : Keeps s (completeConversion result s) := by
  cases h : s.clim.converting with
  | none =>
    simp only [completeConversion, h]
    exact Keeps.refl s
  | some x =>
    have hdelivered : Keeps s (delivered s x result) :=
      (deliver_keeps s _ _ _).trans (settleAwaiting_keeps _ _ _)
    rw [completeConversion_of_some s result h]
    split
    next hw =>
      refine hdelivered.trans ((converterGoesOn_keeps _).after (Keeps.after (wakeStation_keeps true ?_)
        (keeps_withDemand _)))
      rw [State.withDemand_mode, humidityWakes_rest _ hw]
      decide
    next => exact hdelivered.trans (converterGoesOn_keeps _)

theorem joinRatio_length {ratios : List Nat} (rho : Nat) (h : ratios.length ≤ 8) :
    (joinRatio ratios rho).length ≤ 8 := by
  unfold joinRatio
  split
  · simp only [List.length_append, List.length_singleton]
    omega
  · simp only [List.length_append, List.length_drop, List.length_singleton]
    omega

theorem writeRatio_keeps (i : EvalInputs) : Keeps s (writeRatio i s) := by
  unfold writeRatio
  refine Keeps.after (keeps_withOwn id) (keeps_withClim (fun ⟨ho, hi, hr, hn⟩ => ⟨ho, hi, hr, ?_⟩) fun _ => id)
  dsimp only
  split
  · exact joinRatio_length _ hn
  · exact hn

theorem applyEvaluation_keeps (i : EvalInputs) : Keeps s (applyEvaluation i s) :=
  (applyDryGuard_keeps _ _ _).after ((applyHumidity_keeps _ _ _).after ((applyFrost_keeps _ _).after
    (writeRatio_keeps s i)))

theorem completeClimate_keeps : Keeps s (completeClimate s) := by
  unfold completeClimate
  split
  · dsimp only
    split
    · exact keeps_withUnit _
    · exact (keeps_withUnit _).trans (applyEvaluation_keeps _ _)
  · exact Keeps.refl s

end

/-! ### The filter supervisor -/

section
variable (s : State)

variable {s} in
theorem handReport_keeps (h : s.mode.mode = .run) : Keeps s (handReport s) := by
  have hheld (x : Option FilterSample) : Keeps s (s.withFilt { s.filt with held := x }) :=
    keeps_withFilt id fun hne => absurd h hne
  have hreport (side : Side) : Keeps s (reportHalf side s) := by
    unfold reportHalf takeSample
    split
    · split
      · split
        · exact (hheld none).trans (keeps_withUnit _)
        · exact hheld _
      · exact hheld _
    · exact Keeps.refl s
  unfold handReport
  split
  · exact (hreport _).trans (keeps_withFan fun ⟨hf, hd, hs, _⟩ => ⟨hf, hd, hs, Nat.zero_le _⟩)
  · exact Keeps.refl s

theorem loadingOf_le (ratio ref : Nat) : loadingOf ratio ref ≤ 1000 := by
  unfold loadingOf
  split <;> exact Nat.min_le_right _ _

theorem ceilOfLoading_le (a : Nat) : ceilOfLoading a ≤ 120 := by
  unfold ceilOfLoading
  omega

theorem runCount_le (kept : Bool) (loading threshold n : Nat) : runCount kept loading threshold n ≤ 30 := by
  unfold runCount
  split
  · exact Nat.min_le_right _ _
  · exact Nat.zero_le _

variable {s} in
theorem writeLoadings_keeps {a b : Nat} (ha : a ≤ 1000) (hb : b ≤ 1000) : Keeps s (writeLoadings a b s) := by
  refine keeps_withFilt (fun ⟨_, _, _, _, _, h6⟩ => ⟨ha, hb, ?_, ceilOfLoading_le a, ceilOfLoading_le b, h6⟩) fun _ => id
  dsimp only
  omega

/-- The filter block that a judgement writes (R172). -/
def judgedFilter : FilterSupervisor :=
  let loaded := runCount (above .loaded s.filt.state) s.filt.loading (thresholds s).1 s.filt.runLoaded
  let change := runCount (above .change s.filt.state) s.filt.loading (thresholds s).2.1 s.filt.runChange
  let blocked := runCount (above .blocked s.filt.state) s.filt.loading (thresholds s).2.2 s.filt.runBlocked
  let risen := risenState s.filt.state loaded change blocked
  { s.filt with
    state := risen
    runLoaded := if above .loaded risen then loaded else 0
    runChange := if above .change risen then change else 0
    runBlocked := if above .blocked risen then blocked else 0 }

theorem judgeFilter_eq :
    judgeFilter s = if (judgedFilter s).state = s.filt.state then s.withFilt (judgedFilter s)
      else requestWrite (s.withFilt (judgedFilter s)) := rfl

theorem judgeFilter_keeps : Keeps s (judgeFilter s) := by
  have hcount (b : Bool) {n : Nat} (hn : n ≤ 30) : (if b then n else 0) ≤ 30 := by
    split
    · exact hn
    · exact Nat.zero_le _
  have hfilt : Keeps s (s.withFilt (judgedFilter s)) :=
    keeps_withFilt (fun ⟨h1, h2, h3, h4, h5, _, _, _, h9⟩ => ⟨h1, h2, h3, h4, h5, hcount _ (runCount_le ..),
      hcount _ (runCount_le ..), hcount _ (runCount_le ..), h9⟩) fun _ => id
  rw [judgeFilter_eq]
  split
  · exact hfilt
  · exact hfilt.trans (requestWrite_keeps _)

theorem learnPair_keeps (n : Nat) (p : FilterPair) : Keeps s (learnPair n p s) := by
  unfold learnPair
  split <;> exact keeps_withFilt id fun _ => id

theorem applyFilter_keeps (p : FilterPair) : Keeps s (applyFilter p s) := by
  unfold applyFilter
  split
  · exact (recomputeCeil_keeps _).after ((learnPair_keeps _ _ _).after ((judgeFilter_keeps _).after
      (writeLoadings_keeps (Nat.zero_le _) (Nat.zero_le _))))
  · exact (recomputeCeil_keeps _).after ((judgeFilter_keeps _).after
      (writeLoadings_keeps (loadingOf_le _ _) (loadingOf_le _ _)))

theorem completeFilter_keeps : Keeps s (completeFilter s) := by
  unfold completeFilter
  split
  · dsimp only
    split
    · exact keeps_withUnit _
    · exact (keeps_withUnit _).trans (applyFilter_keeps _ _)
  · exact Keeps.refl s

theorem addFilterHour_keeps : Keeps s (addFilterHour s) := by
  unfold addFilterHour
  split
  · refine (compareHours_keeps _).after (Keeps.after (keeps_withFilt
      (fun ⟨h1, h2, h3, h4, h5, h6, h7, h8, _⟩ => ⟨h1, h2, h3, h4, h5, h6, h7, h8, bump16_le _⟩) fun _ => id) ?_)
    exact keeps_withTime rfl
  · exact Keeps.refl s

/-- The filter block right after a FILTER RESET (R174). -/
def resetFilt : FilterSupervisor :=
  { refIn := 0, refOut := 0, learning := some 0, sumIn := 0, sumOut := 0, held := none,
    loadIn := 0, loadOut := 0, loading := 0, wind := 0, ceilIn := 120, ceilOut := 120,
    state := .clean, runLoaded := 0, runChange := 0, runBlocked := 0, hours := 0 }

/-- The blocks that a FILTER RESET writes before C follows (R174). -/
def resetFilterBlocks : State :=
  ((cutFilterJob s).withFilt resetFilt).withTime { ((cutFilterJob s).withFilt resetFilt).time with fanTime := 0 }

theorem resetFilter_eq : resetFilter s = requestWrite (recomputeCeil (resetFilterBlocks s)) := rfl

theorem resetFilter_keeps : Keeps s (resetFilter s) := by
  have hfilt (x : State) : Keeps x (x.withFilt resetFilt) :=
    keeps_withFilt (fun _ => by unfold filterInRange; decide) fun _ _ => rfl
  have hblocks : Keeps s (resetFilterBlocks s) :=
    ((keeps_withUnit _).trans (hfilt _)).trans (keeps_withTime rfl)
  rw [resetFilter_eq]
  exact (requestWrite_keeps _).after (hblocks.trans (recomputeCeil_keeps _))

end

/-! ### The own reversal expiry -/

section
variable (s : State)

theorem switchBack_keeps : Keeps s (switchBack s) := by
  unfold switchBack
  split
  · exact keeps_withTime rfl
  · exact Keeps.refl s

theorem handGather_keeps : Keeps s (handGather s) := by
  unfold handGather
  split
  · exact requestPass_keeps s
  · exact Keeps.refl s

theorem handClaimWindow_keeps : Keeps s (handClaimWindow s) := by
  unfold handClaimWindow
  split
  · exact closeClaims_keeps s
  · exact Keeps.refl s

theorem switchBack_frame : othersKept [.time] s (switchBack s) := by
  unfold switchBack
  split
  · exact withTime_frame s _
  · exact othersKept_refl _ s

theorem handGather_frame : othersKept [.pass, .unit] s (handGather s) := by
  unfold handGather
  split
  · exact requestPass_frame s
  · exact othersKept_refl _ s

theorem closeClaims_frame : othersKept [.line, .frost] s (closeClaims s) := by
  unfold closeClaims
  split
  · dsimp only
    split
    · exact othersKept_mono (withdraw_frame _ s) (by simp)
    · exact othersKept_append (withdraw_frame _ s) (withFrost_frame _ _)
  · exact othersKept_refl _ s

theorem handClaimWindow_frame : othersKept [.line, .frost] s (handClaimWindow s) := by
  unfold handClaimWindow
  split
  · exact closeClaims_frame s
  · exact othersKept_refl _ s

/-- A change of stage writes the frost guard, and the line where it gives the own claim up (R131). -/
theorem moveStage_frame (st : FrostStage) : othersKept [.line, .frost] s (moveStage st s) := by
  unfold moveStage
  split
  · exact othersKept_refl _ s
  · dsimp only
    split
    · exact othersKept_trans (dropClaim_frame s) (othersKept_mono (withFrost_frame _ _) (by simp))
    · exact othersKept_mono (withFrost_frame _ _) (by simp)

theorem frostHalf_frame : othersKept [.line, .frost] s (frostHalf s) := by
  have hmove (st : FrostStage) (b : FrostGuard) : othersKept [.line, .frost] s ((moveStage st s).withFrost b) :=
    othersKept_trans (moveStage_frame s st) (othersKept_mono (withFrost_frame _ _) (by simp))
  have hfrost (b : FrostGuard) : othersKept [.line, .frost] s (s.withFrost b) :=
    othersKept_mono (withFrost_frame s b) (by simp)
  unfold frostHalf
  split
  · split
    · exact hmove _ _
    · exact othersKept_refl _ s
  · split
    · exact hfrost _
    · exact hmove _ _
  · split
    · split
      · exact hfrost _
      · exact hmove _ _
    · exact othersKept_refl _ s
  · exact othersKept_refl _ s

theorem frostExpiry_frame : othersKept [.line, .frost] s (frostExpiry s) := by
  have hfrost (x : State) (b : FrostGuard) : othersKept [.line, .frost] x (x.withFrost b) :=
    othersKept_mono (withFrost_frame x b) (by simp)
  rw [frostExpiry_eq]
  exact othersKept_trans (hfrost _ _) (othersKept_trans (frostHalf_frame _) (hfrost _ _))

theorem endHalf_frame : othersKept [.time, .pass, .unit, .line, .frost, .filt, .fan] s (endHalf s) :=
  othersKept_mono
    (othersKept_append (switchBack_frame s) (othersKept_append (handGather_frame _)
      (othersKept_append (handClaimWindow_frame _) (othersKept_append (handReport_frame _)
        (othersKept_append (cutPass_frame _) (frostExpiry_frame _))))))
    (by simp)

variable {s} in
theorem endHalf_keeps (h : s.mode.mode = .run) : Keeps s (endHalf s) := by
  have hmode : (handClaimWindow (handGather (switchBack s))).mode.mode = .run := by
    rwa [handClaimWindow_frame _ .mode (by decide), handGather_frame _ .mode (by decide),
      switchBack_frame _ .mode (by decide)]
  unfold endHalf
  exact (frostExpiry_keeps _).after ((cutPass_keeps _).after (Keeps.after (handReport_keeps hmode)
    ((handClaimWindow_keeps _).after ((handGather_keeps _).after (switchBack_keeps s)))))

theorem wantFor_halt (level : Level) (h : s.own.direction = .halt) : wantFor s level = 0 := if_pos h

theorem writeWant_keeps : Keeps s (writeWant s) :=
  keeps_withOwn fun ⟨hle, hhalt⟩ => ⟨hle, fun hd => ⟨wantFor_halt s _ hd, (hhalt hd).2⟩⟩

/-- The own record that a half-cycle begins with: F is w under C, all 0 in HALT (R3, R4, R5). -/
theorem writeHalfFlow_flowBounded : flowBounded (writeHalfFlow (writeWant s)).own := by
  refine ⟨Nat.min_le_right _ _, fun hd => ?_⟩
  have hwant : (writeWant s).own.want = 0 := wantFor_halt s _ hd
  have hceil : (writeHalfFlow (writeWant s)).own.ceil = 0 := by
    show ceilingFor _ (writeWant s).own.direction = 0
    rw [show (writeWant s).own.direction = .halt from hd, ceilingFor_halt]
  refine ⟨hwant, hceil, Nat.le_zero.mp ?_⟩
  exact Nat.le_trans (Nat.min_le_left _ _) (Nat.le_of_eq hwant)

/-- The clauses but that of the own record, for a state whose own record was written before. -/
theorem Keeps.of_withOwn {s t : State} {o : OwnRecord} (h : Keeps (s.withOwn o) t) (hflow : flowBounded t.own) :
    Keeps s t :=
  { h with flow := fun _ => hflow }

/-- The state in which the blocks of a new half-cycle stand, before its sample sets, its CLAIM and the fan (R55). -/
def halfBegun (k : HalfNo) (instant : Count) (sch : Schedule) : State :=
  writeHalfFlow (writeWant (ageClash (agePeers (openWindows k instant (queuePhase (writeHalf k instant sch s))))))

theorem beginHalfCycle_eq (before : Dir) (k : HalfNo) (instant : Count) (sch : Schedule) :
    beginHalfCycle before k instant sch s =
      askFan before (queueClaim (beginHalf (halfBegun s k instant sch).own.direction instant sch.next
        (halfBegun s k instant sch))) := rfl

theorem writeHalf_frame (k : HalfNo) (instant : Count) (sch : Schedule) :
    othersKept [.own, .rev] s (writeHalf k instant sch s) :=
  othersKept_append (withOwn_frame s _) (withRev_frame _ _)

theorem writeHalfFlow_frame : othersKept [.fan, .own] s (writeHalfFlow s) :=
  othersKept_mono (othersKept_append (withFan_frame s _) (othersKept_append (withOwn_frame _ _) (withFan_frame _ _)))
    (by simp)

theorem halfBegun_frame (k : HalfNo) (instant : Count) (sch : Schedule) :
    othersKept [.own, .rev, .line, .peers, .fan] s (halfBegun s k instant sch) := by
  have hqueue := othersKept_append (writeHalf_frame s k instant sch) (queueNotice_frame
    (newEntry .phase false (writeHalf k instant sch s).own.node false []) _)
  have hwindows := othersKept_append hqueue (withRev_frame _ (openWindows k instant (queuePhase
    (writeHalf k instant sch s))).rev)
  have htable := othersKept_append hwindows (othersKept_append (agePeers_frame _) (withLine_frame _
    (ageClash (agePeers (openWindows k instant (queuePhase (writeHalf k instant sch s))))).line))
  have hflow := othersKept_append htable (othersKept_append (withOwn_frame _ (writeWant (ageClash (agePeers
    (openWindows k instant (queuePhase (writeHalf k instant sch s)))))).own) (writeHalfFlow_frame _))
  exact othersKept_mono hflow (by simp)

variable {s}

theorem halfBegun_keeps (k : HalfNo) (instant : Count) (sch : Schedule) (h : s.mode.mode = .run) :
    Keeps s (halfBegun s k instant sch) := by
  have hrev : Keeps (s.withOwn { s.own with k := some k, instant := some instant, direction := directionFor s k })
      (writeHalf k instant sch s) := keeps_withRev fun hne => absurd h hne
  have hrun : (queuePhase (writeHalf k instant sch s)).mode.mode = .run := by
    rw [queuePhase, queueNotice_frame _ _ .mode (by decide)]
    exact h
  have hopen : Keeps (queuePhase (writeHalf k instant sch s))
      (openWindows k instant (queuePhase (writeHalf k instant sch s))) :=
    keeps_withRev fun hne => absurd hrun hne
  have hwant := (ageClash_keeps _).after ((agePeers_keeps _).after hopen)
  have hflow (x : State) : Keeps (writeWant x) (writeHalfFlow (writeWant x)) :=
    (keeps_withFan (s := writeWant x) id).trans
      ((keeps_withOwn fun _ => writeHalfFlow_flowBounded x).trans (keeps_withFan id))
  refine Keeps.of_withOwn
    (o := { s.own with k := some k, instant := some instant, direction := directionFor s k }) ?_
    (writeHalfFlow_flowBounded _)
  exact (hrev.trans (queueNotice_keeps _ _)).trans (hwant.trans ((writeWant_keeps _).trans (hflow _)))

theorem askFan_keeps (before : Dir) : Keeps s (askFan before s) := by
  unfold askFan
  split
  · exact Keeps.refl s
  · split
    · exact fanRequest_keeps s _
    · exact stopRequest_keeps s

theorem beginHalfCycle_keeps (before : Dir) (k : HalfNo) (instant : Count) (sch : Schedule)
    (h : s.mode.mode = .run) : Keeps s (beginHalfCycle before k instant sch s) := by
  have hrun : (halfBegun s k instant sch).mode.mode = .run := by
    rwa [halfBegun_frame s k instant sch .mode (by decide)]
  have hsets : Keeps (halfBegun s k instant sch) (beginHalf (halfBegun s k instant sch).own.direction instant sch.next
      (halfBegun s k instant sch)) := keeps_withClim id fun hne => absurd hrun hne
  rw [beginHalfCycle_eq]
  exact (askFan_keeps _).after ((queueClaim_keeps _).after (hsets.after (halfBegun_keeps k instant sch h)))

/-- The own reversal expiry in RUN (R55). -/
theorem expiry_keeps (instant : Count) (h : s.mode.mode = .run) : Keeps s (expiry instant s) := by
  have hrun : (endHalf s).mode.mode = .run := by rwa [endHalf_frame s .mode (by decide)]
  exact (endHalf_keeps h).trans (beginHalfCycle_keeps _ _ _ _ hrun)

end
end Sys2Proof.Laws
end

section
/-! ## What every operation keeps: notices, service, the ends of a send and the end of the START hold -/

namespace Sys2Proof.Laws

open Sys2Proof.Machine Sys2Proof.Safety

/-! ### Notices -/

section
variable (s : State)

/-- A taken frame leaves the queue with its oldest frame gone; what the notice does follows (R36, R45). -/
theorem takeNotice_keeps {cls : NoticeClass} {accepts : Notice → Bool} {apply : RxFrame → Notice → State → State}
    (h : ∀ f n x, modeDiscards x.mode.mode cls = false → accepts n = true → Keeps x (apply f n x)) :
    Keeps s (takeNotice cls accepts apply s) := by
  unfold takeNotice
  split
  · exact Keeps.refl s
  · split
    · exact Keeps.refl s
    next f rest hq =>
      have hrest : Keeps s (s.withLine { s.line with rxq := rest }) := keeps_withLine fun hl => lineFits_rest hl hq
      split
      · exact Keeps.refl s
      · dsimp only
        split
        · exact hrest
        next hdiscards =>
          split
          · exact hrest.trans (countRxFault_keeps _)
          · split
            · rename_i haccepts
              exact hrest.trans (h _ _ _ (by simpa using hdiscards) haccepts)
            · exact Keeps.refl s

theorem noticeTrigger_keeps (node : Nat) : Keeps s (noticeTrigger node s) := by
  unfold noticeTrigger
  split
  · exact trigger_keeps s
  · exact Keeps.refl s

theorem hearPhase_keeps (a : Announcement) (tr : Count) : Keeps s (hearPhase a tr s) := by
  unfold hearPhase
  split
  · exact Keeps.refl s
  · split
    · exact (keeps_withOwn (s := s) (o := { s.own with k := some a.k }) id).trans (keeps_withRev fun _ => id)
    · exact keeps_withRev fun _ => id

theorem writeAnnounced_keeps (node : Nat) (a : Announcement) (agree : Bool) :
    Keeps s (writePeer (announce a agree (recordFor s node)) s) :=
  writePeer_keeps s fun h => announce_young a agree (recordFor_climate_young s node h)

theorem applyPhase_keeps (f : RxFrame) (a : Announcement) (delay : Nat) : Keeps s (applyPhase f a delay s) := by
  unfold applyPhase
  dsimp only
  split
  next hrun =>
    have hmeasure (x : State) (tr : Count) (hx : x.mode.mode = .run) : Keeps x (measurePhase f.node a tr x) :=
      keeps_withRev fun hne => absurd hx hne
    exact (noticeTrigger_keeps _ _).after (Keeps.after (hmeasure _ _ (by exact hrun)) (writeAnnounced_keeps s _ _ _))
  · exact (hearPhase_keeps _ _ _).after (writeAnnounced_keeps s _ _ _)
  · exact writeAnnounced_keeps s _ _ _

theorem applyLeave_keeps (f : RxFrame) (n : Notice) : Keeps s (applyLeave f n s) := by
  have hpeers : Keeps s (s.withPeers { s.peers with records := withoutPeer f.node s.peers.records }) :=
    keeps_withPeers (withoutPeer_kept _)
  have hboth := hpeers.trans (keeps_withRev (r := { s.rev with tally := withoutTally f.node s.rev.tally })
    fun _ ⟨hg, hc, hst, ht⟩ => ⟨hg, hc, hst, by
      show withoutTally f.node s.rev.tally = []
      rw [show s.rev.tally = [] from ht]
      rfl⟩)
  unfold applyLeave
  dsimp only
  split
  · exact hboth.trans (trigger_keeps _)
  · exact hboth

theorem applyChange_keeps (f : RxFrame) (n : Notice) : Keeps s (applyChange f n s) := by
  unfold applyChange
  split
  · exact (noticeTrigger_keeps _ _).after (writeAnnounced_keeps s _ _ _)
  · exact Keeps.refl s

theorem applyStatus_keeps (f : RxFrame) (n : Notice) : Keeps s (applyStatus f n s) := by
  unfold applyStatus
  split
  · refine writePeer_keeps s fun h => ⟨(recordFor_climate_young s f.node h).1, ?_⟩
    simp
  · exact Keeps.refl s

end

/-! ### Service -/

section
variable (s : State)

theorem reply_keeps (f : RxFrame) (kind : RequestKind) (status : ReplyStatus) (index : Byte) (d : PageData) :
    Keeps s (reply f kind status index d s) := queueNotice_keeps s _

theorem reloadInactivity_keeps : Keeps s (reloadInactivity s) := by
  unfold reloadInactivity
  split
  · rename_i h
    exact keeps_withMode fun _ hrun => nomatch h.symm.trans hrun
  · exact Keeps.refl s

variable {s} in
theorem serve_keeps {answer : State → State} (h : ∀ x, x.mode.mode ≠ .start → Keeps x (answer x)) :
    Keeps s (serve answer s) := by
  unfold serve
  split
  · exact Keeps.refl s
  · rename_i hne
    refine (settleFlush_keeps _).after (Keeps.after (h _ ?_) (reloadInactivity_keeps s))
    unfold reloadInactivity
    split <;> exact hne

theorem answerRead_keeps (f : RxFrame) (index : Byte) : Keeps s (answerRead f index s) := by
  unfold answerRead
  split <;> exact reply_keeps s _ _ _ _ _

theorem writeParam_keeps (i : Fin 21) (v : BitVec 16) : Keeps s (writeParam i v s) := keeps_withSvc _

theorem answerSet_keeps (f : RxFrame) (index value : Byte) : Keeps s (answerSet f index value s) := by
  unfold answerSet answerSetIn
  split
  · split
    · exact reply_keeps s _ _ _ _ _
    · exact (reply_keeps _ _ _ _ _ _).after (writeParam_keeps s _ _)
  · exact reply_keeps s _ _ _ _ _

theorem answerEnter_keeps (f : RxFrame) (index : Byte) : Keeps s (answerEnter f index s) := by
  unfold answerEnter
  split
  · exact reply_keeps s _ _ _ _ _
  · exact (reply_keeps _ _ _ _ _ _).after (setupFromModes_keeps s)

theorem applyEnter_keeps (f : RxFrame) (n : Notice) : Keeps s (applyEnter f n s) := by
  unfold applyEnter
  split
  · split
    next hstart =>
      split
      · refine (reply_keeps _ _ _ _ _ _).after (setupCommon_keeps fun hrun => ?_)
        exact nomatch hstart.symm.trans hrun
      · exact Keeps.refl s
    next => exact serve_keeps fun x _ => answerEnter_keeps x _ _
  · exact Keeps.refl s

theorem reply_mode (f : RxFrame) (kind : RequestKind) (status : ReplyStatus) (index : Byte) (d : PageData) :
    (reply f kind status index d s).mode = s.mode := queueNotice_frame _ s .mode (by decide)

theorem answerLeave_keeps (f : RxFrame) (index : Byte) : Keeps s (answerLeave f index s) := by
  unfold answerLeave
  split
  next hsetup =>
    have hmode : (reply f .setupLeave .done index zeroPage s).mode.mode = .setup := by rwa [reply_mode]
    dsimp only
    split
    · exact (keeps_withMode fun _ hrun => nomatch hmode.symm.trans hrun).after (reply_keeps s _ _ _ _ _)
    · refine Keeps.after (joinFromSetup_keeps ?_) (reply_keeps s _ _ _ _ _)
      rw [hmode]
      decide
  next => exact reply_keeps s _ _ _ _ _

theorem applyClear_keeps (f : RxFrame) (n : Notice) : Keeps s (applyClear f n s) := by
  unfold applyClear
  split
  · split
    · exact clearLatches_keeps s
    · exact serve_keeps fun x _ => (reply_keeps _ _ _ _ _ _).after (clearLatches_keeps x)
  · exact Keeps.refl s

theorem endWrite_keeps (readBack : StoreImage) : Keeps s (endWrite readBack s) := by
  unfold endWrite
  split
  · exact Keeps.refl s
  next image _ =>
    have h : Keeps s ((s.withSvc { s.svc with
        writing := none, store := readBack, storeDefault := decide (readBack ≠ image) }).withTime
          { s.time with runTime := 0 }) := (keeps_withSvc _).trans (keeps_withTime rfl)
    dsimp only
    split
    · exact h.trans (startWrite_keeps _)
    · exact h

theorem runTimerEnds_keeps : Keeps s (runTimerEnds s) := by
  unfold runTimerEnds
  split
  · exact (requestWrite_keeps _).after (keeps_withTime rfl)
  · exact Keeps.refl s

theorem nextPart_keeps : Keeps s (nextPart s) := by
  unfold nextPart
  split
  · exact Keeps.refl s
  · exact keeps_withCond _

end

/-! ### The line's send ends, and the end of the START hold -/

section
variable (s : State)

theorem loseArbitration_keeps : Keeps s (loseArbitration s) := by
  unfold loseArbitration
  split
  · split
    · exact (settleFlush_keeps _).after ((takeReplacement_keeps _).after ((keepAfterArbitration_keeps _ _).after
        (withPhase_keeps s _)))
    · exact Keeps.refl s
  · exact Keeps.refl s

theorem failSend_keeps : Keeps s (failSend s) := by
  cases he : onLineEntry s.line.txq with
  | none =>
    simp only [failSend, he]
    exact Keeps.refl s
  | some e =>
    by_cases hphase : s.line.phase = .sending
    · rw [failSend_of_sending hphase he]
      exact (settleFlush_keeps _).after ((takeReplacement_keeps _).after ((failEntry_keeps _ _).after
        (withPhase_keeps s _)))
    · simp only [failSend, he, hphase, if_false]
      exact Keeps.refl s

theorem reportSend_keeps (e : TxEntry) (stamp : Count) : Keeps s (reportSend e stamp s) := by
  have href (r : Option Nat) : Keeps s (s.withFan { s.fan with ceilRef := r }) := keeps_withFan id
  unfold reportSend
  split
  · exact placeOwnClaim_keeps s _ _ _
  · split
    · exact href _
    · exact Keeps.refl s
  · split
    · exact href _
    · exact Keeps.refl s
  · exact Keeps.refl s

theorem endCleanSend_keeps : Keeps s (endCleanSend s) := by
  unfold endCleanSend
  split
  · split
    · exact (settleFlush_keeps _).after ((takeReplacement_keeps _).after ((reportSend_keeps _ _ _).after
        ((creditLine_keeps _).after ((removeEntry_keeps _ _).after (withPhase_keeps s _)))))
    · exact Keeps.refl s
  · exact Keeps.refl s

theorem chargeStuckLine_keeps : Keeps s (chargeStuckLine s) := by
  unfold chargeStuckLine
  split
  · refine (settleFlush_keeps _).after ((chargeLine_keeps _).after ?_)
    split
    · exact withPhase_keeps s _
    · exact Keeps.refl s
  · exact Keeps.refl s

theorem checkCrystal_keeps : Keeps s (checkCrystal s) := by
  unfold checkCrystal
  split
  · exact keeps_withTime rfl
  · exact Keeps.refl s

theorem takeImage_keeps (i : StoreImage) : Keeps s (takeImage i s) := by
  unfold takeImage
  refine Keeps.after (keeps_withFrost (fun ⟨⟨h1, h2, h3, h4, h5, h6, h7, h8, _, _⟩, hc⟩ => ?_) id fun _ => id)
    (Keeps.after (keeps_withFilt (fun ⟨h1, h2, h3, h4, h5, h6, h7, h8, _⟩ => ?_) fun _ => id) (keeps_withSvc _))
  · exact ⟨⟨h1, h2, h3, h4, h5, h6, h7, h8, Nat.le_of_lt_succ i.thawTotal.isLt, Nat.le_of_lt_succ i.failedTotal.isLt⟩,
      hc⟩
  · exact ⟨h1, h2, h3, h4, h5, h6, h7, h8, Nat.le_of_lt_succ i.hours.isLt⟩

theorem takeDefaults_keeps : Keeps s (takeDefaults s) := by
  unfold takeDefaults
  refine Keeps.after (keeps_withFrost (fun ⟨⟨h1, h2, h3, h4, h5, h6, h7, h8, _, _⟩, hc⟩ => ?_) id fun _ => id)
    (Keeps.after (keeps_withFilt (fun ⟨h1, h2, h3, h4, h5, h6, h7, h8, _⟩ => ?_) fun _ => id) (keeps_withSvc _))
  · exact ⟨⟨h1, h2, h3, h4, h5, h6, h7, h8, Nat.zero_le _, Nat.zero_le _⟩, hc⟩
  · exact ⟨h1, h2, h3, h4, h5, h6, h7, h8, Nat.zero_le _⟩

theorem readStore_keeps : Keeps s (readStore s) := by
  unfold readStore
  split
  · exact takeImage_keeps s _
  · exact takeDefaults_keeps s

theorem readStore_frame : othersKept [.svc, .filt, .frost] s (readStore s) := by
  unfold readStore takeImage takeDefaults
  split <;>
    exact othersKept_append (withSvc_frame s _) (othersKept_append (withFilt_frame _ _) (withFrost_frame _ _))

theorem readStraps_keeps (x : Straps) : Keeps s (readStraps x s) := keeps_withOwn id

theorem checkCrystal_frame : othersKept [.time] s (checkCrystal s) := by
  unfold checkCrystal
  split
  · exact withTime_frame s _
  · exact othersKept_refl _ s

end
end Sys2Proof.Laws
end

section
/-! ## What every command keeps -/

namespace Sys2Proof.Laws

open Sys2Proof.Machine Sys2Proof.Safety

/-! ### The commands -/

/-- `u` follows from `s` by the time base reaching an instant and operations that take no time. -/
def Follows (s u : State) : Prop := ∃ t, Keeps (advanceTo t s) u

theorem advanceTo_now (s : State) : advanceTo s.time.now s = s := by
  simp [advanceTo, Count.since]

theorem Follows.of_keeps {s u : State} (h : Keeps s u) : Follows s u :=
  ⟨s.time.now, by rwa [advanceTo_now]⟩

section
variable (s : State)

theorem closeGather_follows : Follows s (closeGather s) := by
  unfold closeGather
  split
  next i _ =>
    split
    · have hrev : Keeps (advanceTo i s) ((advanceTo i s).withRev { (advanceTo i s).rev with gather := none }) :=
        keeps_withRev fun _ ⟨_, hrest⟩ => ⟨rfl, hrest⟩
      exact ⟨i, hrev.trans (requestPass_keeps _)⟩
    · exact .of_keeps (Keeps.refl s)
  next => exact .of_keeps (Keeps.refl s)

theorem closeClaimWindow_follows : Follows s (closeClaimWindow s) := by
  unfold closeClaimWindow
  split
  next i _ =>
    split
    · have hrev : Keeps (advanceTo i s) ((advanceTo i s).withRev { (advanceTo i s).rev with claimWindow := none }) :=
        keeps_withRev fun _ ⟨hg, _, hrest⟩ => ⟨hg, rfl, hrest⟩
      exact ⟨i, hrev.trans (closeClaims_keeps _)⟩
    · exact .of_keeps (Keeps.refl s)
  next => exact .of_keeps (Keeps.refl s)

theorem statusTimerEnds_follows : Follows s (statusTimerEnds s) := by
  unfold statusTimerEnds
  split
  next i _ =>
    split
    · have hrev : Keeps (advanceTo i s) ((advanceTo i s).withRev { (advanceTo i s).rev with statusTimer := none }) :=
        keeps_withRev fun _ ⟨hg, hc, _, ht⟩ => ⟨hg, hc, rfl, ht⟩
      exact ⟨i, hrev.trans (queueNotice_keeps _ _)⟩
    · exact .of_keeps (Keeps.refl s)
  next => exact .of_keeps (Keeps.refl s)

theorem takeExpiry_follows : Follows s (takeExpiry s) := by
  unfold takeExpiry
  split
  next i _ =>
    split
    · rename_i h
      exact ⟨i, expiry_keeps i (by rwa [advanceTo_mode])⟩
    · exact .of_keeps (Keeps.refl s)
  next => exact .of_keeps (Keeps.refl s)

/-- RUN is entered as an own reversal expiry (R70, R71). -/
theorem enterRunAt_follows (i : Count) : Follows s (enterRunAt i s) := by
  have hmode : Keeps (advanceTo i s) ((advanceTo i s).withMode { (advanceTo i s).mode with mode := .run }) :=
    keeps_withMode fun hne => absurd rfl hne
  have hrev := hmode.trans (keeps_withRev
    (r := { ((advanceTo i s).withMode { (advanceTo i s).mode with mode := .run }).rev with
      listening := none, lastHeard := none }) fun _ => id)
  exact ⟨i, hrev.trans (expiry_keeps i rfl)⟩

theorem takeEnterRun_follows : Follows s (takeEnterRun s) := by
  unfold takeEnterRun
  split
  · split
    · exact enterRunAt_follows s _
    · exact .of_keeps (Keeps.refl s)
  · exact .of_keeps (Keeps.refl s)

theorem advanceTo_withRev (t : Count) (r : ReversalTimer) :
    advanceTo t (s.withRev r) = (advanceTo t s).withRev r := by
  unfold advanceTo
  rw [State.withRev_time]
  split <;> rfl

theorem endListening_follows : Follows s (endListening s) := by
  unfold endListening
  split
  next i _ =>
    split
    · split
      next h _ =>
        exact ⟨i, keeps_withRev fun _ => id⟩
      next =>
        obtain ⟨t, ht⟩ := enterRunAt_follows (s.withRev { s.rev with pendingNumber := some 0 }) i
        rw [advanceTo_withRev] at ht
        refine ⟨t, Keeps.trans (keeps_withRev fun _ hr => ?_) ht⟩
        rwa [advanceTo_frame t s .rev (by decide)] at hr
    · exact .of_keeps (Keeps.refl s)
  next => exact .of_keeps (Keeps.refl s)

theorem takeStep_follows : Follows s (takeStep s) := by
  unfold takeStep
  split
  · exact .of_keeps (Keeps.refl s)
  · exact ⟨s.fan.nextStep, ((countStep_keeps _).trans (stepState_keeps _)).trans (enterWindow_keeps _ _ _)⟩

theorem timeOutSpeed_follows : Follows s (timeOutSpeed s) := by
  unfold timeOutSpeed
  split
  next i _ =>
    have hspeed (x : State) : Keeps x (x.withFan { x.fan with speed := 0, lastPulse := none }) :=
      keeps_withFan fun ⟨hf, hd, _, hw⟩ => ⟨hf, hd, Nat.zero_le 2550, hw⟩
    exact ⟨Count.later i noPulseCounts, hspeed _⟩
  next => exact .of_keeps (Keeps.refl s)

theorem faultFlap_follows : Follows s (faultFlap s) := by
  unfold faultFlap
  split
  · exact .of_keeps (Keeps.refl s)
  next i _ =>
    refine ⟨i, ?_⟩
    dsimp only
    split
    · exact (latchFlap_keeps _).after ((closeFlap_keeps _).after (setTarget_keeps _ _))
    next hst =>
      refine Keeps.after (enterStopped_keeps ?_) ((latchFlap_keeps _).after (endTravel_keeps _))
      rw [latchFlap_flapClosing (s := endTravel (advanceTo i s)) hst]
      rfl
    · exact (latchFlap_keeps _).after (endTravel_keeps _)

theorem takeMidPoint_follows : Follows s (takeMidPoint s) := by
  unfold takeMidPoint
  split
  next i _ =>
    split
    · have hclim : Keeps (advanceTo i s) ((advanceTo i s).withClim { (advanceTo i s).clim with midPoint := none }) :=
        keeps_withClim id fun _ ⟨_, he⟩ => ⟨rfl, he⟩
      exact ⟨i, hclim.trans (requestConversions_keeps _ _)⟩
    · exact .of_keeps (Keeps.refl s)
  next => exact .of_keeps (Keeps.refl s)

theorem takeEndPoint_follows : Follows s (takeEndPoint s) := by
  unfold takeEndPoint
  split
  next i _ =>
    split
    · exact ⟨i, Keeps.after (requestConversions_keeps _ _) (keeps_withClim id fun _ ⟨hm, _⟩ => ⟨hm, rfl⟩)⟩
    · exact .of_keeps (Keeps.refl s)
  next => exact .of_keeps (Keeps.refl s)

theorem takeRestSampling_follows : Follows s (takeRestSampling s) := by
  unfold takeRestSampling
  split
  next i _ =>
    split
    · exact ⟨i, Keeps.after (requestConversions_keeps _ _) (keeps_withClim id fun _ => id)⟩
    · exact .of_keeps (Keeps.refl s)
  next => exact .of_keeps (Keeps.refl s)

theorem holdButton_follows : Follows s (holdButton s) := by
  unfold holdButton
  split
  next p _ =>
    split
    · exact ⟨Count.later p.since pressHoldCounts, (keeps_withDemand _).trans (clearLatches_keeps _)⟩
    · exact .of_keeps (Keeps.refl s)
  next => exact .of_keeps (Keeps.refl s)

theorem endButtonBoost_follows : Follows s (endButtonBoost s) := by
  unfold endButtonBoost
  split
  next i _ => exact ⟨i, keeps_withDemand _⟩
  next => exact .of_keeps (Keeps.refl s)

theorem endRunOn_follows : Follows s (endRunOn s) := by
  unfold endRunOn
  split
  next i _ => exact ⟨i, keeps_withDemand _⟩
  next => exact .of_keeps (Keeps.refl s)

theorem endHold_follows : Follows s (endHold s) := by
  unfold endHold
  split
  next h _ =>
    split
    next i _ => exact ⟨i, keeps_withDemand _⟩
    next => exact .of_keeps (Keeps.refl s)
  next => exact .of_keeps (Keeps.refl s)

theorem restTimerEnds_follows : Follows s (restTimerEnds s) := by
  unfold restTimerEnds
  split
  next i _ =>
    split
    · rename_i hrest
      refine ⟨i, (keeps_withDemand _).trans (takeWake_keeps _ _ ?_)⟩
      rw [State.withDemand_mode, advanceTo_mode, hrest]
      decide
    · exact .of_keeps (Keeps.refl s)
  next => exact .of_keeps (Keeps.refl s)

theorem restFlushEnds_follows : Follows s (restFlushEnds s) := by
  unfold restFlushEnds
  split
  next i _ =>
    split
    · rename_i hrest
      have hne : s.mode.mode ≠ .run := by rw [hrest]; decide
      split
      · exact .of_keeps (endRestFlush_keeps hne)
      · exact ⟨i, (withdraw_keeps _ _).trans (endRestFlush_keeps (by rwa [withdraw, State.withLine_mode, advanceTo_mode]))⟩
    · exact .of_keeps (Keeps.refl s)
  next => exact .of_keeps (Keeps.refl s)

theorem inactivityEnds_follows : Follows s (inactivityEnds s) := by
  unfold inactivityEnds
  split
  next i _ =>
    split
    · rename_i hsetup
      exact ⟨i, joinFromSetup_keeps (by rw [advanceTo_mode, hsetup]; decide)⟩
    · exact .of_keeps (Keeps.refl s)
  next => exact .of_keeps (Keeps.refl s)

theorem setupFlushEnds_follows : Follows s (setupFlushEnds s) := by
  unfold setupFlushEnds
  split
  next i _ =>
    split
    · rename_i hsetup
      have hne : s.mode.mode ≠ .run := by rw [hsetup]; decide
      split
      · exact ⟨i, (withdraw_keeps _ _).trans
          (endSetupFlush_keeps (by rwa [withdraw, State.withLine_mode, advanceTo_mode]))⟩
      · exact .of_keeps (endSetupFlush_keeps hne)
    · exact .of_keeps (Keeps.refl s)
  next => exact .of_keeps (Keeps.refl s)

theorem setupWindowEnds_follows : Follows s (setupWindowEnds s) := by
  unfold setupWindowEnds
  split
  next i _ =>
    split
    · rename_i hstart
      exact ⟨i, joinEntry_keeps (by rw [advanceTo_mode, hstart]; decide)⟩
    · exact .of_keeps (Keeps.refl s)
  next => exact .of_keeps (Keeps.refl s)

theorem endCutOff_follows : Follows s (endCutOff s) := by
  unfold endCutOff
  split
  next i _ =>
    exact ⟨i, keeps_withLine fun ⟨⟨_, hrest⟩, hq⟩ => ⟨⟨Nat.zero_le _, hrest⟩, hq⟩⟩
  next => exact .of_keeps (Keeps.refl s)

theorem openSetupWindow_keeps : Keeps s (openSetupWindow s) := by
  unfold openSetupWindow
  exact (keeps_withCond _).after (keeps_withMode fun hne hrun => absurd hrun hne)

theorem endStartHold_follows (straps : Straps) : Follows s (endStartHold straps s) := by
  unfold endStartHold
  split
  next i _ =>
    refine ⟨i, ?_⟩
    refine (openSetupWindow_keeps _).after ((startSampling_keeps _).after ((readStore_keeps _).after
      ((readStraps_keeps _ _).after (checkCrystal_keeps _))))
  next => exact .of_keeps (Keeps.refl s)

end

/-- Every command but POWER_ON_RESET ends with the conditions of a state that follows from its own. -/
theorem exec_follows (i : Instr) (s : State) (hi : ∀ t b, i ≠ .powerOnReset t b) :
    ∃ v, exec i s = .next (finish v) ∧ Follows s v := by
  cases i with
  | powerOnReset t b => exact absurd rfl (hi t b)
  | startHoldEnd straps => exact ⟨_, rfl, endStartHold_follows s straps⟩
  | setupWindowEnd => exact ⟨_, rfl, setupWindowEnds_follows s⟩
  | crystalLoss t => exact ⟨_, rfl, t, keeps_withTime rfl⟩
  | crystalReady t =>
    refine ⟨_, rfl, t, ?_⟩
    unfold readyCrystal
    split
    · exact keeps_withTime rfl
    · exact Keeps.refl _
  | lineIdle t => exact ⟨_, rfl, t, lineGoesIdle_keeps _⟩
  | sendAttempt t => exact ⟨_, rfl, t, beginSend_keeps _⟩
  | lostArbitration t => exact ⟨_, rfl, t, loseArbitration_keeps _⟩
  | readbackError t => exact ⟨_, rfl, t, failSend_keeps _⟩
  | cleanSend t => exact ⟨_, rfl, t, endCleanSend_keeps _⟩
  | lineStuckCharge t => exact ⟨_, rfl, t, chargeStuckLine_keeps _⟩
  | cutOffTimerExpiry => exact ⟨_, rfl, endCutOff_follows s⟩
  | frameAbandoned t cause =>
    refine ⟨_, rfl, t, ?_⟩
    split
    · exact abandonFrame_keeps _
    · exact Keeps.refl _
  | frameReceived t levels => exact ⟨_, rfl, t, receiveFrame_keeps _ _⟩
  | phaseNotice t =>
    refine ⟨_, rfl, t, takeNotice_keeps _ fun f n x _ _ => ?_⟩
    unfold applyPhaseNotice
    split
    · exact applyPhase_keeps _ _ _ _
    · exact Keeps.refl _
  | leaveNotice t => exact ⟨_, rfl, t, takeNotice_keeps _ fun f n x _ _ => applyLeave_keeps x f n⟩
  | changeNotice t => exact ⟨_, rfl, t, takeNotice_keeps _ fun f n x _ _ => applyChange_keeps x f n⟩
  | statusNotice t => exact ⟨_, rfl, t, takeNotice_keeps _ fun f n x _ _ => applyStatus_keeps x f n⟩
  | claimNotice t =>
    refine ⟨_, rfl, t, takeNotice_keeps _ fun f n x _ _ => ?_⟩
    unfold applyClaim
    split
    · exact receiveClaim_keeps _ _ _ _ _
    · exact Keeps.refl _
  | houseLevel t =>
    refine ⟨_, rfl, t, takeNotice_keeps _ fun f n x _ _ => ?_⟩
    unfold applyHouseLevel
    split
    · exact applyLevel_keeps _ _ _ _
    · exact Keeps.refl _
  | houseRest t =>
    refine ⟨_, rfl, t, takeNotice_keeps _ fun f n x _ _ => ?_⟩
    unfold applyHouseRest
    split
    · exact (applyRest_keeps _ _).trans (settleFlush_keeps _)
    · exact Keeps.refl _
  | houseResume t => exact ⟨_, rfl, t, takeNotice_keeps _ fun f n x _ _ => applyResume_keeps x f.node⟩
  | houseWake t => exact ⟨_, rfl, t, takeNotice_keeps _ fun f n x _ _ => applyWake_keeps x⟩
  | read t =>
    refine ⟨_, rfl, t, takeNotice_keeps _ fun f n x _ _ => ?_⟩
    unfold applyRead
    split
    · exact serve_keeps fun y _ => answerRead_keeps y _ _
    · exact Keeps.refl _
  | set t =>
    refine ⟨_, rfl, t, takeNotice_keeps _ fun f n x _ _ => ?_⟩
    unfold applySet
    split
    · exact serve_keeps fun y _ => answerSet_keeps y _ _ _
    · exact Keeps.refl _
  | setupEnter t => exact ⟨_, rfl, t, takeNotice_keeps _ fun f n x _ _ => applyEnter_keeps x f n⟩
  | setupLeave t =>
    refine ⟨_, rfl, t, takeNotice_keeps _ fun f n x _ _ => ?_⟩
    unfold applySetupLeave
    split
    · exact serve_keeps fun y _ => answerLeave_keeps y _ _
    · exact Keeps.refl _
  | clear t => exact ⟨_, rfl, t, takeNotice_keeps _ fun f n x _ _ => applyClear_keeps x f n⟩
  | filterReset t =>
    refine ⟨_, rfl, t, takeNotice_keeps _ fun f n x _ _ => ?_⟩
    unfold applyFilterReset
    split
    · exact serve_keeps fun y _ => (reply_keeps _ _ _ _ _ _).after (resetFilter_keeps y)
    · exact Keeps.refl _
  | inactivityTimerExpiry => exact ⟨_, rfl, inactivityEnds_follows s⟩
  | setupFlushEnd => exact ⟨_, rfl, setupFlushEnds_follows s⟩
  | reversalExpiry => exact ⟨_, rfl, takeExpiry_follows s⟩
  | enterRun => exact ⟨_, rfl, takeEnterRun_follows s⟩
  | listenEnd => exact ⟨_, rfl, endListening_follows s⟩
  | gatherWindowClose => exact ⟨_, rfl, closeGather_follows s⟩
  | claimWindowClose => exact ⟨_, rfl, closeClaimWindow_follows s⟩
  | statusTimerExpiry => exact ⟨_, rfl, statusTimerEnds_follows s⟩
  | passGrant t => exact ⟨_, rfl, t, grantPass_keeps _⟩
  | evaluationGrant t => exact ⟨_, rfl, t, grantEvaluation_keeps _⟩
  | passComplete t => exact ⟨_, rfl, t, completePass_keeps _⟩
  | fanStep => exact ⟨_, rfl, takeStep_follows s⟩
  | coastEnd => exact ⟨_, rfl, .of_keeps (endCoast_keeps s)⟩
  | rampUpEnd => exact ⟨_, rfl, .of_keeps (endRampUp_keeps s)⟩
  | flowShort => exact ⟨_, rfl, .of_keeps (takeFlowShort_keeps s)⟩
  | stall => exact ⟨_, rfl, .of_keeps (takeStall_keeps s)⟩
  | tachometerPulse t micros => exact ⟨_, rfl, t, takePulse_keeps _ _⟩
  | speedTimeout => exact ⟨_, rfl, timeOutSpeed_follows s⟩
  | flapEndReached t => exact ⟨_, rfl, t, flapArrives_keeps _⟩
  | flapFault => exact ⟨_, rfl, faultFlap_follows s⟩
  | trialStart t => exact ⟨_, rfl, t, startTrial_keeps _⟩
  | midHalfPoint => exact ⟨_, rfl, takeMidPoint_follows s⟩
  | endOfHalfPoint => exact ⟨_, rfl, takeEndPoint_follows s⟩
  | conversionComplete t result => exact ⟨_, rfl, t, completeConversion_keeps _ _⟩
  | climateEvaluationComplete t => exact ⟨_, rfl, t, completeClimate_keeps _⟩
  | restSamplingTimerExpiry => exact ⟨_, rfl, takeRestSampling_follows s⟩
  | filterEvaluationComplete t => exact ⟨_, rfl, t, completeFilter_keeps _⟩
  | filterHours t => exact ⟨_, rfl, t, addFilterHour_keeps _⟩
  | buttonPress t => exact ⟨_, rfl, t, pressButton_keeps _⟩
  | buttonRelease t => exact ⟨_, rfl, t, releaseButton_keeps _⟩
  | buttonHold10s => exact ⟨_, rfl, holdButton_follows s⟩
  | buttonBoostExpiry => exact ⟨_, rfl, endButtonBoost_follows s⟩
  | humidityRunOnExpiry => exact ⟨_, rfl, endRunOn_follows s⟩
  | holdExpiry => exact ⟨_, rfl, endHold_follows s⟩
  | restTimerExpiry => exact ⟨_, rfl, restTimerEnds_follows s⟩
  | restFlushEnd => exact ⟨_, rfl, restFlushEnds_follows s⟩
  | storeWriteComplete t readBack => exact ⟨_, rfl, t, endWrite_keeps _ _⟩
  | storeRunTimerExpiry t => exact ⟨_, rfl, t, runTimerEnds_keeps _⟩
  | indicatorCycle t => exact ⟨_, rfl, t, nextPart_keeps _⟩
  | frameStart t => exact ⟨_, rfl, t, frameBegins_keeps _⟩

end Sys2Proof.Laws
end

section
/-! ## The invariants, the time base and the conditions -/

namespace Sys2Proof.Laws

open Sys2Proof.Machine Sys2Proof.Safety

/-! ### The invariants of a step -/

/-- Settles O1: the front command is what a step takes from the queue. -/
theorem stepRunsTheFrontCommand : Obligations.StepRunsTheFrontCommand := fun _ _ _ => rfl

/-- Settles O12: each clause is evaluated on the reset state. -/
theorem resetMeetsTheInvariants : Obligations.ResetMeetsTheInvariants := by
  have hline : countsInRange State.reset.line ∧ receiveQueueFits State.reset.line := by
    unfold countsInRange receiveQueueFits
    decide
  have hqueue : sendQueueWhole State.reset := by
    unfold sendQueueWhole sendQueueShaped oneOnLine replacementWaits ascending
    decide
  have htable : tableAged State.reset.peers ∧ tableSorted State.reset.peers := by
    unfold tableAged tableSorted ascending
    decide
  have hfan : flapFollows State.reset.fan ∧ driveInRange State.reset.fan := by
    unfold flapFollows driveInRange
    decide
  have hfrost : frostInRange State.reset.frost ∧ causeHeld State.reset.frost ∧
      windowClosedInLockout State.reset.frost := by
    unfold frostInRange causeHeld windowClosedInLockout
    decide
  have hranges : climateInRange State.reset.clim ∧ filterInRange State.reset.filt := by
    unfold climateInRange filterInRange
    decide
  obtain ⟨hcounts, hfits⟩ := hline
  obtain ⟨haged, hsorted⟩ := htable
  obtain ⟨hflap, hdrive⟩ := hfan
  obtain ⟨hfrange, hcause, hwindow⟩ := hfrost
  obtain ⟨hclim, hfilt⟩ := hranges
  refine ⟨hcounts, hfits, hqueue, by unfold flowBounded; decide, haged, hsorted, hflap, hdrive, hfrange, hcause, hwindow,
    hclim, hfilt, by unfold conditionsFollow; decide, by unfold runWorkOnlyInRun; decide, ?_⟩
  decide

/-- An invariant that looks at neither the time base nor the queue of commands, that POWER_ON_RESET sets up and that
every operation keeps, is kept by every step. -/
theorem step_preserves {P : State → Prop} (hpending : ∀ s q, P s → P (s.withPending q))
    (htime : ∀ s b, P s → P (s.withTime b)) (hcond : ∀ s b, P s → P (s.withCond b))
    (hreset : ∀ t b s, P (powerOn t b s)) (hkeeps : ∀ s u, Keeps s u → P s → P u) {s u : State} (hs : P s)
    (hstep : step s = .next u) : P u := by
  have hadvance (t : Count) (x : State) (hx : P x) : P (advanceTo t x) := by
    unfold advanceTo
    split
    · exact htime _ _ hx
    · exact hx
  cases hq : s.pending with
  | nil =>
    simp only [step, hq, Host.Outcome.next.injEq] at hstep
    rw [← hstep]
    exact hcond _ _ (htime _ _ hs)
  | cons i q =>
    simp only [step, hq] at hstep
    by_cases hi : ∃ t b, i = .powerOnReset t b
    · obtain ⟨t, b, rfl⟩ := hi
      cases hstep
      exact hcond _ _ (hreset t b _)
    · obtain ⟨v, hv, t, hkept⟩ := exec_follows i (s.withPending q) fun t b h => hi ⟨t, b, h⟩
      cases hv.symm.trans hstep
      exact hcond _ _ (hkeeps _ _ hkept (hadvance _ _ (hpending _ _ hs)))

/-- Settles O4: no operation takes a count of the line block out of its range. -/
theorem lineCountsStayInRange : Obligations.LineCountsStayInRange := by
  obtain ⟨hcounts, hfits, -⟩ := resetMeetsTheInvariants
  exact fun _ _ => step_preserves (P := fun s => lineFits s.line) (fun _ _ => id) (fun _ _ => id) (fun _ _ => id)
    (fun _ _ _ => ⟨hcounts, hfits⟩) fun _ _ h => h.line

/-- Settles O6: F is clamped where C is written, and HALT writes D, C and F with the direction. -/
theorem flowStaysBelowItsCeiling : Obligations.FlowStaysBelowItsCeiling := by
  obtain ⟨-, -, -, hflow, -⟩ := resetMeetsTheInvariants
  exact fun _ _ => step_preserves (P := fun s => flowBounded s.own) (fun _ _ => id) (fun _ _ => id) (fun _ _ => id)
    (fun _ _ _ => hflow) fun _ _ h => h.flow

/-- Settles O7: records are written young and in node order, and the ageing drops what has grown old. -/
theorem peerTableStaysYoungAndSorted : Obligations.PeerTableStaysYoungAndSorted := by
  obtain ⟨-, -, -, -, haged, hsorted, -⟩ := resetMeetsTheInvariants
  exact fun _ _ => step_preserves (P := fun s => tableKept s.peers) (fun _ _ => id) (fun _ _ => id) (fun _ _ => id)
    (fun _ _ _ => ⟨haged, hsorted⟩) fun _ _ h => h.table

/-- Settles O8: a fan state of the other flap command is entered with a move of the flap. -/
theorem flapFollowsTheFanState : Obligations.FlapFollowsTheFanState := by
  obtain ⟨-, -, -, -, -, -, hflap, hdrive, -⟩ := resetMeetsTheInvariants
  exact fun _ _ => step_preserves (P := fun s => driveKept s.fan) (fun _ _ => id) (fun _ _ => id) (fun _ _ => id)
    (fun _ _ _ => ⟨hflap, hdrive⟩) fun _ _ h => h.drive

/-- Settles O9: LOCKOUT is entered with its cause and left with none, and its entry closes the post-thaw window. -/
theorem frostCountsStayInRange : Obligations.FrostCountsStayInRange := by
  obtain ⟨-, -, -, -, -, -, -, -, hrange, hcause, hwindow, -⟩ := resetMeetsTheInvariants
  exact ⟨fun _ _ => step_preserves (P := fun s => frostKept s.frost) (fun _ _ => id) (fun _ _ => id) (fun _ _ => id)
      (fun _ _ _ => ⟨hrange, hcause⟩) fun _ _ h => h.frost,
    fun _ _ => step_preserves (P := fun s => windowClosedInLockout s.frost) (fun _ _ => id) (fun _ _ => id)
      (fun _ _ => id) (fun _ _ _ => hwindow) fun _ _ h => h.window⟩

/-- Settles O10: the third invalid result latches, the ratio list drops its oldest, and the filter's values are
clamped where they are written. -/
theorem sensingAndFilterStayInRange : Obligations.SensingAndFilterStayInRange := by
  obtain ⟨-, -, -, -, -, -, -, -, -, -, -, hclim, hfilt, -⟩ := resetMeetsTheInvariants
  exact fun _ _ => step_preserves (P := fun s => climateInRange s.clim ∧ filterInRange s.filt) (fun _ _ => id)
    (fun _ _ => id) (fun _ _ => id) (fun _ _ _ => ⟨hclim, hfilt⟩) fun _ _ h hs => ⟨h.sensing hs.1, h.filter hs.2⟩

/-- Settles O11: RUN work is begun in RUN alone, and a mode other than RUN is entered from RUN by ending it. -/
theorem runWorkEndsWithRun : Obligations.RunWorkEndsWithRun := by
  have hreset (t : Count) (b : Bool) (s : State) : runIdle (powerOn t b s) :=
    ⟨⟨rfl, rfl, rfl, rfl⟩, ⟨rfl, rfl⟩, rfl, rfl⟩
  intro s u hs hstep
  exact (runWorkOnlyInRun_iff u).mpr (step_preserves (P := fun s => s.mode.mode ≠ .run → runIdle s) (fun _ _ => id)
    (fun _ _ => id) (fun _ _ => id) (fun _ _ _ _ => hreset _ _ _) (fun _ _ h => h.work)
    ((runWorkOnlyInRun_iff s).mp hs) hstep)

/-! ### The time base -/

theorem since_self (t : Count) : Count.since t t = 0 := by simp [Count.since]

/-- Settles O2: a command moves the time base by advanceTo alone, which moves it ahead or not at all. -/
theorem timeBaseAdvances : Obligations.TimeBaseAdvances := by
  refine ⟨fun s hq => ?empty, fun t s => ?advance, fun i s u hi hexec => ?command⟩
  case empty =>
    refine ⟨finish (tick s), by simp [step, hq], rfl, rfl, rfl, ?_⟩
    exact othersKept_append (passCounts_frame _ _ s) (finish_frame _)
  case advance =>
    refine ⟨?now, ?quality, ?ready, advanceTo_frame t s⟩ <;> (unfold advanceTo; split <;> rfl)
  case command =>
    obtain ⟨v, hv, t, hkept⟩ := exec_follows i s hi
    cases hv.symm.trans hexec
    rw [show (finish v).time.now = (advanceTo t s).time.now from hkept.now]
    unfold advanceTo
    split
    · rename_i hahead
      exact Int.le_of_lt hahead
    · exact Int.le_of_eq (since_self _).symm

/-! ### The conditions -/

/-- The causes of the conditions, code by code (R184). -/
def causeOf (u : State) (c : Nat) : Bool :=
  (c = 1 && (u.demand.humidity = .active || u.demand.humidity = .runOn)) ||
  (c = 2 && u.filt.state = .change) ||
  (c = 3 && u.svc.storeDefault) ||
  (c = 4 && u.time.quality = .coarse) ||
  (c = 5 && 32 ≤ u.line.faultCount && u.line.faultCount < 64) ||
  (c = 6 && u.line.clashAge < 8) ||
  (c = 7 && 64 ≤ u.line.faultCount) ||
  (c = 8 && (u.frost.stage = .trim || u.frost.stage = .claiming || u.frost.stage = .thaw)) ||
  (c = 9 && u.filt.state = .blocked) ||
  (c = 10 && u.frost.stage = .lockout) ||
  (c = 11 && (u.clim.outer.latched || u.clim.inner.latched || u.clim.rhSensor.latched)) ||
  (c = 12 && u.fan.latch.isSome) ||
  (c = 13 && u.mode.strapInvalid)

theorem lineStateOf_muted (n : Nat) : (lineStateOf n = .muted) = (32 ≤ n ∧ n < 64) := by
  unfold lineStateOf
  split
  · simp; omega
  · split <;> simp <;> omega

theorem lineStateOf_cutOff (n : Nat) : (lineStateOf n = .cutOff) = (64 ≤ n) := by
  unfold lineStateOf
  split
  · simp; omega
  · split <;> simp <;> omega

theorem causeOf_eq (u : State) (c : Nat) : causeOf u c = conditionHolds u c := by
  match c with
  | 0 => simp [causeOf, conditionHolds]
  | 1 => cases h : u.demand.humidity <;> simp [causeOf, conditionHolds, h]
  | 2 | 3 | 4 | 6 | 8 | 9 | 10 | 12 | 13 => simp [causeOf, conditionHolds]
  | 5 => simp [causeOf, conditionHolds, lineState, lineStateOf_muted]
  | 7 => simp [causeOf, conditionHolds, lineState, lineStateOf_cutOff]
  | 11 => simp [causeOf, conditionHolds, sensorFault]
  | n + 14 => simp [causeOf, conditionHolds]

theorem mem_activeConditions (u : State) (c : Nat) : c ∈ activeConditions u ↔ causeOf u c = true := by
  rw [causeOf_eq, activeConditions, List.mem_filter, and_iff_right_iff_imp]
  match c with
  | 0 | n + 14 => simp [conditionHolds]
  | 1 | 2 | 3 | 4 | 5 | 6 | 7 | 8 | 9 | 10 | 11 | 12 | 13 => simp [conditionCodes]

theorem foldl_bits (codes : List Nat) (b : BitVec 16) {c : Nat} (hc : c < 16) :
    (codes.foldl (fun b c => b ||| ((1 : BitVec 16) <<< c)) b).getLsbD c = (b.getLsbD c || codes.contains c) := by
  induction codes generalizing b with
  | nil => simp
  | cons x xs ih =>
    rw [List.foldl_cons, ih, List.contains_cons, BitVec.getLsbD_or]
    have hbit : ((1 : BitVec 16) <<< x).getLsbD c = (c == x) := by
      have hone : (1 : BitVec 16).getLsbD (c - x) = decide (c - x = 0) := by simp [BitVec.getLsbD_one]
      rw [BitVec.getLsbD_shiftLeft, hone, Bool.eq_iff_iff]
      simp only [hc, decide_true, Bool.true_and, Bool.and_eq_true, Bool.not_eq_true', decide_eq_false_iff_not,
        decide_eq_true_eq, beq_iff_eq]
      omega
    rw [hbit, Bool.or_assoc]

theorem foldl_max_ge (xs : List Nat) (n : Nat) : n ≤ xs.foldl max n ∧ ∀ x ∈ xs, x ≤ xs.foldl max n := by
  induction xs generalizing n with
  | nil => simp
  | cons y ys ih =>
    obtain ⟨hn, hys⟩ := ih (max n y)
    simp only [List.foldl_cons, List.forall_mem_cons]
    exact ⟨by omega, by omega, hys⟩

theorem foldl_max_mem (xs : List Nat) (n : Nat) : xs.foldl max n = n ∨ xs.foldl max n ∈ xs := by
  induction xs generalizing n with
  | nil => simp
  | cons y ys ih =>
    rw [List.foldl_cons]
    obtain h | h := ih (max n y)
    · rw [h, List.mem_cons]
      omega
    · exact .inr (List.mem_cons_of_mem _ h)

theorem finish_conditionsFollow (v : State) : conditionsFollow (finish v) := ⟨rfl, rfl⟩

/-- Every command ends with its conditions, and leaves the commands that wait (R184). -/
theorem exec_finishes (i : Instr) (s : State) : ∃ v, exec i s = .next (finish v) ∧ v.pending = s.pending := by
  by_cases hi : ∃ t b, i = .powerOnReset t b
  · obtain ⟨t, b, rfl⟩ := hi
    exact ⟨powerOn t b s, rfl, rfl⟩
  · obtain ⟨v, hv, t, hkept⟩ := exec_follows i s fun t b h => hi ⟨t, b, h⟩
    exact ⟨v, hv, hkept.pending.trans (advanceTo_frame t s .pending (by decide))⟩

/-- Settles O3: every meaning ends with `finish`, whose set and leading code are those of the causes. -/
theorem everyCommandAnswersWithItsConditions : Obligations.EveryCommandAnswersWithItsConditions := by
  intro i s
  obtain ⟨v, hv, hpending⟩ := exec_finishes i s
  have hset : (finish v).cond.set = conditionBits (activeConditions (finish v)) := (finish_conditionsFollow v).1
  have hlead : (finish v).cond.leading = leadingOf (activeConditions (finish v)) := (finish_conditionsFollow v).2
  refine ⟨finish v, hv, finish_conditionsFollow v, hpending, ?_⟩
  show (∀ c, c < 16 → (finish v).cond.set.getLsbD c = causeOf (finish v) c) ∧
    (∀ c, c ≤ 13 → causeOf (finish v) c = true → c ≤ (finish v).cond.leading) ∧
    ((finish v).cond.leading = 0 ∨ causeOf (finish v) (finish v).cond.leading = true)
  refine ⟨fun c hc => ?_, fun c _ hcause => ?_, ?_⟩
  · rw [hset, conditionBits, foldl_bits _ _ hc, Bool.eq_iff_iff, ← mem_activeConditions]
    simp
  · rw [hlead]
    exact (foldl_max_ge _ 0).2 c ((mem_activeConditions _ c).mpr hcause)
  · rw [hlead]
    exact (foldl_max_mem _ 0).imp id (mem_activeConditions _ _).mp

end Sys2Proof.Laws
end

section
/-! ## The transmit queue: what a replacement brings with it -/

namespace Sys2Proof.Laws

open Sys2Proof.Machine Sys2Proof.Safety

/-- A station that sends a CHANGE while another CHANGE, marked with three attempts, waits as its replacement. -/
def tiredReplacement : State :=
  let sent : TxEntry := { newEntry .change false 3 false [] with onLine := true }
  ((State.reset.withOwn { State.reset.own with node := 3 }).withLine
    { State.reset.line with
      sampling := true, phase := .sending, txq := [sent]
      replacement := some { newEntry .change false 3 false [] with attempts := 3 } }).withPending [.cleanSend 0]

/-- It meets the invariant, which bounds the attempt counts of the queue and says nothing of the replacement's. -/
theorem tiredReplacement_whole : sendQueueWhole tiredReplacement := by
  unfold sendQueueWhole sendQueueShaped oneOnLine replacementWaits ascending
  decide

/-- The clean send brings the replacement into the queue with its attempt count of 3. -/
theorem tiredReplacement_sent :
    step tiredReplacement = .next (finish (endCleanSend (tiredReplacement.withPending []))) ∧
      (endCleanSend (tiredReplacement.withPending [])).line.txq.map (fun e => e.attempts) = [3] := ⟨rfl, by decide⟩

/-- Refutes O5: the invariant bounds no attempt count of a waiting replacement, and a clean send puts a replacement
with three attempts into the queue, where two are the most. -/
theorem not_sendQueueKeepsItsShape : ¬ Obligations.SendQueueKeepsItsShape := by
  intro h
  obtain ⟨hstep, hattempts⟩ := tiredReplacement_sent
  obtain ⟨⟨-, -, -, hle⟩, -⟩ := h _ _ tiredReplacement_whole hstep
  have hthree : 3 ∈ (endCleanSend (tiredReplacement.withPending [])).line.txq.map fun e => e.attempts := by
    rw [hattempts]
    exact List.mem_singleton.mpr rfl
  obtain ⟨e, he, hthree⟩ := List.mem_map.mp hthree
  have := hle e he
  omega

end Sys2Proof.Laws
end

section
/-! ## Inputs and power-on: frames of whole commands, the time base's readings, the end of the START hold -/

namespace Sys2Proof.Laws

open Sys2Proof.Machine Sys2Proof.Safety

/-! ### Frames of whole commands -/

/-- The frame of a command: what two operations in a row write lies within the blocks that a statement lists. -/
theorem othersKept_within {bs cs ds : List Block} {s t u : State} (h1 : othersKept bs s t)
    (h2 : othersKept cs t u) (hsub : ∀ b ∈ bs ++ cs, b ∈ ds := by decide) : othersKept ds s u :=
  othersKept_mono (othersKept_append h1 h2) hsub

/-- The end of a command adds the conditions to what it writes (R184). -/
theorem finish_within {bs ds : List Block} {s u : State} (h : othersKept bs s u)
    (hsub : ∀ b ∈ bs ++ [.cond], b ∈ ds := by decide) : othersKept ds s (finish u) :=
  othersKept_within h (finish_frame u) hsub

section
variable (t : Count) (s : State)

@[simp] theorem advanceTo_rev : (advanceTo t s).rev = s.rev := advanceTo_frame t s .rev (by decide)
@[simp] theorem advanceTo_fan : (advanceTo t s).fan = s.fan := advanceTo_frame t s .fan (by decide)
@[simp] theorem advanceTo_clim : (advanceTo t s).clim = s.clim := advanceTo_frame t s .clim (by decide)
@[simp] theorem advanceTo_frost : (advanceTo t s).frost = s.frost := advanceTo_frame t s .frost (by decide)
@[simp] theorem advanceTo_filt : (advanceTo t s).filt = s.filt := advanceTo_frame t s .filt (by decide)
@[simp] theorem advanceTo_cond : (advanceTo t s).cond = s.cond := advanceTo_frame t s .cond (by decide)
@[simp] theorem advanceTo_svc : (advanceTo t s).svc = s.svc := advanceTo_frame t s .svc (by decide)
@[simp] theorem advanceTo_pending : (advanceTo t s).pending = s.pending :=
  advanceTo_frame t s .pending (by decide)
@[simp] theorem finish_mode : (finish s).mode = s.mode := rfl
@[simp] theorem finish_rev : (finish s).rev = s.rev := rfl
@[simp] theorem finish_time : (finish s).time = s.time := rfl
@[simp] theorem finish_fan : (finish s).fan = s.fan := rfl
@[simp] theorem finish_clim : (finish s).clim = s.clim := rfl
@[simp] theorem finish_frost : (finish s).frost = s.frost := rfl
@[simp] theorem finish_demand : (finish s).demand = s.demand := rfl
@[simp] theorem finish_filt : (finish s).filt = s.filt := rfl
@[simp] theorem finish_svc : (finish s).svc = s.svc := rfl
@[simp] theorem finish_pending : (finish s).pending = s.pending := rfl

/-- The passing of time does not touch the timing quality (R53). -/
@[simp] theorem advanceTo_quality : (advanceTo t s).time.quality = s.time.quality := by
  unfold advanceTo
  split <;> rfl

@[simp] theorem advanceTo_crystalReady : (advanceTo t s).time.crystalReady = s.time.crystalReady := by
  unfold advanceTo
  split <;> rfl

end

/-! ### Power-on (R176) -/

/-- Settles O16: the power-on state is the reset state with its instants counted from the operand, and with the
store and the waiting commands of the state before. -/
theorem powerOnPutsEveryBlockAtItsPowerOnValue : Obligations.PowerOnPutsEveryBlockAtItsPowerOnValue := by
  intro t closed s
  have store_kept : s.svc.writing = none → storeAtPowerOn s.svc = s.svc.store := by
    intro h
    simp [storeAtPowerOn, h]
  exact ⟨finish (powerOn t closed s), rfl, rfl, rfl, rfl, rfl, rfl, rfl, rfl, rfl, rfl, rfl, rfl, rfl, rfl, rfl, rfl,
    rfl, rfl, rfl, store_kept, rfl⟩

/-! ### Crystal and tachometer (R74, R96) -/

theorem readyCrystal_time (s : State) : (readyCrystal s).time =
    { s.time with crystalReady := if s.time.quality = .coarse then true else s.time.crystalReady } := by
  unfold readyCrystal
  split <;> simp [*]

theorem readyCrystal_frame (s : State) : othersKept [.time] s (readyCrystal s) := by
  unfold readyCrystal
  split
  · exact withTime_frame s _
  · exact othersKept_refl _ _

theorem pulseSpeed_of_pos {micros : Nat} (h : 0 < micros) : pulseSpeed micros = min (30000000 / micros) 2550 := by
  simp [pulseSpeed, Nat.pos_iff_ne_zero.mp h]

theorem timeOutSpeed_of_pulse {s : State} {i : Count} (h : s.fan.lastPulse = some i) :
    timeOutSpeed s =
      (advanceTo (Count.later i noPulseCounts) s).withFan { s.fan with speed := 0, lastPulse := none } := by
  simp [timeOutSpeed, h]

/-- Settles O18. -/
theorem crystalAndTachometerInputs : Obligations.CrystalAndTachometerInputs := by
  refine ⟨fun t s => ?_, fun t s => ?_, fun t micros s hpos => ?_, fun s i hpulse => ?_⟩
  · exact ⟨_, rfl, rfl, finish_within (othersKept_append (advanceTo_frame t s) (withTime_frame _ _))⟩
  · refine ⟨_, rfl, ?_, finish_within (othersKept_append (advanceTo_frame t s) (readyCrystal_frame _))⟩
    rw [finish_time, readyCrystal_time, advanceTo_quality, advanceTo_crystalReady]
  · refine ⟨_, rfl, ?_, finish_within (withFan_frame (advanceTo t s) _)⟩
    simp [takePulse, pulseSpeed_of_pos hpos]
  · refine ⟨finish (timeOutSpeed s), rfl, ?_⟩
    rw [timeOutSpeed_of_pulse hpulse]
    exact ⟨rfl, finish_within (withFan_frame _ _)⟩

/-! ### The line between frames (R22) -/

theorem canReceive_of {s : State} (hs : s.line.sampling = true)
    (hp : s.line.phase = .idle ∨ s.line.phase = .receiving) : canReceive s = true := by
  rcases hp with h | h <;> simp [canReceive, hs, h]

/-- Settles O19. -/
theorem idleFramesAndAbandonment : Obligations.IdleFramesAndAbandonment := by
  refine ⟨fun t s hs hp => ?_, fun t s hs hp => ?_, fun t cause s hs hp => ?_⟩
  · refine ⟨finish (lineGoesIdle (advanceTo t s)), rfl, ?_⟩
    rw [lineGoesIdle, if_pos (by simp [hs, hp])]
    exact ⟨by simp [withPhase], finish_within (withLine_frame _ _)⟩
  · refine ⟨finish (frameBegins (advanceTo t s)), rfl, ?_⟩
    rw [frameBegins, if_pos (by simp [hs, hp])]
    exact ⟨by simp [withPhase], finish_within (withLine_frame _ _)⟩
  · have receives : canReceive (advanceTo t s) = true := canReceive_of (by simpa using hs) (by simpa using hp)
    refine ⟨finish (if canReceive (advanceTo t s) then abandonFrame (advanceTo t s) else advanceTo t s), rfl, ?_⟩
    rw [if_pos receives]
    exact ⟨by simp [abandonFrame, countRxFault, withPhase, bump],
      finish_within (othersKept_append (withLine_frame _ _) (withLine_frame _ _))⟩

/-! ### The end of the START hold (R176 to R178) -/

theorem checkCrystal_quality (s : State) :
    (checkCrystal s).time.quality = (if s.time.crystalReady then .crystal else s.time.quality) := by
  unfold checkCrystal
  split <;> rfl

theorem checkCrystal_now (s : State) : (checkCrystal s).time.now = s.time.now := by
  unfold checkCrystal
  split <;> rfl

theorem readStore_of_ok {s : State} (h : imageOk s.svc.store = true) : readStore s = takeImage s.svc.store s :=
  if_pos h

theorem readStore_of_bad {s : State} (h : imageOk s.svc.store = false) : readStore s = takeDefaults s :=
  if_neg (by simp [h])

theorem ventilatorNode_iff {n : Nat} : ventilatorNode n = true ↔ 1 ≤ n ∧ n ≤ 12 := by simp [ventilatorNode]

/-- The state at the end of the hold with its straps read and its crystal checked, before the store is read. -/
def strapsRead (x : Straps) (i : Count) (s : State) : State := readStraps x (checkCrystal (advanceTo i s))

theorem strapsRead_frame (x : Straps) (i : Count) (s : State) : othersKept [.time, .own] s (strapsRead x i s) :=
  othersKept_within (othersKept_append (advanceTo_frame i s) (checkCrystal_frame _)) (withOwn_frame _ _)

theorem strapsRead_own (x : Straps) (i : Count) (s : State) : (strapsRead x i s).own =
    { s.own with node := x.node.toNat, lead := x.lead, facade := x.facade, room := x.room } := by
  have own : (checkCrystal (advanceTo i s)).own = (advanceTo i s).own := checkCrystal_frame _ .own (by decide)
  simp [strapsRead, readStraps, own]

theorem endStartHold_of_hold {x : Straps} {s : State} {i : Count} (h : s.mode.startHold = some i) :
    endStartHold x s = openSetupWindow (startSampling (readStore (strapsRead x i s))) := by
  simp [endStartHold, strapsRead, h]

/-- Settles O17: reading the store changes the store's values, the filter supervisor and the frost guard alone, so
each other block is as the straps, the crystal check, line sampling and the SETUP window leave it. -/
theorem holdEndReadsStrapsAndStore : Obligations.HoldEndReadsStrapsAndStore := by
  intro x s i hold
  refine ⟨finish (endStartHold x s), rfl, ?_⟩
  rw [endStartHold_of_hold hold]
  have straps := strapsRead_frame x i s
  have store := readStore_frame (strapsRead x i s)
  have own : (readStore (strapsRead x i s)).own = _ := (store .own (by decide)).trans (strapsRead_own x i s)
  have mode : (readStore (strapsRead x i s)).mode = s.mode :=
    (store .mode (by decide)).trans (straps .mode (by decide))
  have line : (readStore (strapsRead x i s)).line = s.line :=
    (store .line (by decide)).trans (straps .line (by decide))
  have time : (readStore (strapsRead x i s)).time = (checkCrystal (advanceTo i s)).time := store .time (by decide)
  have svc : (strapsRead x i s).svc = s.svc := straps .svc (by decide)
  have filt : (strapsRead x i s).filt = s.filt := straps .filt (by decide)
  have frost : (strapsRead x i s).frost = s.frost := straps .frost (by decide)
  refine ⟨?_, ?_, fun valid => ?_, fun invalid => ?_, ?_, ?_, fun ok => ?_, fun bad => ?_, ?_⟩
  · simp [openSetupWindow, startSampling, own]
  · simp [openSetupWindow, startSampling, line]
  · simp [openSetupWindow, startSampling, own, mode, time, checkCrystal_now, ventilatorNode_iff.mpr valid,
      setupWindowCounts]
  · have : ventilatorNode x.node.toNat = false := by
      rw [Bool.eq_false_iff, ne_eq, ventilatorNode_iff]
      omega
    simp [openSetupWindow, startSampling, own, mode, this]
  · simp [openSetupWindow, startSampling, time, checkCrystal_now]
  · simp [openSetupWindow, startSampling, time, checkCrystal_quality]
  · rw [readStore_of_ok (by rw [svc]; exact ok)]
    simp [openSetupWindow, startSampling, takeImage, svc, filt, frost]
  · rw [readStore_of_bad (by rw [svc]; exact bad)]
    simp [openSetupWindow, startSampling, takeDefaults, svc, filt, frost]
  · exact finish_within (othersKept_append (othersKept_append straps store)
      (othersKept_append (withLine_frame _ _)
        (othersKept_append (withMode_frame _ _) (withCond_frame _ _))))

end Sys2Proof.Laws
end

section
/-! ## Frames on the line: a driven frame is read back (R20 to R23)

A character starts with an edge, so it is read alike wherever the sampler stands on the PASSIVE line before it; a gap
of PASSIVE slices gives bits without an edge, which begin nothing while the gap limit is not passed. -/

namespace Sys2Proof.Laws

open Sys2Proof.Machine Sys2Proof.Safety

/-! ### Rows of bits -/

/-- The bits that the sampler reads from bits driven for their whole bit times, from slice `n` on after a level. -/
def bitsRead (n : Nat) (level : LineLevel) : List Bool → List ReadBit
  | [] => []
  | v :: vs => { start := n, edge := level && !v, value := v } :: bitsRead (n + 16) v vs

/-- The sampler stands at the end of a bit time, after `n` slices, the last of them of this level. -/
def bitEnds (n : Nat) (level : LineLevel) (c : BitClock) : Prop :=
  c.slice = 16 ∧ c.level = level ∧ c.slicesRead = n

theorem clockAfter_driven {n : Nat} {level : LineLevel} {c : BitClock} (h : bitEnds n level c) (v : Bool) :
    bitEnds (n + 16) v (clockAfter c (driveBit v)) := by
  obtain ⟨slice, hl, rfl⟩ := h
  exact clockAfter_driveBit c v slice

theorem readBits_driven (bits : List Bool) {n : Nat} {level : LineLevel} {c : BitClock} (h : bitEnds n level c) :
    readBits c (bits.flatMap driveBit) = bitsRead n level bits := by
  induction bits generalizing n level c with
  | nil => rfl
  | cons v vs ih =>
    rw [List.flatMap_cons, readBits_append, ih (clockAfter_driven h v), readBits_driveBit c v h.1]
    obtain ⟨-, rfl, rfl⟩ := h
    rfl

theorem clockAfter_bits (bits : List Bool) {n : Nat} {level : LineLevel} {c : BitClock} (h : bitEnds n level c) :
    bitEnds (n + 16 * bits.length) ((bits.getLast?).getD level) (clockAfter c (bits.flatMap driveBit)) := by
  induction bits generalizing n level c with
  | nil => exact h
  | cons v vs ih =>
    have after := ih (clockAfter_driven h v)
    rw [List.flatMap_cons, clockAfter_append, List.length_cons, List.getLast?_cons, Option.getD_some,
      Nat.mul_add, Nat.add_comm (16 * _), ← Nat.add_assoc]
    exact after

/-! ### Characters -/

/-- The data bits and the stop bit of a character. -/
def dataBits (b : Byte) : List Bool :=
  [b.getLsbD 7, b.getLsbD 6, b.getLsbD 5, b.getLsbD 4, b.getLsbD 3, b.getLsbD 2, b.getLsbD 1, b.getLsbD 0]

theorem driveChar_eq (b : Byte) : driveChar b = driveBit false ++ (dataBits b ++ [true]).flatMap driveBit := rfl

/-- A start bit is read alike wherever the sampler stands on a PASSIVE line (R20). -/
theorem readBits_startBit (c : BitClock) (h : c.level = true) :
    readBits c (driveBit false) = [{ start := c.slicesRead, edge := true, value := false }] ∧
      bitEnds (c.slicesRead + 16) false (clockAfter c (driveBit false)) := by
  obtain ⟨n, l, sl, st, e, a, b⟩ := c
  subst h
  simp [driveBit, bitSlices, List.replicate, readBits, BitClock.next, majority, clockAfter, bitEnds]

/-- The bits of a character that begins at slice `n` of a PASSIVE line. -/
def charRead (n : Nat) (b : Byte) : List ReadBit :=
  { start := n, edge := true, value := false } :: bitsRead (n + 16) false (dataBits b ++ [true])

theorem readBits_driveChar (c : BitClock) (h : c.level = true) (b : Byte) :
    readBits c (driveChar b) = charRead c.slicesRead b := by
  obtain ⟨start, ends⟩ := readBits_startBit c h
  rw [driveChar_eq, readBits_append, start, readBits_driven _ ends]
  rfl

theorem clockAfter_driveChar (c : BitClock) (h : c.level = true) (b : Byte) :
    bitEnds (c.slicesRead + 160) true (clockAfter c (driveChar b)) := by
  rw [driveChar_eq, clockAfter_append]
  exact clockAfter_bits _ (readBits_startBit c h).2

/-- What reception makes of a step: it goes on with the bits that follow, or it is over. -/
def continueWith (r : ReceptionStep) (bs : List ReadBit) : FrameRead :=
  match r with
  | .goesOn r1 => assemble r1 bs
  | .ends f => f

theorem assemble_cons (r : Reception) (b : ReadBit) (bs : List ReadBit) :
    assemble r (b :: bs) = continueWith (takeBit r b) bs := rfl

/-- A character that begins within the gap limit is collected, and its stop bit ends it (R21, R22). -/
theorem assemble_char (chars : List Byte) (limit n : Nat) (b : Byte) (rest : List ReadBit)
    (h : chars = [] ∨ n ≤ limit) :
    assemble { chars := chars, bits := none, limit := limit } (charRead n b ++ rest) =
      continueWith (takeChar (chars ++ [b]) (n + 208)) rest := by
  simp only [charRead, dataBits, bitsRead, List.cons_append, List.nil_append, assemble_cons]
  rw [takeBit_start chars limit _ rfl rfl h]
  iterate 8
    rw [continueWith, assemble_cons, takeBit_data _ _ _ _ (by simp)]
  rw [continueWith, assemble_cons, takeBit_stop _ _ _ _ (by simp) rfl]
  simp only [List.nil_append, List.cons_append]
  rw [bitsToNat_charBits]

/-! ### Gaps between characters (R22) -/

/-- A PASSIVE line gives bits without an edge, each read within its ninth slice. -/
theorem readBits_passive (g : Nat) (c : BitClock) (hl : c.level = true)
    (hc : c.slice = 16 ∨ (c.edge = false ∧ c.start + c.slice = c.slicesRead)) :
    ∀ b ∈ readBits c (List.replicate g true), b.edge = false ∧ b.start + 9 ≤ c.slicesRead + g := by
  induction g generalizing c with
  | zero => simp [readBits]
  | succ g ih =>
    obtain ⟨level, read, slice⟩ := next_passive c
    have stands : (c.next true).edge = false ∧ (c.next true).start + (c.next true).slice = (c.next true).slicesRead := by
      rcases hc with h | ⟨he, hs⟩
      · simp [BitClock.next, h, hl]
      · by_cases h : c.slice = 16
        · simp [BitClock.next, h, hl]
        · simp [BitClock.next, h, hl, he]
          omega
    have later := ih (c.next true) level (.inr stands)
    simp only [List.replicate_succ, readBits]
    split
    next ninth =>
      rintro b (_ | ⟨_, hb⟩)
      · exact ⟨stands.1, by dsimp only; omega⟩
      · obtain ⟨edge, ends⟩ := later b hb
        exact ⟨edge, by omega⟩
    next =>
      intro b hb
      obtain ⟨edge, ends⟩ := later b hb
      exact ⟨edge, by omega⟩

theorem clockAfter_passive (g : Nat) (c : BitClock) (hl : c.level = true) :
    (clockAfter c (List.replicate g true)).level = true ∧
      (clockAfter c (List.replicate g true)).slicesRead = c.slicesRead + g := by
  induction g generalizing c with
  | zero => exact ⟨hl, rfl⟩
  | succ g ih =>
    obtain ⟨level, read, -⟩ := next_passive c
    obtain ⟨level', read'⟩ := ih (c.next true) level
    exact ⟨level', by rw [List.replicate_succ, clockAfter, List.foldl_cons, ← clockAfter, read', read]; omega⟩

/-- Bits without an edge within the gap limit begin nothing. -/
theorem assemble_gap (chars : List Byte) (limit : Nat) (bs rest : List ReadBit)
    (h : ∀ b ∈ bs, b.edge = false ∧ b.start ≤ limit) :
    assemble { chars := chars, bits := none, limit := limit } (bs ++ rest) =
      assemble { chars := chars, bits := none, limit := limit } rest := by
  induction bs with
  | nil => rfl
  | cons b bs ih =>
    obtain ⟨edge, start⟩ := h b (List.mem_cons_self ..)
    rw [List.cons_append, assemble_cons, takeBit_gap chars limit b edge (.inr start)]
    exact ih fun x hx => h x (List.mem_cons_of_mem _ hx)

/-- A start bit later than the gap limit abandons the frame, whatever passive bits stand before it (R22). -/
theorem assemble_late (chars : List Byte) (limit : Nat) (bs rest : List ReadBit) (b : ReadBit)
    (hc : chars ≠ []) (h : ∀ x ∈ bs, x.edge = false) (late : limit < b.start) :
    assemble { chars := chars, bits := none, limit := limit } (bs ++ b :: rest) = .abandoned := by
  induction bs with
  | nil => simp [assemble_cons, takeBit, takeGapBit, hc, late, continueWith]
  | cons x bs ih =>
    rw [List.cons_append, assemble_cons]
    have edge := h x (List.mem_cons_self ..)
    by_cases hx : limit < x.start
    · simp [takeBit, takeGapBit, hc, hx, continueWith]
    · rw [takeBit_gap chars limit x edge (.inr (by omega))]
      exact ih fun y hy => h y (List.mem_cons_of_mem _ hy)

/-! ### Frames -/

/-- Characters driven with `gap` PASSIVE slices after each. -/
def driveGapped (gap : Nat) (cs : List Byte) : List LineLevel :=
  cs.flatMap fun b => driveChar b ++ List.replicate gap true

theorem driveGapped_cons (gap : Nat) (b : Byte) (cs : List Byte) :
    driveGapped gap (b :: cs) = driveChar b ++ (List.replicate gap true ++ driveGapped gap cs) := by
  simp [driveGapped]

theorem driveGapped_zero (cs : List Byte) : driveGapped 0 cs = cs.flatMap driveChar := by
  simp [driveGapped]

/-- The PASSIVE slices after a character are read from the end of a bit time. -/
theorem readBits_gapAfter {n : Nat} {c : BitClock} (h : bitEnds n true c) (gap : Nat) :
    ∀ b ∈ readBits c (List.replicate gap true), b.edge = false ∧ b.start + 9 ≤ n + gap := by
  obtain ⟨slice, level, rfl⟩ := h
  exact readBits_passive gap c level (.inl slice)

/-- With gaps of at most 48 slices every character is collected, up to the one that completes the frame (R22). -/
theorem assemble_frame {gap : Nat} (hg : gap ≤ 48) {f : FrameRead} (tail : List LineLevel) (todo : List Byte)
    (chars : List Byte) (limit : Nat) (c : BitClock) (hl : c.level = true)
    (begins : chars = [] ∨ c.slicesRead ≤ limit) (nonempty : todo ≠ [])
    (going : ∀ k l, 0 < k → k < todo.length →
      takeChar (chars ++ todo.take k) l = .goesOn { chars := chars ++ todo.take k, bits := none, limit := l })
    (complete : ∀ l, takeChar (chars ++ todo) l = .ends f) :
    assemble { chars := chars, bits := none, limit := limit } (readBits c (driveGapped gap todo ++ tail)) = f := by
  induction todo generalizing chars limit c with
  | nil => exact absurd rfl nonempty
  | cons b todo ih =>
    have after := clockAfter_driveChar c hl b
    rw [driveGapped_cons, List.append_assoc, readBits_append, readBits_driveChar c hl b,
      assemble_char chars limit _ b _ begins]
    rcases todo with _ | ⟨b', todo⟩
    · rw [complete, continueWith]
    · have goes := going 1 (c.slicesRead + 208) (by omega) (by simp)
      rw [List.take_succ_cons, List.take_zero] at goes
      obtain ⟨level, read⟩ := clockAfter_passive gap _ after.2.1
      rw [goes, continueWith, List.append_assoc, readBits_append, assemble_gap]
      · refine ih (chars ++ [b]) _ _ level (.inr ?_) (by simp) (fun k l pos lt => ?_) fun l => ?_
        · rw [read, after.2.2]
          omega
        · have more := going (k + 1) l (by omega) (by simpa using lt)
          simpa using more
        · simpa using complete l
      · intro x hx
        obtain ⟨edge, ends⟩ := readBits_gapAfter after gap x hx
        exact ⟨edge, by omega⟩

/-- With a longer gap the frame is abandoned at its second character (R22). -/
theorem assemble_longGap {gap : Nat} (hg : 48 < gap) (tail : List LineLevel) (a b : Byte) (todo : List Byte)
    (limit : Nat) (c : BitClock) (hl : c.level = true) :
    assemble { chars := [], bits := none, limit := limit } (readBits c (driveGapped gap (a :: b :: todo) ++ tail)) =
      .abandoned := by
  have after := clockAfter_driveChar c hl a
  obtain ⟨level, read⟩ := clockAfter_passive gap _ after.2.1
  have goes : takeChar ([] ++ [a]) (c.slicesRead + 208) =
    .goesOn { chars := [a], bits := none, limit := c.slicesRead + 208 } := rfl
  rw [driveGapped_cons, List.append_assoc, readBits_append, readBits_driveChar c hl a,
    assemble_char [] limit _ a _ (.inl rfl), goes, continueWith, List.append_assoc, readBits_append,
    driveGapped_cons, List.append_assoc, readBits_append, readBits_driveChar _ level b]
  refine assemble_late [a] _ _ _ _ (by simp) (fun x hx => (readBits_gapAfter after gap x hx).1) ?_
  rw [read, after.2.2]
  dsimp only
  omega

/-- The characters of a frame. -/
theorem frameBytes_eq (rank : Byte) (payload : List Byte) : frameBytes rank payload =
    rank :: BitVec.ofNat 8 payload.length :: (payload ++
      [crc8 (rank :: BitVec.ofNat 8 payload.length :: payload)]) := rfl

theorem size_of_le {payload : List Byte} (h : payload.length ≤ 8) :
    (BitVec.ofNat 8 payload.length).toNat = payload.length := by
  rw [BitVec.toNat_ofNat]
  omega

/-- Before its CHECK character a frame is not complete (R22). -/
theorem takeChar_within {rank : Byte} {payload : List Byte} (h : payload.length ≤ 8) (k l : Nat) (pos : 0 < k)
    (lt : k < (frameBytes rank payload).length) :
    takeChar ((frameBytes rank payload).take k) l =
      .goesOn { chars := (frameBytes rank payload).take k, bits := none, limit := l } := by
  rw [frameBytes_eq] at lt ⊢
  rcases k with _ | _ | k
  · omega
  · rfl
  · have short : (List.take k (payload ++ [crc8 (rank :: BitVec.ofNat 8 payload.length :: payload)])).length ≠
        payload.length + 1 := by
      rw [List.length_take]
      simp at lt ⊢
      omega
    rw [List.take_succ_cons, List.take_succ_cons, takeChar, size_of_le h, if_neg (by omega), if_neg short]

/-- Its CHECK character completes it, and the CRC agrees (R23). -/
theorem takeChar_frame {rank : Byte} {payload : List Byte} (h : payload.length ≤ 8) (l : Nat) :
    takeChar (frameBytes rank payload) l = .ends (.good rank payload) := by
  rw [frameBytes_eq, takeChar, size_of_le h, if_neg (by omega), if_pos (by simp)]
  simp [checkFrame, size_of_le h]

theorem readFrame_gapped {rank : Byte} {payload : List Byte} (h : payload.length ≤ 8) (gap : Nat) :
    readFrame (driveGapped gap (frameBytes rank payload)) = if gap ≤ 48 then .good rank payload else .abandoned := by
  unfold readFrame Reception.empty
  split
  next hg =>
    exact assemble_frame hg _ _ [] 0 .atRest rfl (.inl rfl) (by simp [frameBytes_eq])
      (fun k l pos lt => takeChar_within h k l pos lt) fun l => takeChar_frame h l
  next hg =>
    rw [frameBytes_eq]
    exact assemble_longGap (by omega) _ rank _ _ 0 .atRest rfl

theorem readFrame_driveFrame {rank : Byte} {payload : List Byte} (h : payload.length ≤ 8) :
    readFrame (driveFrame rank payload) = .good rank payload := by
  have := readFrame_gapped (rank := rank) h 0
  rwa [driveGapped_zero, if_pos (by omega)] at this

/-- Settles O14. -/
theorem framesReadAsDriven : Obligations.FramesReadAsDriven := by
  refine ⟨fun rank payload h => readFrame_driveFrame h, fun rank payload gap h => readFrame_gapped h gap,
    fun n pos le => ?_⟩
  have cases : n = 1 ∨ n = 2 ∨ n = 3 ∨ n = 4 ∨ n = 5 ∨ n = 6 ∨ n = 7 := by omega
  rcases cases with rfl | rfl | rfl | rfl | rfl | rfl | rfl <;> rfl

end Sys2Proof.Laws
end

section
/-! ## Reception: the filters in their order, and what a receiver makes of a damaged frame (R21 to R24, R35, R36) -/

namespace Sys2Proof.Laws

open Sys2Proof.Machine Sys2Proof.Safety

theorem classOf_eq_none {n : Nat} (h : n < 8) : classOf n = none ↔ n = 7 := by
  revert n
  decide

theorem classOf_eq_some {n : Nat} (c : NoticeClass) : classOf n = some c ↔ n = classCode c := by
  constructor
  · intro h
    unfold classOf at h
    split at h <;> cases h <;> rfl
  · rintro rfl
    cases c <;> rfl

theorem cls_eq_none {f : RxFrame} : f.cls = none ↔ f.rank.toNat / 32 = 7 :=
  classOf_eq_none (by have := f.rank.isLt; simp only [rankClass]; omega)

theorem cls_eq_some {f : RxFrame} {c : NoticeClass} : f.cls = some c ↔ f.rank.toNat / 32 = classCode c :=
  classOf_eq_some c

/-- A HOUSE or REQUEST with a TARGET that is neither 0 nor the own node is for another station (R35). -/
theorem otherTarget_iff {s : State} {f : RxFrame} : otherTarget s f = true ↔
    (f.rank.toNat / 32 = 3 ∨ f.rank.toNat / 32 = 5) ∧
      f.payload.head?.any (fun x => x.toNat ≠ 0 && x.toNat ≠ s.own.node) = true := by
  have class_iff : (f.rank.toNat / 32 = 3 ∨ f.rank.toNat / 32 = 5) ↔ f.cls = some .house ∨ f.cls = some .request :=
    by rw [cls_eq_some, cls_eq_some]; rfl
  rw [class_iff]
  unfold otherTarget
  rcases f.payload with _ | ⟨target, rest⟩
  · split <;> simp_all
  · split <;> simp_all

theorem clashes_iff {s : State} {f : RxFrame} : clashes s f = true ↔
    f.rank.toNat % 16 = s.own.node ∧ ¬ (s.mode.mode = .start ∧ s.mode.strapInvalid = true) := by
  rw [clashes, Bool.and_eq_true, decide_eq_true_iff]
  refine and_congr Iff.rfl ?_
  cases h : s.mode.strapInvalid <;> simp [invalidStart, h]

/-- What the filters make of the line block, in their order (R35, R36). -/
theorem filterFrame_line (f : RxFrame) (s : State) : (filterFrame f s).line =
    if f.rank.toNat / 32 = 7 then { s.line with rxFaults := bump s.line.rxFaults }
    else if f.rank.toNat % 16 = s.own.node ∧ ¬ (s.mode.mode = .start ∧ s.mode.strapInvalid = true) then
      { s.line with clashes := bump s.line.clashes, clashAge := 0 }
    else if f.rank.toNat / 32 = 6 then s.line
    else if (f.rank.toNat / 32 = 3 ∨ f.rank.toNat / 32 = 5) ∧
        f.payload.head?.any (fun x => x.toNat ≠ 0 && x.toNat ≠ s.own.node) = true then s.line
    else if s.line.rxq.length < 2 then { s.line with rxq := s.line.rxq ++ [f] }
    else { s.line with overruns := bump s.line.overruns } := by
  have reply : f.cls = some .reply ↔ f.rank.toNat / 32 = 6 := cls_eq_some
  simp only [filterFrame, cls_eq_none, clashes_iff, reply, otherTarget_iff, enterRxQueue, countRxFault, countClash,
    countOverrun, apply_ite State.line, State.withLine_line]

theorem filterFrame_frame (f : RxFrame) (s : State) : othersKept [.line] s (filterFrame f s) := by
  unfold filterFrame enterRxQueue
  split
  · exact withLine_frame s _
  split
  · exact withLine_frame s _
  split
  · exact othersKept_refl _ _
  split
  · exact othersKept_refl _ _
  split
  · exact withLine_frame s _
  · exact withLine_frame s _

/-- Settles O20: a frame of at most 8 payload characters is read as it was driven, and the filters decide on it. -/
theorem goodFramesPassTheFilters : Obligations.GoodFramesPassTheFilters := by
  refine ⟨fun t rank payload s short hs hp => ?_, fun t levels s damaged hs hp => ?_, fun t levels s false_ hs hp => ?_⟩
  all_goals
    refine ⟨finish (receiveFrame _ (advanceTo t s)), rfl, ?_⟩
    rw [receiveFrame, if_pos (canReceive_of (by simpa using hs) (by simpa using hp))]
  · rw [readFrame_driveFrame short]
    refine ⟨?_, finish_within (othersKept_append (withLine_frame _ _) (filterFrame_frame _ _))⟩
    rw [finish_line, filterFrame_line]
    simp only [withPhase, State.withLine_line, State.withLine_own, State.withLine_mode, advanceTo_line,
      advanceTo_own, advanceTo_mode, bump]
  · rcases damaged with h | h <;> rw [h]
    all_goals
      exact ⟨by simp [abandonFrame, countRxFault, withPhase, bump],
        finish_within (othersKept_append (withLine_frame _ _) (withLine_frame _ _))⟩
  · rw [false_]
    exact ⟨by simp [withPhase], finish_within (withLine_frame _ _)⟩

end Sys2Proof.Laws
end

section
/-! ## Notices: every field comes back as it was placed in its character (R43 to R50) -/

namespace Sys2Proof.Laws

open Sys2Proof.Machine Sys2Proof.Safety

/-! ### Characters and codes -/

theorem byteOf_toNat {n : Nat} (h : n < 256) : (byteOf n).toNat = n := by
  rw [byteOf, BitVec.toNat_ofNat]
  omega

theorem dirOf_dirCode (d : Dir) : dirOf (dirCode d) = some d := by cases d <;> rfl

theorem stageOf_stageCode (g : FrostStage) : stageOf (stageCode g) = some g := by cases g <;> rfl

theorem lineOf_lineCode (l : LineState) : lineOf (lineCode l) = some l := by cases l <;> rfl

theorem levelOf_levelCode (l : Level) : levelOf (levelCode l) = some l := by cases l <;> rfl

theorem filterOf_filterCode (f : FilterState) : filterOf (filterCode f) = f := by cases f <;> rfl

/-- The codes of FLAGS and STATE fit the bits they have there (R43, R44). -/
theorem code_bounds (a : Announcement) : dirCode a.direction ≤ 2 ∧ qualityCode a.quality ≤ 1 ∧
    stageCode a.stage ≤ 5 ∧ filterCode a.filter ≤ 3 ∧ levelCode a.level ≤ 3 ∧ lineCode a.line ≤ 2 := by
  refine ⟨?_, ?_, ?_, ?_, ?_, ?_⟩
  · cases a.direction <;> decide
  · cases a.quality <;> decide
  · cases a.stage <;> decide
  · cases a.filter <;> decide
  · cases a.level <;> decide
  · cases a.line <;> decide

theorem decide_toNat_eq_one (b : Bool) : decide (b.toNat = 1) = b := by cases b <;> rfl

theorem qualityOf_qualityCode (q : Quality) : qualityOf (decide (qualityCode q = 1)) = q := by cases q <;> rfl

/-- The fields of FLAGS come back (R43). -/
theorem flags_fields (a : Announcement) : flagsNat a < 256 ∧ flagsNat a / 64 = dirCode a.direction ∧
    flagsNat a / 32 % 2 = a.lead.toNat ∧ flagsNat a / 16 % 2 = qualityCode a.quality ∧
    flagsNat a / 8 % 2 = a.late.toNat ∧ flagsNat a % 8 = stageCode a.stage := by
  obtain ⟨hd, hq, hs, -, -, -⟩ := code_bounds a
  have hlead := a.lead.toNat_le
  have hlate := a.late.toNat_le
  unfold flagsNat
  omega

/-- The fields of STATE come back (R43). -/
theorem state_fields (a : Announcement) : stateNat a < 256 ∧ stateNat a / 64 = filterCode a.filter ∧
    stateNat a / 16 % 4 = levelCode a.level ∧ stateNat a / 4 % 4 = lineCode a.line ∧
    stateNat a / 2 % 2 = a.leaving.toNat := by
  obtain ⟨-, -, -, hf, hv, hl⟩ := code_bounds a
  have hleave := a.leaving.toNat_le
  unfold stateNat
  omega

/-- The six characters of an announcement carry it (R43, R44, R46). -/
theorem readAnnouncement_announced (a : Announcement) (hw : a.want < 256) (hc : a.ceil < 256) (hcond : a.cond ≤ 13) :
    readAnnouncement a.k (byteOf (flagsNat a)) (byteOf a.want) (byteOf a.ceil) (byteOf (stateNat a))
      (byteOf a.cond) = some a := by
  obtain ⟨flags, dir, lead, quality, late, stage⟩ := flags_fields a
  obtain ⟨state, filter, level, line, leaving⟩ := state_fields a
  have cond : (byteOf a.cond).toNat = a.cond := byteOf_toNat (by omega)
  simp only [readAnnouncement, byteOf_toNat flags, byteOf_toNat state, byteOf_toNat hw, byteOf_toNat hc, cond,
    dir, lead, quality, late, stage, filter, level, line, leaving, dirOf_dirCode, stageOf_stageCode,
    lineOf_lineCode, levelOf_levelCode, filterOf_filterCode, decide_toNat_eq_one, qualityOf_qualityCode,
    if_pos hcond]

/-! ### RANK (R43) -/

theorem rank_fields (cls : NoticeClass) (urgent : Bool) {node : Nat} (h : node ≤ 15) :
    (byteOf (rankOf cls urgent node)).toNat / 32 = classCode cls ∧
      (byteOf (rankOf cls urgent node)).toNat % 16 = node := by
  have hc : classCode cls ≤ 6 := by cases cls <;> decide
  have hu := urgent.toNat_le
  rw [byteOf_toNat (by unfold rankOf; omega)]
  unfold rankOf
  omega

theorem cls_of_rank (cls : NoticeClass) (urgent : Bool) {node : Nat} (payload : List Byte) (stamp : Count)
    (h : node ≤ 15) :
    RxFrame.cls { rank := byteOf (rankOf cls urgent node), payload := payload, stamp := stamp } = some cls :=
  cls_eq_some.mpr (rank_fields cls urgent h).1

theorem node_of_rank (cls : NoticeClass) (urgent : Bool) {node : Nat} (payload : List Byte) (stamp : Count)
    (h : node ≤ 15) :
    RxFrame.node { rank := byteOf (rankOf cls urgent node), payload := payload, stamp := stamp } = node :=
  (rank_fields cls urgent h).2

/-! ### The notices -/

section
variable (urgent : Bool) {node : Nat} (stamp : Count)

theorem decode_phase (a : Announcement) {delay : Nat} (hn : 1 ≤ node ∧ node ≤ 12) (hd : delay < 4096)
    (hw : a.want < 256) (hc : a.ceil < 256) (hcond : a.cond ≤ 13) :
    decodeNotice { rank := byteOf (rankOf .phase urgent node), payload := phaseBytes a delay, stamp := stamp } =
      some (.phase a delay) := by
  have hi : (byteOf (delay / 256)).toNat = delay / 256 := byteOf_toNat (by omega)
  have lo : (byteOf (delay % 256)).toNat = delay % 256 := byteOf_toNat (by omega)
  have small : delay / 256 < 16 := by omega
  have whole : delay / 256 * 256 + delay % 256 = delay := by omega
  rw [decodeNotice, cls_of_rank .phase urgent _ _ (by omega), node_of_rank .phase urgent _ _ (by omega)]
  simp [phaseBytes, announceBytes, ventilatorNode_iff.mpr hn, hi, lo, small, whole,
    readAnnouncement_announced a hw hc hcond]

theorem decode_change (a : Announcement) (hn : 1 ≤ node ∧ node ≤ 12) (hw : a.want < 256) (hc : a.ceil < 256)
    (hcond : a.cond ≤ 13) :
    decodeNotice { rank := byteOf (rankOf .change urgent node), payload := announceBytes a, stamp := stamp } =
      some (.change a) := by
  rw [decodeNotice, cls_of_rank .change urgent _ _ (by omega), node_of_rank .change urgent _ _ (by omega)]
  simp [announceBytes, ventilatorNode_iff.mpr hn, readAnnouncement_announced a hw hc hcond]

theorem decode_claim (k : HalfNo) {severity : Nat} (hn : 1 ≤ node ∧ node ≤ 12) (hs : severity ≤ 7) :
    decodeNotice { rank := byteOf (rankOf .claim urgent node), payload := claimBytes k severity, stamp := stamp } =
      some (.claim k severity) := by
  rw [decodeNotice, cls_of_rank .claim urgent _ _ (by omega), node_of_rank .claim urgent _ _ (by omega)]
  simp [claimBytes, ventilatorNode_iff.mpr hn, byteOf_toNat (show severity < 256 by omega), hs]

theorem decode_house (hn : node ≤ 15) (target kind arg hold : Byte) :
    decodeNotice
        { rank := byteOf (rankOf .house urgent node), payload := [target, kind, arg, hold], stamp := stamp } =
      (readHouse kind arg hold).bind fun act => if houseSenderOk node act then some (.house act) else none := by
  rw [decodeNotice, cls_of_rank .house urgent _ _ hn, node_of_rank .house urgent _ _ hn]
  dsimp only
  cases readHouse kind arg hold <;> rfl

theorem decode_request (hn : node ≤ 15) (target kind index value : Byte) :
    decodeNotice
        { rank := byteOf (rankOf .request urgent node), payload := [target, kind, index, value], stamp := stamp } =
      if controlNode node then (requestOf kind.toNat).map fun r => .request r index value else none := by
  rw [decodeNotice, cls_of_rank .request urgent _ _ hn, node_of_rank .request urgent _ _ hn]

theorem decode_status (hn : 1 ≤ node ∧ node ≤ 12) (p1 p2 p3 p4 p5 p6 p7 p8 : Byte) :
    decodeNotice { rank := byteOf (rankOf .status urgent node)
                   payload := [p1, p2, p3, p4, p5, p6, p7, p8], stamp := stamp } =
      some (.status (readOutdoor p1 p2) (if p8.toNat / 128 = 1 then .rear else .front)) := by
  rw [decodeNotice, cls_of_rank .status urgent _ _ (by omega), node_of_rank .status urgent _ _ (by omega)]
  simp [ventilatorNode_iff.mpr hn]

end

/-- A code of a SERVICE REQUEST is one of the six of R44. -/
theorem requestOf_byte (kind : Byte) : requestOf kind.toNat =
    if kind = 0 then some .read else if kind = 1 then some .set else if kind = 2 then some .setupEnter
    else if kind = 3 then some .setupLeave else if kind = 4 then some .clear
    else if kind = 5 then some .filterReset else none := by
  revert kind
  decide

theorem levelOf_byte (arg : Byte) : levelOf arg.toNat =
    if arg = 0 then some .setback else if arg = 1 then some .base else if arg = 2 then some .raised
    else if arg = 3 then some .boost else none := by
  revert arg
  decide

theorem readHouse_byte (kind arg hold : Byte) : readHouse kind arg hold =
    if kind = 0 then (levelOf arg.toNat).map fun l => .level l hold.toNat
    else if kind = 1 then some (.rest arg.toNat) else if kind = 2 then some .resume
    else if kind = 3 then some .wake else none := by
  have key : ∀ n : Nat, n < 256 → (kind = BitVec.ofNat 8 n ↔ kind.toNat = n) := fun n hn =>
    ⟨fun h => by rw [h, BitVec.toNat_ofNat]; omega, fun h => BitVec.eq_of_toNat_eq (by rw [h, BitVec.toNat_ofNat]; omega)⟩
  have h0 := key 0 (by decide)
  have h1 := key 1 (by decide)
  have h2 := key 2 (by decide)
  have h3 := key 3 (by decide)
  unfold readHouse
  split <;> simp_all

/-- A temperature's two characters spell it modulo 2¹⁶ (R43). -/
theorem pair_value (n : Int) : ((256 * (highByte n).toNat + (lowByte n).toNat : Nat) : Int) = n % 65536 := by
  have bound : (BitVec.ofInt 16 n).toNat < 65536 := (BitVec.ofInt 16 n).isLt
  have whole : 256 * (highByte n).toNat + (lowByte n).toNat = (BitVec.ofInt 16 n).toNat := by
    simp only [highByte, lowByte, BitVec.toNat_ofNat]
    omega
  rw [whole, BitVec.toNat_ofInt]
  omega

/-- Two characters as a signed number (R43). -/
theorem signedPair_eq (hi lo : Byte) : signedPair hi lo =
    if ((256 * hi.toNat + lo.toNat : Nat) : Int) < 32768 then ((256 * hi.toNat + lo.toNat : Nat) : Int)
    else ((256 * hi.toNat + lo.toNat : Nat) : Int) - 65536 := by
  have h1 := hi.isLt
  have h2 := lo.isLt
  rw [signedPair, BitVec.toInt_eq_toNat_cond, BitVec.toNat_ofNat,
    Nat.mod_eq_of_lt (by omega : hi.toNat * 256 + lo.toNat < 2 ^ 16)]
  split <;> split <;> omega

theorem ite_bind {α β : Type} (p : Prop) [Decidable p] (a b : Option α) (f : α → Option β) :
    (if p then a else b).bind f = if p then a.bind f else b.bind f := apply_ite (fun o => Option.bind o f) p a b

/-- The last character of a STATUS: facade, room kind and SENSOR FAULT (R49). -/
theorem status_kind (facade : Facade) (room : Room) (fault : Bool) :
    128 * facadeCode facade + 32 * roomCode room + 16 * fault.toNat =
      (match facade with
        | .front => 0
        | .rear => 128) +
      (match room with
        | .dry => 0
        | .wet => 32
        | .kitchen => 64
        | .hall => 96) + (if fault then 16 else 0) := by
  cases facade <;> cases room <;> cases fault <;> rfl

/-- Settles O15. -/
theorem announcementsDecodeAsSent : Obligations.AnnouncementsDecodeAsSent := by
  refine ⟨?_, ?_, ?_, ?_, ?_⟩
  · intro node delay severity urgent a k stamp h1 h12 hd hs hw hc hcond
    exact ⟨decode_phase urgent stamp a ⟨h1, h12⟩ hd hw hc hcond,
      decode_change urgent stamp a ⟨h1, h12⟩ hw hc hcond, decode_claim urgent stamp k ⟨h1, h12⟩ hs⟩
  · intro node urgent target kind arg hold stamp hn
    rw [decode_house urgent stamp hn, readHouse_byte, levelOf_byte]
    simp only [apply_ite (Option.map _), ite_bind, Option.map_some, Option.map_none, Option.bind_some,
      Option.bind_none]
    by_cases hc : 13 ≤ node
    · have control : controlNode node = true := by simp [controlNode, hc, hn]
      have ventilator : ventilatorNode node = false := by simp [ventilatorNode]; omega
      simp [houseSenderOk, control, ventilator, hc]
    · have control : controlNode node = false := by simp [controlNode, hc]
      simp only [houseSenderOk, control, hc, ventilatorNode_iff]
      by_cases wake : kind = 3#8
      · simp [wake]
      · simp [wake]
  · intro node urgent target kind index value stamp hn
    rw [decode_request urgent stamp hn, requestOf_byte]
    have control : controlNode node = true ↔ 13 ≤ node := by simp [controlNode, hn]
    simp only [control]
    simp only [apply_ite (Option.map _), Option.map_some, Option.map_none]
  · intro node urgent p1 p2 p3 p4 p5 p6 p7 p8 stamp h1 h12
    rw [decode_status urgent stamp ⟨h1, h12⟩]
    have rear : p8.toNat / 128 = 1 ↔ 128 ≤ p8.toNat := by have := p8.isLt; omega
    simp only [readOutdoor, signedPair_eq, rear]
    simp
  · intro s _ _ _ _
    refine ⟨_, _, _, _, ?_, pair_value _, pair_value _⟩
    rw [statusBytes, sensorFault, status_kind]
    rfl

end Sys2Proof.Laws
end

section
/-! ## Sends: the offer, a lost arbitration, a clean send, and the charges of errors (R26 to R42) -/

namespace Sys2Proof.Laws

open Sys2Proof.Machine Sys2Proof.Safety

/-! ### What the passing of time leaves of a payload -/

section
variable (t : Count) (s : State)

@[simp] theorem advanceTo_lineState : lineState (advanceTo t s) = lineState s := by simp [lineState]

@[simp] theorem lineState_withPhase (p : LinePhase) : lineState (withPhase p s) = lineState s := rfl

@[simp] theorem ownAnnouncement_advanceTo (d : Dir) (late : Bool) :
    ownAnnouncement (advanceTo t s) d late = ownAnnouncement s d late := by simp [ownAnnouncement]

@[simp] theorem statusBytes_advanceTo : statusBytes (advanceTo t s) = statusBytes s := by
  simp [statusBytes, sensorFault]

end

/-! ### The offer (R26, R60) -/

theorem beginSend_of_offer {s : State} {e : TxEntry} (hs : s.line.sampling = true) (hp : s.line.phase = .idle)
    (hc : lineState s ≠ .cutOff) (he : offeredEntry s.line.txq = some e) :
    beginSend s = s.withLine { s.line with
      phase := .sending
      txq := setEntry { e with onLine := true, payload := attemptPayload s e } s.line.txq } := by
  rw [beginSend, if_pos ⟨hs, hp, hc⟩, he]

theorem lineState_ne_cutOff {s : State} (h : s.line.faultCount < 64) : lineState s ≠ .cutOff := by
  unfold lineState lineStateOf
  rw [if_pos h]
  split <;> simp

/-- Settles O21: the offered entry's payload is filled class by class, and time that passes first changes nothing of
what fills it but the count that a PHASE is delayed by. -/
theorem sendAttemptOffersTheLowestRank : Obligations.SendAttemptOffersTheLowestRank := by
  intro t s e hs hp hc he
  refine ⟨finish (beginSend (advanceTo t s)), rfl, ?_⟩
  rw [beginSend_of_offer (e := e) (by simpa using hs) (by simpa using hp)
    (by simpa using lineState_ne_cutOff hc) (by simpa [offeredEntry] using he)]
  refine ⟨?_, finish_within (withLine_frame _ _)⟩
  rw [finish_line, State.withLine_line, advanceTo_line]
  cases hcls : e.cls
  case phase =>
    simp only [attemptPayload, hcls, ownAnnouncement_advanceTo, sendDelay, advanceTo_own]
    cases s.own.instant with
    | none => rfl
    | some i =>
      dsimp only
      split
      · rfl
      · split <;> rfl
  all_goals simp [attemptPayload, hcls]

/-! ### A replacement takes its place (R31) -/

/-- The queue after a waiting replacement has taken the entry of its class. -/
def replacedBy (r : Option TxEntry) (q : List TxEntry) : List TxEntry :=
  match r with
  | some e => placeEntry e (withoutClass e.cls q)
  | none => q

theorem takeReplacement_line (s : State) : (takeReplacement s).line =
    { s.line with txq := replacedBy s.line.replacement s.line.txq, replacement := none } := by
  unfold takeReplacement
  split
  next r hr => rw [hr]; rfl
  next hr => rw [hr, replacedBy, ← hr]

theorem takeReplacement_frame (s : State) : othersKept [.line] s (takeReplacement s) := by
  unfold takeReplacement
  split
  · exact withLine_frame s _
  · exact othersKept_refl _ _

theorem claimGone_frost (e : TxEntry) (s : State) : (claimGone e s).frost =
    { s.frost with
      ownClaim := if e.cls = .claim ∧ e.withdrawn = true ∧ s.frost.ownClaim = .queued ∧ s.line.replacement = none
        then .idle else s.frost.ownClaim } := by
  unfold claimGone
  split <;> rfl

theorem claimGone_frame (e : TxEntry) (s : State) : othersKept [.frost] s (claimGone e s) := by
  unfold claimGone
  split
  · exact withFrost_frame s _
  · exact othersKept_refl _ _

/-! ### A lost arbitration (R27, R34) -/

section
variable {e : TxEntry} {s : State}

theorem keepAfterArbitration_line (h : mutedLoss e s = false) : (keepAfterArbitration e s).line =
    { s.line with
      txq := if e.withdrawn then withoutClass e.cls s.line.txq
        else setEntry { e with onLine := false } s.line.txq } := by
  unfold keepAfterArbitration
  rw [h]
  split
  · rw [claimGone_line]
    rfl
  · rfl

theorem keepAfterArbitration_frost (h : mutedLoss e s = false) : (keepAfterArbitration e s).frost =
    { s.frost with
      ownClaim := if e.cls = .claim ∧ e.withdrawn = true ∧ s.frost.ownClaim = .queued ∧ s.line.replacement = none
        then .idle else s.frost.ownClaim } := by
  unfold keepAfterArbitration
  rw [h]
  split
  · exact claimGone_frost e _
  next hw => simp [hw]

theorem keepAfterArbitration_frame (h : mutedLoss e s = false) :
    othersKept [.line, .frost] s (keepAfterArbitration e s) := by
  unfold keepAfterArbitration
  rw [h]
  split
  · exact othersKept_within (withLine_frame s _) (claimGone_frame e _)
  · exact othersKept_mono (withLine_frame s _) (by decide)

/-- With no flush waiting on the queue a lost arbitration ends with the replacement. -/
theorem loseArbitration_of_sending (hp : s.line.phase = .sending) (he : onLineEntry s.line.txq = some e)
    (hm : mutedLoss e s = false) (hsetup : s.mode.setupFlush = none) (hrest : s.demand.flush = none) :
    loseArbitration s = takeReplacement (keepAfterArbitration e (withPhase .receiving s)) := by
  have left := (othersKept_append (withLine_frame s { s.line with phase := .receiving })
    (keepAfterArbitration_frame (s := withPhase .receiving s) (e := e) hm))
  have after := othersKept_append left (takeReplacement_frame _)
  simp only [loseArbitration, he, hp, if_true]
  exact settleFlush_of_no_flush _ (by rw [after .mode (by decide)]; exact hsetup)
    (by rw [after .demand (by decide)]; exact hrest)

end

/-- Settles O22. -/
theorem lostArbitrationKeepsTheEntry : Obligations.LostArbitrationKeepsTheEntry := by
  intro t s e hp he hm hsetup hrest
  have hm' : mutedLoss e (withPhase .receiving (advanceTo t s)) = false :=
    Bool.eq_false_iff.mpr fun h => hm (by simpa [mutedLoss] using h)
  refine ⟨finish (loseArbitration (advanceTo t s)), rfl, ?_⟩
  rw [loseArbitration_of_sending (s := advanceTo t s) (e := e) (by simpa using hp) (by simpa [onLineEntry] using he) hm'
    (by simpa using hsetup) (by simpa using hrest)]
  have line := takeReplacement_line (keepAfterArbitration e (withPhase .receiving (advanceTo t s)))
  rw [keepAfterArbitration_line hm'] at line
  have frost := (takeReplacement_frame (keepAfterArbitration e (withPhase .receiving (advanceTo t s)))
    .frost (by decide)).trans (keepAfterArbitration_frost hm')
  rw [finish_line, finish_frost, line, frost]
  refine ⟨rfl, ?_, rfl, ?_, ?_, finish_within (othersKept_append (withLine_frame _ _)
    (othersKept_append (keepAfterArbitration_frame hm') (takeReplacement_frame _)))⟩
  · simp only [withPhase, State.withLine_line, advanceTo_line]
    rfl
  · simp [withPhase]
  · simp [withPhase]

/-! ### A clean send (R29, R31, R110, R142) -/

/-- The state in which a clean send is reported: its entry gone, the line waiting for idle, the credit taken. -/
def sendEnded (e : TxEntry) (s : State) : State := creditLine (removeEntry e.cls (withPhase .busy s))

theorem sendEnded_frame (e : TxEntry) (s : State) : othersKept [.line] s (sendEnded e s) :=
  othersKept_trans (withLine_frame _ _) (othersKept_trans (withLine_frame _ _) (withLine_frame _ _))

theorem placeOwnClaim_frame (k : HalfNo) (severity : Nat) (start : Count) (s : State) :
    othersKept [.frost] s (placeOwnClaim k severity start s) := by
  unfold placeOwnClaim
  split
  · exact withFrost_frame s _
  · exact othersKept_refl _ _

section
variable {e : TxEntry} {s : State} (stamp : Count)

theorem reportSend_of_claim (h : e.cls = .claim) : othersKept [.frost] s (reportSend e stamp s) := by
  unfold reportSend
  split
  · exact placeOwnClaim_frame _ _ _ s
  · simp_all
  · simp_all
  · exact othersKept_refl _ _

theorem reportSend_of_announcement (h : e.cls = .phase ∨ e.cls = .change) :
    othersKept [.fan] s (reportSend e stamp s) := by
  unfold reportSend
  split
  · simp_all
  · split
    · exact withFan_frame s _
    · exact othersKept_refl _ _
  · split
    · exact withFan_frame s _
    · exact othersKept_refl _ _
  · exact othersKept_refl _ _

theorem reportSend_of_other (h : e.cls ≠ .phase ∧ e.cls ≠ .change ∧ e.cls ≠ .claim) : reportSend e stamp s = s := by
  unfold reportSend
  split <;> simp_all

theorem reportSend_frame (e : TxEntry) (s : State) : othersKept [.fan, .frost] s (reportSend e stamp s) := by
  by_cases hc : e.cls = .claim
  · exact othersKept_mono (reportSend_of_claim stamp hc) (by decide)
  · by_cases ha : e.cls = .phase ∨ e.cls = .change
    · exact othersKept_mono (reportSend_of_announcement stamp ha) (by decide)
    · rw [reportSend_of_other stamp ⟨fun h => ha (.inl h), fun h => ha (.inr h), hc⟩]
      exact othersKept_refl _ _

/-- A sent PHASE or CHANGE of the own half-cycle gives its fourth character as the CEIL reference (R110). -/
theorem reportSend_fan (h : e.cls = .phase ∨ e.cls = .change)
    (hlen : e.payload.length = 8 ∨ e.payload.length = 6) :
    (reportSend e stamp s).fan = { s.fan with
      ceilRef := if s.mode.mode = .run ∧ s.own.k = e.payload.head?
        then (e.payload[3]?).map BitVec.toNat else s.fan.ceilRef } := by
  obtain ⟨k, b, c, ceil, rest, payload⟩ : ∃ k b c ceil rest, e.payload = k :: b :: c :: ceil :: rest := by
    rcases hp : e.payload with _ | ⟨k, _ | ⟨b, _ | ⟨c, _ | ⟨ceil, rest⟩⟩⟩⟩
    all_goals simp [hp] at hlen
    exact ⟨k, b, c, ceil, rest, rfl⟩
  rcases h with h | h <;> simp only [reportSend, h, payload]
  all_goals
    by_cases hr : s.mode.mode = .run ∧ s.own.k = some k
    · simp [hr]
    · rw [if_neg hr]
      simp [hr]

end

/-- With no flush waiting on the queue a clean send ends with its report and the replacement. -/
theorem endCleanSend_of_sending {e : TxEntry} {s : State} (hp : s.line.phase = .sending)
    (he : onLineEntry s.line.txq = some e)
    (idle : s.mode.mode = .run ∨ (s.mode.setupFlush = none ∧ s.demand.flush = none)) :
    endCleanSend s = takeReplacement (reportSend e s.time.now (sendEnded e s)) := by
  have left := othersKept_append (sendEnded_frame e s) (reportSend_frame s.time.now e (sendEnded e s))
  have after := othersKept_append left (takeReplacement_frame _)
  have mode := after .mode (by decide)
  simp only [endCleanSend, he, hp, if_true]
  rcases idle with run | ⟨hsetup, hrest⟩
  · exact settleFlush_of_run _ ((congrArg ModeControl.mode mode).trans run)
  · exact settleFlush_of_no_flush _ ((congrArg ModeControl.setupFlush mode).trans hsetup)
      ((congrArg DemandUnit.flush (after .demand (by decide))).trans hrest)

theorem claimQualifies_of {s : State} {node : Nat} {k : HalfNo} {start i : Count} (run : s.mode.mode = .run)
    (hk : s.own.k = some k) (hi : s.own.instant = some i) (h0 : 0 ≤ Count.since start i)
    (h1 : Count.since start i < 10240) (hn : ∀ x ∈ s.frost.claims, x.node ≠ node) :
    claimQualifies s node k start = true := by
  simpa [claimQualifies, hi, run, hk, h0, claimWindowCounts, h1] using hn

/-- Settles O24: the send's report touches the fan for a PHASE or CHANGE, the frost guard for a CLAIM, and nothing for
another class. -/
theorem cleanSendsLeaveAndReport : Obligations.CleanSendsLeaveAndReport := by
  refine ⟨?everyClass, ?ownClaim⟩
  case everyClass =>
    intro t s e hp he hsetup hrest
    refine ⟨finish (endCleanSend (advanceTo t s)), rfl, ?_⟩
    rw [endCleanSend_of_sending (s := advanceTo t s) (e := e) (by simpa using hp) (by simpa [onLineEntry] using he)
      (.inr ⟨by simpa using hsetup, by simpa using hrest⟩)]
    have ended := sendEnded_frame e (advanceTo t s)
    have report := reportSend_frame (advanceTo t s).time.now e (sendEnded e (advanceTo t s))
    have replaced := takeReplacement_frame (reportSend e (advanceTo t s).time.now (sendEnded e (advanceTo t s)))
    have fan : (sendEnded e (advanceTo t s)).fan = s.fan := (ended .fan (by decide)).trans (advanceTo_fan t s)
    have frost : (sendEnded e (advanceTo t s)).frost = s.frost := (ended .frost (by decide)).trans (advanceTo_frost t s)
    refine ⟨?_, fun hann hlen => ?_, fun hann => ?_, fun hclaim => ?_, fun hother => ?_,
      finish_within (othersKept_append ended (othersKept_append report replaced))⟩
    · rw [finish_line, takeReplacement_line, report .line (by decide)]
      simp only [sendEnded, creditLine, removeEntry, withPhase, State.withLine_line, advanceTo_line]
      rfl
    · have mode : (sendEnded e (advanceTo t s)).mode = s.mode := (ended .mode (by decide)).trans (advanceTo_mode t s)
      have own : (sendEnded e (advanceTo t s)).own = s.own := (ended .own (by decide)).trans (advanceTo_own t s)
      rw [finish_fan, replaced .fan (by decide), reportSend_fan _ hann hlen, fan, mode, own]
    · exact (replaced .frost (by decide)).trans
        ((reportSend_of_announcement _ hann .frost (by decide)).trans frost)
    · exact (replaced .fan (by decide)).trans ((reportSend_of_claim _ hclaim .fan (by decide)).trans fan)
    · rw [reportSend_of_other _ hother] at replaced
      rw [reportSend_of_other _ hother]
      exact ⟨(replaced .fan (by decide)).trans fan, (replaced .frost (by decide)).trans frost⟩
  case ownClaim =>
    intro t s e k severity i hp he hcls hpayload run hk hi h0 h1 hn
    refine ⟨finish (endCleanSend (advanceTo t s)), rfl, ?_⟩
    rw [endCleanSend_of_sending (s := advanceTo t s) (e := e) (by simpa using hp) (by simpa [onLineEntry] using he)
      (.inl (by simpa using run))]
    have ended := sendEnded_frame e (advanceTo t s)
    have own : (sendEnded e (advanceTo t s)).own = s.own := (ended .own (by decide)).trans (advanceTo_own t s)
    have frost : (sendEnded e (advanceTo t s)).frost = s.frost := (ended .frost (by decide)).trans (advanceTo_frost t s)
    have mode : (sendEnded e (advanceTo t s)).mode = s.mode := (ended .mode (by decide)).trans (advanceTo_mode t s)
    have pass : (sendEnded e (advanceTo t s)).pass = s.pass := (ended .pass (by decide)).trans (advanceTo_pass t s)
    have qualifies : claimQualifies (sendEnded e (advanceTo t s)) (sendEnded e (advanceTo t s)).own.node k
        (Count.earlier (advanceTo t s).time.now 5) = true :=
      claimQualifies_of (by rw [mode, run]) (by rw [own, hk]) (by rw [own, hi]) h0 h1 (by rw [frost, own]; exact hn)
    have report : reportSend e (advanceTo t s).time.now (sendEnded e (advanceTo t s)) =
        placeOwnClaim k severity.toNat (Count.earlier (advanceTo t s).time.now 5) (sendEnded e (advanceTo t s)) := by
      simp only [reportSend, hcls, hpayload]
      rfl
    rw [finish_frost, takeReplacement_frame _ .frost (by decide), report, placeOwnClaim, if_pos qualifies]
    simp only [State.withFrost_frost, placeClaim, claimPosition, freeSlots, own, frost, pass, hi, Option.getD_some]
    exact ⟨insertOrd_perm _ _ _, trivial, fun hstage => if_pos hstage, trivial, trivial⟩

end Sys2Proof.Laws
end

section
/-! ## Line faults and the acceptance of notices (R31, R32, R39 to R42) -/

namespace Sys2Proof.Laws

open Sys2Proof.Machine Sys2Proof.Safety

/-! ### The charge in each line state (R39 to R42) -/

section
variable {s : State}

theorem lineState_open (h : s.line.faultCount < 32) : lineState s = .openLine := by simp [lineState, lineStateOf, h]

theorem lineState_muted (h : 32 ≤ s.line.faultCount) (h' : s.line.faultCount < 64) : lineState s = .muted := by
  have : ¬ s.line.faultCount < 32 := by omega
  simp [lineState, lineStateOf, this, h']

theorem lineState_cutOff (h : 64 ≤ s.line.faultCount) : lineState s = .cutOff := by
  have h1 : ¬ s.line.faultCount < 32 := by omega
  have h2 : ¬ s.line.faultCount < 64 := by omega
  simp [lineState, lineStateOf, h1, h2]

@[simp] theorem addCharge_line (s : State) :
    (addCharge s).line = { s.line with faultCount := min (s.line.faultCount + 4) 64 } := rfl

/-- A charge that crosses 32 enters MUTED (R40). -/
theorem chargeLine_enters_muted (h : s.line.faultCount < 32) (h' : 32 ≤ s.line.faultCount + 4) :
    chargeLine s = enterMuted (addCharge s) := by
  have before := lineState_open h
  have after : lineState (addCharge s) = .muted :=
    lineState_muted (by rw [addCharge_line]; dsimp only; omega) (by rw [addCharge_line]; dsimp only; omega)
  rw [addCharge] at after
  simp only [chargeLine, before, after]
  rfl

/-- A charge that crosses 64 enters CUT OFF (R41). -/
theorem chargeLine_enters_cutOff (h : s.line.faultCount < 64) (h' : 64 ≤ s.line.faultCount + 4) :
    chargeLine s = enterCutOff (addCharge s) := by
  have before := lineState_muted (s := s) (by omega) h
  have after : lineState (addCharge s) = .cutOff := lineState_cutOff (by rw [addCharge_line]; dsimp only; omega)
  rw [addCharge] at after
  simp only [chargeLine, before, after]
  rfl

/-- In CUT OFF a charge moves nothing but the count. -/
theorem chargeLine_in_cutOff (h : 64 ≤ s.line.faultCount) : chargeLine s = addCharge s := by
  have before := lineState_cutOff h
  simp only [chargeLine, before]
  rfl

end

/-! ### Entry to MUTED and to CUT OFF (R40, R41) -/

theorem mutedClass_eq (c : NoticeClass) :
    mutedClass c = (decide (c = .status) || decide (c = .house) || decide (c = .reply)) := by cases c <;> rfl

/-- The entries that MUTED removes: of a muted class, and not on the line (R40). -/
def mutedOff (x : TxEntry) : Bool := (x.cls = .status || x.cls = .house || x.cls = .reply) && !x.onLine

theorem enterMuted_line (s : State) : (enterMuted s).line = { s.line with
    txq := s.line.txq.filter fun x => !mutedOff x
    replacement := s.line.replacement.filter fun x => !(x.cls = .status || x.cls = .house || x.cls = .reply)
    drops := min (s.line.drops + (s.line.txq.filter mutedOff).length
      + (s.line.replacement.toList.filter fun x => x.cls = .status || x.cls = .house || x.cls = .reply).length) 255 } := by
  have lost : s.line.replacement.toList.length - (s.line.replacement.filter fun x => !mutedClass x.cls).toList.length =
      (s.line.replacement.toList.filter fun x => mutedClass x.cls).length := by
    cases s.line.replacement with
    | none => rfl
    | some r => cases h : mutedClass r.cls <;> simp [Option.filter, h]
  simp only [enterMuted, countDrops, State.withLine_line, lost]
  simp only [mutedClass_eq, Nat.add_assoc]
  rfl

theorem enterCutOff_line (s : State) : (enterCutOff s).line = { s.line with
    txq := [], replacement := none, cutOff := some (Count.later s.time.now 30720)
    drops := min (s.line.drops + s.line.txq.length + s.line.replacement.toList.length) 255 } := by
  simp [enterCutOff, countDrops, cutOffCounts, Nat.add_assoc]

/-! ### A stuck line (R42, R176) -/

theorem withPhase_frame (p : LinePhase) (s : State) : othersKept [.line] s (withPhase p s) := withLine_frame s _

/-- The state that a stuck line charges: an idle line is no longer idle. -/
def stuck (s : State) : State := withPhase (if s.line.phase = .idle then .busy else s.line.phase) s

theorem stuck_eq (s : State) : (if s.line.phase = .idle then withPhase .busy s else s) = stuck s := by
  unfold stuck
  split <;> rfl

theorem chargeStuckLine_of {s : State} (hs : s.line.sampling = true) (hp : s.line.phase ≠ .sending)
    (hi : invalidStart s = false) (hsetup : s.mode.setupFlush = none) (hrest : s.demand.flush = none) :
    chargeStuckLine s = chargeLine (stuck s) := by
  have kept := othersKept_append (withLine_frame s _) (chargeLine_frame (stuck s))
  rw [chargeStuckLine, if_pos ⟨hs, hp, hi⟩, stuck_eq]
  exact settleFlush_of_no_flush _ ((congrArg ModeControl.setupFlush (kept .mode (by decide))).trans hsetup)
    ((congrArg DemandUnit.flush (kept .demand (by decide))).trans hrest)

theorem invalidStart_eq_false {s : State} (h : ¬ (s.mode.mode = .start ∧ s.mode.strapInvalid = true)) :
    invalidStart s = false := by
  cases hs : s.mode.strapInvalid <;> simp_all [invalidStart]

/-! ### An error that crosses a limit (R28, R33, R40, R41) -/

section
variable {e : TxEntry} {s : State}

/-- With no flush waiting on the queue a failed send ends with the replacement. -/
theorem failSend_of_no_flush (hp : s.line.phase = .sending) (he : onLineEntry s.line.txq = some e)
    (hw : e.withdrawn = false) (hsetup : s.mode.setupFlush = none) (hrest : s.demand.flush = none) :
    failSend s = takeReplacement (keepAfterError e (chargeLine (withPhase .busy s))) := by
  have keep (x : State) : othersKept [.line] x (keepAfterError e x) := by
    unfold keepAfterError
    split
    · exact othersKept_refl _ _
    · split
      · exact othersKept_trans (withLine_frame x _) (withLine_frame _ _)
      · exact withLine_frame x _
  have kept := othersKept_append (othersKept_append (withLine_frame s _) (chargeLine_frame (withPhase .busy s)))
    (othersKept_append (keep (chargeLine (withPhase .busy s))) (takeReplacement_frame _))
  rw [failSend_of_sending hp he]
  simp only [failEntry, hw, Bool.false_eq_true, if_false]
  exact settleFlush_of_no_flush _ ((congrArg ModeControl.setupFlush (kept .mode (by decide))).trans hsetup)
    ((congrArg DemandUnit.flush (kept .demand (by decide))).trans hrest)

theorem keepAfterError_of_gone (h : s.line.txq = []) : keepAfterError e s = s := by
  simp [keepAfterError, entryOf, h]

/-- In MUTED the entry of a muted class goes, any other is offered again or dropped at its third error (R33, R40). -/
theorem keepAfterError_in_muted (hmem : e ∈ s.line.txq) (hm : lineState s = .muted) :
    keepAfterError e s = if (e.cls = .status ∨ e.cls = .house ∨ e.cls = .reply) ∨ 2 ≤ e.attempts then
        countDrops 1 (removeEntry e.cls s)
      else s.withLine { s.line with
        txq := setEntry { e with onLine := false, attempts := e.attempts + 1 } s.line.txq } := by
  obtain ⟨old, hold⟩ := entryOf_of_mem hmem
  have muted : mutedLoss e s = true ↔ e.cls = .status ∨ e.cls = .house ∨ e.cls = .reply := by
    simp [mutedLoss, hm, mutedClass_eq, or_assoc]
  simp only [keepAfterError, hold, muted, show (3 ≤ e.attempts + 1) = (2 ≤ e.attempts) by simp]

end

/-- Of the muted classes MUTED leaves only what is on the line (R40). -/
theorem onLine_of_left {x : TxEntry} {q : List TxEntry} (h : x ∈ q.filter fun x => !mutedOff x)
    (hc : x.cls = .status ∨ x.cls = .house ∨ x.cls = .reply) : x.onLine = true := by
  have left := (List.mem_filter.mp h).2
  rcases hc with hc | hc | hc <;> simpa [mutedOff, hc] using left

/-- Settles O25, from the charge in each line state and what an error makes of the entry on the line. -/
theorem lineFaultLimitsActAtOnce : Obligations.LineFaultLimitsActAtOnce := by
  refine ⟨?stuckLine, ?invalidStart, ?errorToCutOff, ?errorToMuted, ?cutOffEnds⟩
  case stuckLine =>
    intro t s hs hp hi _ hsetup hrest
    refine ⟨finish (chargeStuckLine (advanceTo t s)), rfl, ?_⟩
    rw [chargeStuckLine_of (by simpa using hs) (by simpa using hp)
      (invalidStart_eq_false (by simpa using hi)) (by simpa using hsetup) (by simpa using hrest)]
    have line : (stuck (advanceTo t s)).line =
        { s.line with phase := if s.line.phase = .idle then .busy else s.line.phase } := by simp [stuck, withPhase]
    have now : (stuck (advanceTo t s)).time.now = (advanceTo t s).time.now := rfl
    refine ⟨?_, fun below => ?_, fun ⟨lt, ge⟩ => ?_, fun ⟨lt, ge⟩ => ?_, fun eq => ?_,
      finish_within (othersKept_append (withLine_frame _ _) (chargeLine_frame _))⟩
    · rw [finish_line, chargeLine_faultCount, line]
    · rw [finish_line, chargeLine_of_open _ (by rw [line]; exact below), State.withLine_line, line]
    · rw [finish_line, chargeLine_enters_muted (by rw [line]; exact lt) (by rw [line]; exact ge), enterMuted_line,
        addCharge_line, line]
      exact ⟨rfl, rfl, rfl⟩
    · rw [finish_line, chargeLine_enters_cutOff (by rw [line]; exact lt) (by rw [line]; exact ge), enterCutOff_line,
        addCharge_line, line]
      exact ⟨rfl, rfl, rfl, rfl⟩
    · rw [finish_line, chargeLine_in_cutOff (by rw [line]; exact Nat.le_of_eq eq.symm), addCharge_line, line]
  case invalidStart =>
    intro t s hm hi
    have held : chargeStuckLine (advanceTo t s) = advanceTo t s := by simp [chargeStuckLine, invalidStart, hm, hi]
    refine ⟨finish (chargeStuckLine (advanceTo t s)), rfl, ?_⟩
    rw [held]
    exact ⟨advanceTo_line t s, finish_frame _⟩
  case errorToCutOff =>
    intro t s e hp he lt ge hw hsetup hrest
    refine ⟨finish (failSend (advanceTo t s)), rfl, ?_⟩
    have crosses : chargeLine (withPhase .busy (advanceTo t s)) =
        enterCutOff (addCharge (withPhase .busy (advanceTo t s))) :=
      chargeLine_enters_cutOff (by simpa [withPhase] using lt) (by simpa [withPhase] using ge)
    have count : min (s.line.faultCount + 4) 64 = 64 := by omega
    rw [failSend_of_no_flush (s := advanceTo t s) (e := e) (by simpa using hp) (by simpa [onLineEntry] using he) hw
      (by simpa using hsetup) (by simpa using hrest), crosses,
      keepAfterError_of_gone (by rw [enterCutOff_line]), takeReplacement_of_none _ (by rw [enterCutOff_line])]
    refine ⟨?_, ?_, ?_, ?_, ?_, finish_within (othersKept_append (withLine_frame _ _)
      (othersKept_append (withLine_frame _ _) (enterCutOff_frame _)))⟩
    all_goals rw [finish_line, enterCutOff_line]
    · simp [withPhase, count]
    · simp [addCharge, withPhase]
    · simp [withPhase]
  case errorToMuted =>
    intro t s e hp he lt ge hw hr hsetup hrest
    obtain ⟨hmem, hon⟩ := onLineEntry_some he
    have busy : (withPhase .busy (advanceTo t s)).line = { s.line with phase := .busy } := by simp [withPhase]
    have entered : chargeLine (withPhase .busy (advanceTo t s)) =
        enterMuted (addCharge (withPhase .busy (advanceTo t s))) :=
      chargeLine_enters_muted (by rw [busy]; exact lt) (by rw [busy]; exact ge)
    have count : min (s.line.faultCount + 4) 64 = s.line.faultCount + 4 := by omega
    have line := enterMuted_line (addCharge (withPhase .busy (advanceTo t s)))
    rw [addCharge_line, busy] at line
    simp only [hr, count] at line
    have frame := othersKept_append (withPhase_frame .busy (advanceTo t s))
      (chargeLine_frame (withPhase .busy (advanceTo t s)))
    rw [entered] at frame
    refine ⟨finish (failSend (advanceTo t s)), rfl, ?_⟩
    rw [failSend_of_no_flush (s := advanceTo t s) (e := e) (by simpa using hp) (by simpa [onLineEntry] using he) hw
      (by simpa using hsetup) (by simpa using hrest), entered]
    generalize enterMuted (addCharge (withPhase .busy (advanceTo t s))) = m at line frame
    have stays : e ∈ m.line.txq := by rw [line]; exact List.mem_filter.mpr ⟨hmem, by simp [mutedOff, hon]⟩
    rw [keepAfterError_in_muted stays (lineState_muted (by rw [line]; exact ge) (by rw [line]; dsimp only; omega))]
    split
    next gone =>
      have none_left : (countDrops 1 (removeEntry e.cls m)).line.replacement = none := by
        simp [countDrops, removeEntry, line]
      rw [takeReplacement_of_none _ none_left, finish_line]
      refine ⟨?_, ?_, fun x hx hcls => ?_, ?_,
        finish_within (othersKept_append frame (othersKept_append (withLine_frame _ _) (withLine_frame _ _)))⟩
      · simp [countDrops, removeEntry, line]
      · simp [countDrops, removeEntry, line]
      · obtain ⟨hx, other⟩ := mem_withoutClass.mp hx
        exact ⟨onLine_of_left (line ▸ hx) hcls, other⟩
      · rw [if_pos (by simpa [or_assoc] using gone)]
        simp only [countDrops, removeEntry, State.withLine_line, line]
        have off : (s.line.txq.filter fun x => (x.cls = .status || x.cls = .house || x.cls = .reply) && !x.onLine) =
          s.line.txq.filter mutedOff := rfl
        simp only [off, Option.toList_none, List.filter_nil, List.length_nil]
        omega
    next kept =>
      have none_left : (m.withLine { m.line with
          txq := setEntry { e with onLine := false, attempts := e.attempts + 1 } m.line.txq }).line.replacement =
          none := by simp [line]
      rw [takeReplacement_of_none _ none_left, finish_line]
      refine ⟨?_, ?_, fun x hx hcls => ?_, ?_, finish_within (othersKept_append frame (withLine_frame _ _))⟩
      · simp [line]
      · simp [line]
      · have other : x.cls ≠ e.cls := fun h => kept (.inl (h ▸ hcls))
        obtain ⟨y, hy, rfl⟩ := List.mem_map.mp hx
        split at other
        · exact absurd rfl other
        next hne =>
          rw [if_neg hne] at hcls ⊢
          exact ⟨onLine_of_left (line ▸ hy) hcls, other⟩
      · rw [if_neg (by simpa [or_assoc] using kept)]
        simp only [State.withLine_line, line, Option.toList_none, List.filter_nil, List.length_nil, Nat.add_zero]
        rfl
  case cutOffEnds =>
    intro s i hi
    have ends : endCutOff s = (advanceTo i s).withLine { s.line with cutOff := none, faultCount := 0 } := by
      simp [endCutOff, hi]
    refine ⟨finish (endCutOff s), rfl, ?_⟩
    rw [ends]
    exact ⟨rfl, lineState_open (by simp), finish_within (withLine_frame _ _)⟩

/-! ### The acceptance of a notice (R31, R32) -/

theorem queueNotice_open {s : State} (e : TxEntry) (h : s.line.faultCount < 32) :
    queueNotice e s = s.withLine (acceptNotice e s.line) := by
  rw [queueNotice, lineState_open h]

theorem queueNotice_cutOff {s : State} (e : TxEntry) (h : 64 ≤ s.line.faultCount) : queueNotice e s = s := by
  rw [queueNotice, lineState_cutOff h]

theorem queueNotice_muted {s : State} {e : TxEntry} (h : 32 ≤ s.line.faultCount) (h' : s.line.faultCount < 64)
    (hc : e.cls = .status ∨ e.cls = .house ∨ e.cls = .reply) : queueNotice e s = countDrops 1 s := by
  have muted : mutedClass e.cls = true := by simpa [mutedClass_eq, or_assoc] using hc
  rw [queueNotice, lineState_muted h h']
  exact if_pos muted

section
variable {e : TxEntry} {l : LineControl}

theorem acceptNotice_waits {old : TxEntry} (h : entryOf e.cls l.txq = some old) (on : old.onLine = true) :
    acceptNotice e l = { l with replacement := some e } := by
  simp [acceptNotice, h, on]

theorem acceptNotice_supersedes {old : TxEntry} (h : entryOf e.cls l.txq = some old) (off : old.onLine = false) :
    acceptNotice e l = { l with txq := placeEntry e (withoutClass e.cls l.txq) } := by
  simp [acceptNotice, h, off]

theorem acceptNotice_free (h : entryOf e.cls l.txq = none) (room : l.txq.length < 4) :
    acceptNotice e l = { l with txq := placeEntry e l.txq } := by
  simp [acceptNotice, h, room]

theorem acceptNotice_full {top : TxEntry} (h : entryOf e.cls l.txq = none) (full : 4 ≤ l.txq.length)
    (last : lastOffLine l.txq = some top) : acceptNotice e l = { l with
      drops := min (l.drops + 1) 255
      txq := if e.rank < top.rank then placeEntry e (withoutClass top.cls l.txq) else l.txq } := by
  have : ¬ l.txq.length < 4 := by omega
  simp only [acceptNotice, h, this, last, if_false, bump]
  split <;> rfl

end

theorem statusTimerEnds_of_run {s : State} {i : Count} (hr : s.mode.mode = .run) (hi : s.rev.statusTimer = some i) :
    statusTimerEnds s = queueStatus ((advanceTo i s).withRev { s.rev with statusTimer := none }) := by
  simp [statusTimerEnds, hi, hr]

/-- The line block after a notice is queued follows from the notice and the line block before. -/
theorem queueNotice_line_congr {s s' : State} (e : TxEntry) (h : s'.line = s.line) :
    (queueNotice e s').line = (queueNotice e s).line := by
  have state : lineState s' = lineState s := by rw [lineState, h]; rfl
  unfold queueNotice countDrops
  rw [state]
  split
  · exact h
  · split <;> simp [h]
  · simp [h]

/-- Settles O26. -/
theorem noticesQueueBySupersession : Obligations.NoticesQueueBySupersession := by
  refine ⟨fun e s open_ => ⟨fun old h on => ?_, fun old h off => ?_, fun h room => ?_, fun h full top last => ?_⟩,
    fun e s h h' hc => queueNotice_muted h h' hc, fun e s h => queueNotice_cutOff e h, fun s i hr hi => ?_⟩
  · rw [queueNotice_open e open_, acceptNotice_waits h on]
  · rw [queueNotice_open e open_, acceptNotice_supersedes h off]
  · rw [queueNotice_open e open_, acceptNotice_free h room]
  · rw [queueNotice_open e open_, acceptNotice_full h full last]
  · refine ⟨finish (statusTimerEnds s), rfl, ?_⟩
    rw [statusTimerEnds_of_run hr hi, queueStatus]
    refine ⟨?_, queueNotice_frame _ _ .rev (by decide),
      finish_within (othersKept_append (withRev_frame _ _) (queueNotice_frame _ _))⟩
    have own : ((advanceTo i s).withRev { s.rev with statusTimer := none }).own = s.own := by simp
    rw [finish_line, own]
    exact queueNotice_line_congr _ (by simp)

end Sys2Proof.Laws
end

section
/-! ## Notices: a frame is taken, applied, counted or passed over (R10 to R18, R45, R61 to R63, R85, R141) -/

namespace Sys2Proof.Laws

open Sys2Proof.Machine Sys2Proof.Safety

/-! ### What a decoded notice says of its frame (R43, R45) -/

/-- The class that carries a notice. -/
def noticeClass : Notice → NoticeClass
  | .change _ => .change
  | .claim _ _ => .claim
  | .phase _ _ => .phase
  | .house _ => .house
  | .status _ _ => .status
  | .request _ _ _ => .request

/-- A decoded notice stands in a frame of its class, with the payload size of that class. -/
theorem decode_class {f : RxFrame} {n : Notice} (h : decodeNotice f = some n) :
    f.cls = some (noticeClass n) ∧ f.payload.length = payloadSize (noticeClass n) := by
  unfold decodeNotice at h
  split at h
  next hc hp =>
    split at h
    · obtain ⟨a, -, rfl⟩ := Option.map_eq_some_iff.mp h
      exact ⟨hc, by rw [hp]; rfl⟩
    · cases h
  next hc hp =>
    split at h
    · cases h
      exact ⟨hc, by rw [hp]; rfl⟩
    · cases h
  next hc hp =>
    split at h
    · obtain ⟨a, -, rfl⟩ := Option.map_eq_some_iff.mp h
      exact ⟨hc, by rw [hp]; rfl⟩
    · cases h
  next hc hp =>
    split at h
    · split at h
      · cases h
        exact ⟨hc, by rw [hp]; rfl⟩
      · cases h
    · cases h
  next hc hp =>
    split at h
    · cases h
      exact ⟨hc, by rw [hp]; rfl⟩
    · cases h
  next hc hp =>
    split at h
    · obtain ⟨a, -, rfl⟩ := Option.map_eq_some_iff.mp h
      exact ⟨hc, by rw [hp]; rfl⟩
    · cases h
  next => cases h

/-! ### Taking a frame (R36, R45) -/

/-- The state after the oldest frame has left the receive queue. -/
def frameTaken (rest : List RxFrame) (s : State) : State := s.withLine { s.line with rxq := rest }

section
variable {cls : NoticeClass} {accepts : Notice → Bool} {apply : RxFrame → Notice → State → State} {s : State}
  {f : RxFrame} {rest : List RxFrame}

theorem takeNotice_of_notice {n : Notice} (free : tableHeld s = false) (front : s.line.rxq = f :: rest)
    (decoded : decodeNotice f = some n) (class_ : noticeClass n = cls) (applies : modeDiscards s.mode.mode cls = false)
    (accepted : accepts n = true) : takeNotice cls accepts apply s = apply f n (frameTaken rest s) := by
  have hc : f.cls = some cls := class_ ▸ (decode_class decoded).1
  simp [takeNotice, frameTaken, free, front, hc, applies, decoded, accepted]

theorem takeNotice_of_error (free : tableHeld s = false) (front : s.line.rxq = f :: rest) (hc : f.cls = some cls)
    (bad : decodeNotice f = none) (applies : modeDiscards s.mode.mode cls = false) :
    takeNotice cls accepts apply s = countRxFault (frameTaken rest s) := by
  simp [takeNotice, frameTaken, free, front, hc, applies, bad]

theorem takeNotice_of_discarded (free : tableHeld s = false) (front : s.line.rxq = f :: rest) (hc : f.cls = some cls)
    (discards : modeDiscards s.mode.mode cls = true) : takeNotice cls accepts apply s = frameTaken rest s := by
  simp [takeNotice, frameTaken, free, front, hc, discards]

end

theorem frameTaken_frame (rest : List RxFrame) (s : State) : othersKept [.line] s (frameTaken rest s) :=
  withLine_frame s _

@[simp] theorem tableHeld_advanceTo (t : Count) (s : State) : tableHeld (advanceTo t s) = tableHeld s := by
  simp [tableHeld]

/-! ### Malformed and unapplied frames (R10, R45) -/

/-- What a command that takes a malformed frame leaves behind. -/
theorem error_counted {cls : NoticeClass} {accepts : Notice → Bool} {apply : RxFrame → Notice → State → State}
    {t : Count} {s : State} {f : RxFrame} {rest : List RxFrame} (free : tableHeld s = false)
    (front : s.line.rxq = f :: rest) (hc : f.cls = some cls) (bad : decodeNotice f = none)
    (applies : modeDiscards s.mode.mode cls = false) :
    (finish (takeNotice cls accepts apply (advanceTo t s))).line =
      { s.line with rxq := rest, rxFaults := min (s.line.rxFaults + 1) 255 } ∧
    othersKept [.line, .cond] (advanceTo t s) (finish (takeNotice cls accepts apply (advanceTo t s))) := by
  rw [takeNotice_of_error (s := advanceTo t s) (by simpa using free) (by simpa using front) hc bad
    (by simpa using applies)]
  exact ⟨by simp [countRxFault, frameTaken, bump],
    finish_within (othersKept_append (frameTaken_frame _ _) (withLine_frame _ _))⟩

/-- What a command that takes a frame of no use in its mode leaves behind. -/
theorem discarded_taken {cls : NoticeClass} {accepts : Notice → Bool} {apply : RxFrame → Notice → State → State}
    {t : Count} {s : State} {f : RxFrame} {rest : List RxFrame} (free : tableHeld s = false)
    (front : s.line.rxq = f :: rest) (hc : f.cls = some cls) (discards : modeDiscards s.mode.mode cls = true) :
    (finish (takeNotice cls accepts apply (advanceTo t s))).line = { s.line with rxq := rest } ∧
    othersKept [.line, .cond] (advanceTo t s) (finish (takeNotice cls accepts apply (advanceTo t s))) := by
  rw [takeNotice_of_discarded (s := advanceTo t s) (by simpa using free) (by simpa using front) hc
    (by simpa using discards)]
  exact ⟨by simp [frameTaken], finish_within (frameTaken_frame _ _)⟩

/-- Settles O33: each of the commands takes its frame alike. -/
theorem malformedFramesAreCounted : Obligations.MalformedFramesAreCounted := by
  refine ⟨?_, ?_, ?_, ?_, ?_, ?_, ?_, ?_, ?_, ?_, ?_, ?_⟩
  iterate 8
    exact fun t s f rest free front hc bad applies => ⟨_, rfl, error_counted free front hc bad applies⟩
  iterate 3
    exact fun t s f rest free front hc mode => ⟨_, rfl, discarded_taken free front hc (by simpa [modeDiscards] using mode)⟩
  exact fun t s f rest free front hc mode => ⟨_, rfl, discarded_taken free front hc (by simpa [modeDiscards] using mode)⟩

end Sys2Proof.Laws
end

section
/-! ## Notices of the other stations: PHASE, LEAVE, CHANGE, STATUS, CLAIM (R12 to R18, R61 to R63, R85, R86, R141) -/

namespace Sys2Proof.Laws

open Sys2Proof.Machine Sys2Proof.Safety

/-! ### The re-pass trigger (R85, R86) -/

/-- The pass state after a request (R86). -/
def awaited : PassState → PassState
  | .idle => .waiting
  | .waiting => .waiting
  | .running => .runningOneMore
  | .runningOneMore => .runningOneMore

theorem awaited_ne_idle (p : PassState) : awaited p ≠ .idle := by cases p <;> simp [awaited]

/-- A pass is requested, or not: the pass and the calculation unit of `u` follow from those of `s` (R86). -/
def passAsked (again : Bool) (s u : State) : Prop :=
  u.pass = { s.pass with state := if again then awaited s.pass.state else s.pass.state } ∧
    u.unit = { s.unit with waitPass := s.unit.waitPass || (again && decide (s.pass.state = .idle)) }

theorem requestPass_asked (s : State) : passAsked true s (requestPass s) := by
  unfold requestPass passAsked
  split
  next h => simp [h, awaited]
  next h =>
    have same : awaited s.pass.state = s.pass.state := by rw [h]; rfl
    exact ⟨by rw [same]; rfl, by simp [h]⟩
  next h => simp [h, awaited]
  next h =>
    have same : awaited s.pass.state = s.pass.state := by rw [h]; rfl
    exact ⟨by rw [same]; rfl, by simp [h]⟩

theorem passAsked_refl (s : State) : passAsked false s s := by simp [passAsked]

/-- A trigger under a condition asks for a pass in RUN after the gather window, where the condition holds (R85). -/
theorem triggerIf_asked {p : Prop} [Decidable p] {s : State} {again : Bool}
    (h : again = true ↔ s.mode.mode = .run ∧ s.rev.gather = none ∧ p) :
    passAsked again s (if p then trigger s else s) := by
  cases again with
  | true =>
    obtain ⟨run, closed, hp⟩ := h.mp rfl
    rw [if_pos hp, trigger, if_pos ⟨run, closed⟩]
    exact requestPass_asked s
  | false =>
    split
    next hp =>
      rw [trigger, if_neg fun ⟨run, closed⟩ => Bool.false_ne_true (h.mpr ⟨run, closed, hp⟩)]
      exact passAsked_refl s
    next => exact passAsked_refl s

theorem triggerIf_frame (p : Prop) [Decidable p] (s : State) :
    othersKept [.pass, .unit] s (if p then trigger s else s) := by
  split
  · exact trigger_frame s
  · exact othersKept_refl _ _

/-- What is asked of a state is asked of one with the same pass and unit. -/
theorem passAsked.of_eq {again : Bool} {s s' u : State} (h : passAsked again s' u) (hp : s'.pass = s.pass)
    (hu : s'.unit = s.unit) : passAsked again s u := by
  rw [passAsked, hp, hu] at h
  exact h

theorem passAsked.of_true {s u : State} (h : passAsked true s u) : u.pass.state ≠ .idle := by
  rw [h.1]
  exact awaited_ne_idle _

theorem passAsked.of_false {s u : State} (h : passAsked false s u) : u.pass = s.pass ∧ u.unit = s.unit := by
  simpa [passAsked] using h

/-! ### Records (R9 to R13, R77) -/

theorem writePeer_frame (r : PeerRecord) (s : State) : othersKept [.peers] s (writePeer r s) := withPeers_frame s _

theorem writePeer_peerOf (r : PeerRecord) (s : State) : peerOf r.node (writePeer r s).peers.records = some r :=
  peerOf_putPeer r _

theorem writePeer_withoutPeer (r : PeerRecord) (s : State) :
    withoutPeer r.node (writePeer r s).peers.records = withoutPeer r.node s.peers.records := withoutPeer_putPeer r _

theorem recordFor_node (s : State) (node : Nat) : (recordFor s node).node = node := by
  unfold recordFor
  cases h : peerOf node s.peers.records with
  | none => rfl
  | some r => simpa using List.find?_some (p := fun r : PeerRecord => decide (r.node = node)) h

theorem announce_node (a : Announcement) (agree : Bool) (r : PeerRecord) : (announce a agree r).node = r.node := rfl

theorem inCurrentPass_iff {s : State} {node : Nat} :
    inCurrentPass s node = true ↔ s.pass.current = true ∧ node ∈ s.pass.record.nodes := by
  simp [inCurrentPass]

/-- A record fresh from a PHASE or CHANGE takes part when it agrees, carries the own k and blows (R77). -/
theorem participantOf_announced {h : HalfNo} {a : Announcement} {agree : Bool} {r : PeerRecord} :
    (participantOf h (announce a agree r)).isSome = true ↔ agree = true ∧ a.k = h ∧ a.direction ≠ .halt := by
  cases hd : a.direction <;> cases agree <;> simp [participantOf, announce, sideOf, hd]

/-- The re-pass trigger of a notice that has written the record of its sender (R85). -/
theorem noticeTrigger_asked {s : State} {node : Nat} {a : Announcement} {agree again : Bool} {r : PeerRecord}
    (hr : peerOf node s.peers.records = some (announce a agree r))
    (h : again = true ↔ s.mode.mode = .run ∧ s.rev.gather = none ∧
      ((s.pass.current = true ∧ node ∈ s.pass.record.nodes) ∨
        (agree = true ∧ s.own.k = some a.k ∧ a.direction ≠ .halt))) : passAsked again s (noticeTrigger node s) := by
  have takes : takesPart s node = true ↔ agree = true ∧ s.own.k = some a.k ∧ a.direction ≠ .halt := by
    unfold takesPart
    cases hk : s.own.k with
    | none => simp
    | some h =>
      rw [hr]
      refine participantOf_announced.trans ?_
      simp [eq_comm]
  refine triggerIf_asked (h.trans ?_)
  rw [Bool.or_eq_true, inCurrentPass_iff, takes]

theorem noticeTrigger_frame (node : Nat) (s : State) : othersKept [.pass, .unit] s (noticeTrigger node s) :=
  triggerIf_frame _ s

/-! ### PHASE in RUN (R12, R61 to R63) -/

theorem recordFor_congr {s s' : State} (h : s'.peers = s.peers) (node : Nat) : recordFor s' node = recordFor s node := by
  rw [recordFor, recordFor, h]

/-- The reversal instant of a PHASE, whose frame lasts 12 counts (R12, R24). -/
theorem reversalInstant_phase {f : RxFrame} {a : Announcement} {delay : Nat} (h : f.payload.length = 8) :
    reversalInstant f a delay = Count.earlier (Count.earlier f.stamp 12) (if a.late then 4095 else delay) := by
  rw [reversalInstant, RxFrame.start, h]
  rfl

/-- The offset of a PHASE with a K_p in RUN, where k, the own reversal instant and the next reversal are set (R61). -/
def measuredOffset (s : State) (h : HalfNo) (i n : Count) (kp : HalfNo) (tr : Count) : Option Int :=
  if kp = h then some (Count.since tr i)
  else if kp = s.rev.pendingNumber.getD (h + 1) then some (Count.since tr n) else none

/-- An offset of at most L/4 in size agrees (R62). -/
def offsetWithin (s : State) (o : Option Int) : Bool := o.any fun v => decide (v.natAbs ≤ paramNat s 0 * 2560)

theorem phaseOffset_of {s : State} {h kp : HalfNo} {i n tr : Count} (hk : s.own.k = some h)
    (hi : s.own.instant = some i) (hn : s.rev.next = some n) :
    phaseOffset s kp tr = measuredOffset s h i n kp tr := by
  have next : nextNumber s = s.rev.pendingNumber.getD (h + 1) := by
    unfold nextNumber
    cases s.rev.pendingNumber <;> simp [hk]
  simp only [phaseOffset, hk, hi, hn, next, measuredOffset]

theorem offsetAgrees_eq (s : State) (o : Option Int) :
    offsetAgrees s o = offsetWithin s o := by
  cases o <;> rfl

/-- What a PHASE writes in RUN before the re-pass trigger: the record and the tally entry (R12, R62, R63). -/
def phaseMeasured (f : RxFrame) (a : Announcement) (tr : Count) (s : State) : State :=
  measurePhase f.node a tr (writePeer (announce a (tallyEntry s f.node a tr).agreeing (recordFor s f.node)) s)

theorem applyPhase_run {s : State} (f : RxFrame) (a : Announcement) (delay : Nat) (h : s.mode.mode = .run) :
    applyPhase f a delay s = noticeTrigger f.node (phaseMeasured f a (reversalInstant f a delay) s) := by
  simp only [applyPhase, h]
  rfl

theorem phaseMeasured_frame (f : RxFrame) (a : Announcement) (tr : Count) (s : State) :
    othersKept [.peers, .rev] s (phaseMeasured f a tr s) :=
  othersKept_append (writePeer_frame _ s) (withRev_frame _ _)

theorem phaseMeasured_peers (f : RxFrame) (a : Announcement) (tr : Count) (s : State) :
    peerOf f.node (phaseMeasured f a tr s).peers.records =
        some (announce a (tallyEntry s f.node a tr).agreeing (recordFor s f.node)) ∧
      withoutPeer f.node (phaseMeasured f a tr s).peers.records = withoutPeer f.node s.peers.records := by
  have node := recordFor_node s f.node
  have peer := writePeer_peerOf (announce a (tallyEntry s f.node a tr).agreeing (recordFor s f.node)) s
  have others := writePeer_withoutPeer (announce a (tallyEntry s f.node a tr).agreeing (recordFor s f.node)) s
  rw [announce_node, node] at peer others
  exact ⟨peer, others⟩

theorem phaseMeasured_rev (f : RxFrame) (a : Announcement) (tr : Count) (s : State) :
    (phaseMeasured f a tr s).rev =
      { s.rev with tally := withoutTally f.node s.rev.tally ++ [tallyEntry s f.node a tr] } := by
  simp only [phaseMeasured, measurePhase, State.withRev_rev]
  rfl

/-- Settles O27. -/
theorem phaseInRunIsMeasured : Obligations.PhaseInRunIsMeasured := by
  intro t s f rest a delay h i n free front decoded leaving run hk hi hn
  have tr : reversalInstant f a delay = Count.earlier (Count.earlier f.stamp 12) (if a.late then 4095 else delay) :=
    reversalInstant_phase (decode_class decoded).2
  refine ⟨finish (takeNotice .phase isPhase applyPhaseNotice (advanceTo t s)), rfl, ?_⟩
  rw [takeNotice_of_notice (cls := .phase) (s := advanceTo t s) (by simpa using free) (by simpa using front) decoded rfl
    (by simp [run, modeDiscards]) (by simp [isPhase, leaving]), applyPhaseNotice,
    applyPhase_run f a delay (by simp [frameTaken, run])]
  rw [tr]
  generalize Count.earlier (Count.earlier f.stamp 12) (if a.late then 4095 else delay) = tr
  have taken := frameTaken_frame rest (advanceTo t s)
  have own : (frameTaken rest (advanceTo t s)).own = s.own := by simp [frameTaken]
  have rev : (frameTaken rest (advanceTo t s)).rev = s.rev := by simp [frameTaken]
  have entry : tallyEntry (frameTaken rest (advanceTo t s)) f.node a tr =
      { node := f.node, kp := a.k, agreeing := offsetWithin s (measuredOffset s h i n a.k tr)
        offset := if offsetWithin s (measuredOffset s h i n a.k tr) = true ∧ a.quality = .crystal ∧ a.late = false
          then measuredOffset s h i n a.k tr else none
        tr := tr } := by
    have offset : measuredOffset (frameTaken rest (advanceTo t s)) h i n a.k tr = measuredOffset s h i n a.k tr := by
      rw [measuredOffset, rev]
      rfl
    have svc : (frameTaken rest (advanceTo t s)).svc = s.svc := by simp [frameTaken]
    have within (o : Option Int) : offsetWithin (frameTaken rest (advanceTo t s)) o = offsetWithin s o := by
      rw [offsetWithin, offsetWithin, paramNat, paramNat, param, param, svc]
    rw [tallyEntry, phaseOffset_of (by rw [own, hk]) (by rw [own, hi]) (by rw [rev, hn]), offsetAgrees_eq, within,
      offset]
  have measured := phaseMeasured_frame f a tr (frameTaken rest (advanceTo t s))
  obtain ⟨peer, others⟩ := phaseMeasured_peers f a tr (frameTaken rest (advanceTo t s))
  have tally := phaseMeasured_rev f a tr (frameTaken rest (advanceTo t s))
  rw [entry] at peer tally
  rw [recordFor_congr (by simp [frameTaken] : _ = s.peers)] at peer
  have trigger := noticeTrigger_frame f.node (phaseMeasured f a tr (frameTaken rest (advanceTo t s)))
  generalize phaseMeasured f a tr (frameTaken rest (advanceTo t s)) = v at *
  have before := othersKept_append taken measured
  have mode : v.mode = s.mode := (before .mode (by decide)).trans (by simp)
  have own' : v.own = s.own := (before .own (by decide)).trans (by simp)
  have pass : v.pass = s.pass := (before .pass (by decide)).trans (by simp)
  have unit : v.unit = s.unit := (before .unit (by decide)).trans (by simp)
  have gather : v.rev.gather = s.rev.gather := by rw [tally, rev]
  have asked (again : Bool) (h : again = true ↔ s.mode.mode = .run ∧ s.rev.gather = none ∧
      ((s.pass.current = true ∧ f.node ∈ s.pass.record.nodes) ∨
        (offsetWithin s (measuredOffset s h i n a.k tr) = true ∧ a.k = h ∧ a.direction ≠ .halt))) :
      passAsked again s (noticeTrigger f.node v) :=
    (noticeTrigger_asked peer (h.trans (by rw [mode, own', pass, gather, hk, Option.some_inj, eq_comm (a := a.k)])))
      |>.of_eq pass unit
  generalize noticeTrigger f.node v = u at *
  have line : u.line = { s.line with rxq := rest } :=
    ((trigger .line (by decide)).trans (measured .line (by decide))).trans (by simp [frameTaken])
  refine ⟨line, ?_, ?_, ?_, fun ⟨current, member, closed⟩ => ?_, fun opened => ?_, ?_,
    finish_within (othersKept_append before trigger)⟩
  · rw [finish_peers, trigger .peers (by decide)]
    exact peer
  · rw [finish_peers, trigger .peers (by decide), others]
    simp [frameTaken]
  · rw [finish_rev, trigger .rev (by decide), tally, rev]
    rfl
  · exact (asked true (by simp [run, closed, current, member])).of_true
  · have closed : s.rev.gather ≠ none := fun h => by simp [h] at opened
    exact (asked false (by simp [closed])).of_false
  · exact asked _ decide_eq_true_iff

end Sys2Proof.Laws
end

section
/-! ## Notices in JOIN and REST, LEAVE, CHANGE, STATUS, CLAIM and the house level (R12 to R18, R47, R69, R70, R157) -/

namespace Sys2Proof.Laws

open Sys2Proof.Machine Sys2Proof.Safety

/-! ### The state that a notice meets -/

section
variable (rest : List RxFrame) (t : Count) (s : State)

/-- The state that a notice is applied to: time has passed, and its frame is out of the receive queue. -/
def noticeState : State := frameTaken rest (advanceTo t s)

theorem noticeState_frame : othersKept [.line] (advanceTo t s) (noticeState rest t s) := frameTaken_frame rest _

@[simp] theorem noticeState_line : (noticeState rest t s).line = { s.line with rxq := rest } := by
  simp [noticeState, frameTaken]

@[simp] theorem noticeState_mode : (noticeState rest t s).mode = s.mode := by simp [noticeState, frameTaken]
@[simp] theorem noticeState_own : (noticeState rest t s).own = s.own := by simp [noticeState, frameTaken]
@[simp] theorem noticeState_peers : (noticeState rest t s).peers = s.peers := by simp [noticeState, frameTaken]
@[simp] theorem noticeState_rev : (noticeState rest t s).rev = s.rev := by simp [noticeState, frameTaken]
@[simp] theorem noticeState_time : (noticeState rest t s).time = (advanceTo t s).time := by
  simp [noticeState, frameTaken]
@[simp] theorem noticeState_unit : (noticeState rest t s).unit = s.unit := by simp [noticeState, frameTaken]
@[simp] theorem noticeState_pass : (noticeState rest t s).pass = s.pass := by simp [noticeState, frameTaken]
@[simp] theorem noticeState_fan : (noticeState rest t s).fan = s.fan := by simp [noticeState, frameTaken]
@[simp] theorem noticeState_clim : (noticeState rest t s).clim = s.clim := by simp [noticeState, frameTaken]
@[simp] theorem noticeState_frost : (noticeState rest t s).frost = s.frost := by simp [noticeState, frameTaken]
@[simp] theorem noticeState_demand : (noticeState rest t s).demand = s.demand := by simp [noticeState, frameTaken]
@[simp] theorem noticeState_filt : (noticeState rest t s).filt = s.filt := by simp [noticeState, frameTaken]
@[simp] theorem noticeState_svc : (noticeState rest t s).svc = s.svc := by simp [noticeState, frameTaken]

@[simp] theorem noticeState_recordFor (node : Nat) : recordFor (noticeState rest t s) node = recordFor s node :=
  recordFor_congr (by simp) node

end

/-- A command takes its notice at the instant of its operand. -/
theorem takeNotice_at (cls : NoticeClass) {accepts : Notice → Bool} {apply : RxFrame → Notice → State → State}
    {t : Count} {s : State} {f : RxFrame} {rest : List RxFrame} {n : Notice} (free : tableHeld s = false)
    (front : s.line.rxq = f :: rest) (decoded : decodeNotice f = some n) (class_ : noticeClass n = cls)
    (applies : modeDiscards s.mode.mode cls = false) (accepted : accepts n = true) :
    takeNotice cls accepts apply (advanceTo t s) = apply f n (noticeState rest t s) :=
  takeNotice_of_notice (by simpa using free) (by simpa using front) decoded class_ (by simpa using applies) accepted

/-! ### PHASE in JOIN and REST (R12, R18, R69, R70) -/

theorem hearPhase_frame (a : Announcement) (tr : Count) (s : State) : othersKept [.own, .rev] s (hearPhase a tr s) := by
  unfold hearPhase
  split
  · exact othersKept_refl _ _
  · split
    · exact othersKept_append (withOwn_frame s _) (withRev_frame _ _)
    · exact othersKept_mono (withRev_frame s _) (by decide)

theorem hearPhase_deaf {a : Announcement} {tr : Count} {s : State} (h : s.rev.listening = none) :
    hearPhase a tr s = s := by
  simp [hearPhase, h]

theorem hearPhase_entry {a : Announcement} {tr : Count} {s : State} (h : s.rev.listening.isSome = true)
    (good : a.quality = .crystal ∧ a.late = false) : hearPhase a tr s =
      (s.withOwn { s.own with k := some a.k }).withRev { s.rev with
        listening := none, lastHeard := none, next := some (Count.later tr (paramNat s 0 * 10240)) } := by
  have : s.rev.listening.isNone = false := by cases hl : s.rev.listening <;> simp_all
  simp [hearPhase, this, good, halfLength]

theorem hearPhase_remembers {a : Announcement} {tr : Count} {s : State} (h : s.rev.listening.isSome = true)
    (poor : a.quality = .coarse ∨ a.late = true) : hearPhase a tr s =
      s.withRev { s.rev with lastHeard := some { kp := a.k, tr := tr } } := by
  have : s.rev.listening.isNone = false := by cases hl : s.rev.listening <;> simp_all
  have : ¬ (a.quality = .crystal ∧ a.late = false) := by rcases poor with h | h <;> simp [h]
  simp [hearPhase, *]

/-- The record of a PHASE that is not measured: agree 0 (R18). -/
def phaseRecorded (f : RxFrame) (a : Announcement) (s : State) : State :=
  writePeer (announce a false (recordFor s f.node)) s

theorem phaseRecorded_peers (f : RxFrame) (a : Announcement) (s : State) :
    peerOf f.node (phaseRecorded f a s).peers.records = some (announce a false (recordFor s f.node)) ∧
      withoutPeer f.node (phaseRecorded f a s).peers.records = withoutPeer f.node s.peers.records := by
  have node : (announce a false (recordFor s f.node)).node = f.node := recordFor_node s f.node
  have peer := writePeer_peerOf (announce a false (recordFor s f.node)) s
  have others := writePeer_withoutPeer (announce a false (recordFor s f.node)) s
  rw [node] at peer others
  exact ⟨peer, others⟩

theorem applyPhase_join {s : State} (f : RxFrame) (a : Announcement) (delay : Nat) (h : s.mode.mode = .join) :
    applyPhase f a delay s = hearPhase a (reversalInstant f a delay) (phaseRecorded f a s) := by
  simp only [applyPhase, h]
  rfl

theorem applyPhase_rest {s : State} (f : RxFrame) (a : Announcement) (delay : Nat) (h : s.mode.mode = .rest) :
    applyPhase f a delay s = phaseRecorded f a s := by
  simp only [applyPhase, h]
  rfl

/-- Settles O28. -/
theorem phaseInJoinIsHeard : Obligations.PhaseInJoinIsHeard := by
  intro t s f rest a delay free front decoded leaving mode
  have applies : modeDiscards s.mode.mode .phase = false := by rcases mode with h | h <;> simp [h, modeDiscards]
  have tr : reversalInstant f a delay = Count.earlier (Count.earlier f.stamp 12) (if a.late then 4095 else delay) :=
    reversalInstant_phase (decode_class decoded).2
  refine ⟨finish (takeNotice .phase isPhase applyPhaseNotice (advanceTo t s)), rfl, ?_⟩
  rw [takeNotice_at .phase free front decoded rfl applies (by simp [isPhase, leaving]), applyPhaseNotice, ← tr]
  have recorded : othersKept [.peers] (noticeState rest t s) (phaseRecorded f a (noticeState rest t s)) :=
    writePeer_frame _ _
  obtain ⟨peer, others⟩ := phaseRecorded_peers f a (noticeState rest t s)
  rw [noticeState_recordFor] at peer
  rw [noticeState_peers] at others
  have before := othersKept_append (noticeState_frame rest t s) recorded
  have line : (phaseRecorded f a (noticeState rest t s)).line = { s.line with rxq := rest } :=
    (recorded .line (by decide)).trans (noticeState_line rest t s)
  have own : (phaseRecorded f a (noticeState rest t s)).own = s.own :=
    (recorded .own (by decide)).trans (noticeState_own rest t s)
  have rev : (phaseRecorded f a (noticeState rest t s)).rev = s.rev :=
    (recorded .rev (by decide)).trans (noticeState_rev rest t s)
  have svc : (phaseRecorded f a (noticeState rest t s)).svc = s.svc :=
    (recorded .svc (by decide)).trans (noticeState_svc rest t s)
  rcases mode with join | resting
  · rw [applyPhase_join f a delay (by simpa using join)]
    have heard := hearPhase_frame a (reversalInstant f a delay) (phaseRecorded f a (noticeState rest t s))
    refine ⟨(heard .line (by decide)).trans line, ?_, ?_, fun ⟨_, listens, good⟩ => ?_, fun ⟨_, listens, poor⟩ => ?_,
      fun deaf => ?_, finish_within (othersKept_append before heard)⟩
    · rw [finish_peers, heard .peers (by decide)]
      exact peer
    · rw [finish_peers, heard .peers (by decide)]
      exact others
    · rw [hearPhase_entry (by rw [rev]; exact listens) good, paramNat, param, rev, own, svc]
      exact ⟨rfl, rfl⟩
    · rw [hearPhase_remembers (by rw [rev]; exact listens) poor, rev]
      exact ⟨own, rfl⟩
    · have deaf : s.rev.listening = none := deaf.resolve_right (by simp [join])
      rw [hearPhase_deaf (by rw [rev]; exact deaf)]
      exact ⟨own, rev⟩
  · rw [applyPhase_rest f a delay (by simpa using resting)]
    refine ⟨line, peer, others, fun ⟨join, _⟩ => ?_, fun ⟨join, _⟩ => ?_, fun _ => ⟨own, rev⟩,
      finish_within before⟩
    · simp [resting] at join
    · simp [resting] at join

/-! ### LEAVE (R17, R63, R85) -/

/-- The state without the record and the tally entry of a node (R17, R63). -/
def nodeGone (node : Nat) (s : State) : State :=
  (s.withPeers { s.peers with records := withoutPeer node s.peers.records }).withRev
    { s.rev with tally := withoutTally node s.rev.tally }

theorem nodeGone_frame (node : Nat) (s : State) : othersKept [.peers, .rev] s (nodeGone node s) :=
  othersKept_append (withPeers_frame s _) (withRev_frame _ _)

theorem applyLeave_eq (f : RxFrame) (n : Notice) (s : State) : applyLeave f n s =
    if ((peerOf f.node s.peers.records).isSome && inCurrentPass s f.node) = true then trigger (nodeGone f.node s)
    else nodeGone f.node s := rfl

/-- Settles O29. -/
theorem leaveRemovesTheSender : Obligations.LeaveRemovesTheSender := by
  intro t s f rest a delay free front decoded leaving mode
  have applies : modeDiscards s.mode.mode .phase = false := by rcases mode with h | h | h <;> simp [h, modeDiscards]
  refine ⟨finish (takeNotice .phase isLeaveNotice applyLeave (advanceTo t s)), rfl, ?_⟩
  rw [takeNotice_at .phase free front decoded rfl applies (by simp [isLeaveNotice, leaving]), applyLeave_eq]
  have gone := nodeGone_frame f.node (noticeState rest t s)
  have before := othersKept_append (noticeState_frame rest t s) gone
  have mode' : (nodeGone f.node (noticeState rest t s)).mode = s.mode :=
    (gone .mode (by decide)).trans (noticeState_mode rest t s)
  have gather : (nodeGone f.node (noticeState rest t s)).rev.gather = s.rev.gather := by simp [nodeGone]
  have pass : (nodeGone f.node (noticeState rest t s)).pass = s.pass :=
    (gone .pass (by decide)).trans (noticeState_pass rest t s)
  have unit : (nodeGone f.node (noticeState rest t s)).unit = s.unit :=
    (gone .unit (by decide)).trans (noticeState_unit rest t s)
  have member : inCurrentPass (noticeState rest t s) f.node = true ↔
      s.pass.current = true ∧ f.node ∈ s.pass.record.nodes := by rw [inCurrentPass_iff, noticeState_pass]
  have asked (again : Bool) (h : again = true ↔ s.mode.mode = .run ∧ s.rev.gather = none ∧ s.pass.current = true ∧
      f.node ∈ s.pass.record.nodes ∧ (peerOf f.node s.peers.records).isSome = true) :=
    (triggerIf_asked (s := nodeGone f.node (noticeState rest t s))
      (p := ((peerOf f.node (noticeState rest t s).peers.records).isSome && inCurrentPass (noticeState rest t s) f.node)
        = true) (again := again)
      (h.trans (by rw [mode', gather, Bool.and_eq_true, member, noticeState_peers]; simp only [and_assoc, and_comm, and_left_comm]))).of_eq
      pass unit
  have trigger := triggerIf_frame (((peerOf f.node (noticeState rest t s).peers.records).isSome &&
    inCurrentPass (noticeState rest t s) f.node) = true) (nodeGone f.node (noticeState rest t s))
  generalize (if ((peerOf f.node (noticeState rest t s).peers.records).isSome &&
    inCurrentPass (noticeState rest t s) f.node) = true then Machine.trigger (nodeGone f.node (noticeState rest t s))
    else nodeGone f.node (noticeState rest t s)) = u at *
  refine ⟨?_, ?_, ?_, fun ⟨run, closed, current, part, known⟩ => ?_, fun out => ?_, ?_,
    finish_within (othersKept_append before trigger)⟩
  · exact (trigger .line (by decide)).trans ((gone .line (by decide)).trans (noticeState_line rest t s))
  · rw [finish_peers, trigger .peers (by decide)]
    simp [nodeGone, withoutPeer]
  · rw [finish_rev, trigger .rev (by decide)]
    simp [nodeGone, withoutTally]
  · exact (asked true (by simp [run, closed, current, part, known])).of_true
  · refine (asked false ⟨fun h => absurd h (by decide), fun ⟨run, closed, current, part, _⟩ => ?_⟩).of_false
    rcases out with h | h | h | h
    · exact absurd run h
    · simp [closed] at h
    · simp [current] at h
    · exact absurd part h
  · exact asked _ decide_eq_true_iff

/-! ### CHANGE (R13, R85) -/

theorem agreeAfterChange_eq (s : State) (a : Announcement) (r : PeerRecord) : agreeAfterChange s a r =
    if r.kp = some a.k ∧ s.mode.mode ≠ .rest then r.agree else false := by
  by_cases hk : r.kp = some a.k <;> by_cases hm : s.mode.mode = .rest <;> simp [agreeAfterChange, hk, hm]

/-- Settles O30. -/
theorem changeUpdatesTheRecord : Obligations.ChangeUpdatesTheRecord := by
  intro t s f rest a free front decoded mode
  have applies : modeDiscards s.mode.mode .change = false := by rcases mode with h | h | h <;> simp [h, modeDiscards]
  refine ⟨finish (takeNotice .change isChange applyChange (advanceTo t s)), rfl, ?_⟩
  rw [takeNotice_at .change free front decoded rfl applies rfl]
  simp only [applyChange, noticeState_recordFor, agreeAfterChange_eq, noticeState_mode]
  generalize hr : announce a (if (recordFor s f.node).kp = some a.k ∧ s.mode.mode ≠ .rest
    then (recordFor s f.node).agree else false) (recordFor s f.node) = r
  have node : r.node = f.node := by rw [← hr, announce_node, recordFor_node]
  have written := writePeer_frame r (noticeState rest t s)
  have before := othersKept_append (noticeState_frame rest t s) written
  have peer := writePeer_peerOf r (noticeState rest t s)
  have others := writePeer_withoutPeer r (noticeState rest t s)
  rw [node] at peer others
  rw [noticeState_peers] at others
  have mode' : (writePeer r (noticeState rest t s)).mode = s.mode :=
    (written .mode (by decide)).trans (noticeState_mode rest t s)
  have own : (writePeer r (noticeState rest t s)).own = s.own :=
    (written .own (by decide)).trans (noticeState_own rest t s)
  have rev : (writePeer r (noticeState rest t s)).rev = s.rev :=
    (written .rev (by decide)).trans (noticeState_rev rest t s)
  have pass : (writePeer r (noticeState rest t s)).pass = s.pass :=
    (written .pass (by decide)).trans (noticeState_pass rest t s)
  have unit : (writePeer r (noticeState rest t s)).unit = s.unit :=
    (written .unit (by decide)).trans (noticeState_unit rest t s)
  have asked (again : Bool) (h : again = true ↔ s.mode.mode = .run ∧ s.rev.gather = none ∧
      ((s.pass.current = true ∧ f.node ∈ s.pass.record.nodes) ∨
        ((recordFor s f.node).kp = some a.k ∧ (recordFor s f.node).agree = true ∧ s.own.k = some a.k ∧
          a.direction ≠ .halt))) :
      passAsked again s (noticeTrigger f.node (writePeer r (noticeState rest t s))) := by
    refine (noticeTrigger_asked (peer.trans (congrArg some hr.symm)) (h.trans ?_)).of_eq pass unit
    rw [mode', own, rev, pass]
    refine and_congr_right fun run => ?_
    by_cases hk : (recordFor s f.node).kp = some a.k <;> simp [run, hk]
  have trigger := noticeTrigger_frame f.node (writePeer r (noticeState rest t s))
  generalize noticeTrigger f.node (writePeer r (noticeState rest t s)) = u at *
  refine ⟨?_, ?_, ?_, fun out => ?_, fun ⟨run, closed, current, part⟩ => ?_, ?_,
    finish_within (othersKept_append before trigger)⟩
  · exact (trigger .line (by decide)).trans ((written .line (by decide)).trans (noticeState_line rest t s))
  · rw [finish_peers, trigger .peers (by decide), peer, ← hr]
    rfl
  · rw [finish_peers, trigger .peers (by decide), others]
  · refine (asked false ⟨fun h => absurd h (by decide), fun ⟨run, closed, _⟩ => ?_⟩).of_false
    rcases out with h | h
    · exact absurd run h
    · simp [closed] at h
  · exact (asked true (by simp [run, closed, current, part])).of_true
  · exact asked _ decide_eq_true_iff

/-! ### STATUS (R14) -/

/-- A decoded STATUS gives the outdoor value and the facade of its characters (R14, R49). -/
theorem decode_status_fields {f : RxFrame} {outdoor : Option Int} {facade : Facade}
    (h : decodeNotice f = some (.status outdoor facade)) :
    outdoor = readOutdoor (f.payload.getD 0 0) (f.payload.getD 1 0) ∧
      facade = if (f.payload.getD 7 0).toNat / 128 = 1 then .rear else .front := by
  have hc := (decode_class h).1
  unfold decodeNotice at h
  split at h <;> simp_all [noticeClass]

/-- Settles O31. -/
theorem statusWritesTheClimatePart : Obligations.StatusWritesTheClimatePart := by
  intro t s f rest outdoor facade free front decoded mode
  have applies : modeDiscards s.mode.mode .status = false := by rcases mode with h | h | h <;> simp [h, modeDiscards]
  obtain ⟨houtdoor, hfacade⟩ := decode_status_fields decoded
  refine ⟨finish (takeNotice .status isStatus applyStatus (advanceTo t s)), rfl, ?_⟩
  rw [takeNotice_at .status free front decoded rfl applies rfl]
  simp only [applyStatus, noticeState_recordFor]
  generalize hr : ({ recordFor s f.node with
    climate := some { outdoor := outdoor, facade := facade, age := 0 } } : PeerRecord) = r
  have node : r.node = f.node := by rw [← hr]; exact recordFor_node s f.node
  have peer := writePeer_peerOf r (noticeState rest t s)
  have others := writePeer_withoutPeer r (noticeState rest t s)
  rw [node] at peer others
  rw [noticeState_peers] at others
  refine ⟨?_, ?_, others, finish_within (othersKept_append (noticeState_frame rest t s) (writePeer_frame _ _))⟩
  · exact (writePeer_frame r _ .line (by decide)).trans (noticeState_line rest t s)
  · rw [finish_peers, peer, ← hr, houtdoor, hfacade]
    rfl

/-! ### CLAIM (R47, R141) -/

theorem claimQualifies_iff {s : State} {node : Nat} {k : HalfNo} {start i : Count} (run : s.mode.mode = .run)
    (hi : s.own.instant = some i) : claimQualifies s node k start = true ↔
      s.own.k = some k ∧ 0 ≤ Count.since start i ∧ Count.since start i < 10240 ∧
        ∀ x ∈ s.frost.claims, x.node ≠ node := by
  simp only [claimQualifies, hi, Bool.and_eq_true, decide_eq_true_iff, Bool.not_eq_true', List.any_eq_false, run,
    true_and, and_assoc]
  rfl

theorem receiveClaim_frame (node : Nat) (k : HalfNo) (severity : Nat) (start : Count) (s : State) :
    othersKept [.frost] s (receiveClaim node k severity start s) := by
  unfold receiveClaim
  split
  · exact withFrost_frame s _
  · exact othersKept_refl _ _

/-- Settles O32. -/
theorem claimsEnterTheList : Obligations.ClaimsEnterTheList := by
  intro t s f rest k severity i free front decoded run hi
  have start : f.start = Count.earlier f.stamp 5 := by
    have count : frameCounts (payloadSize .claim) = 5 := by decide
    rw [RxFrame.start, (decode_class decoded).2, noticeClass, count]
  have qualifies := claimQualifies_iff (s := noticeState rest t s) (node := f.node) (k := k) (start := f.start)
    (by simpa using run) (by simpa using hi)
  rw [noticeState_own, noticeState_frost] at qualifies
  refine ⟨finish (takeNotice .claim isClaimNotice applyClaim (advanceTo t s)), rfl, ?_⟩
  rw [takeNotice_at .claim free front decoded rfl (by simp [run, modeDiscards]) rfl, applyClaim, ← start]
  have frame := receiveClaim_frame f.node k severity f.start (noticeState rest t s)
  refine ⟨(frame .line (by decide)).trans (noticeState_line rest t s), fun inside => ?_, fun outside => ?_, ?_,
    finish_within (othersKept_append (noticeState_frame rest t s) frame)⟩
  · rw [finish_frost, receiveClaim, if_pos (qualifies.mpr inside), State.withFrost_frost, ← noticeState_frost rest t s]
    exact insertOrd_perm _ _ _
  · have : ¬ claimQualifies (noticeState rest t s) f.node k f.start = true := fun h => by
      obtain ⟨hk, h0, h1, fresh⟩ := qualifies.mp h
      rcases outside with h | h | h | ⟨x, hx, h⟩
      · exact h hk
      · omega
      · omega
      · exact fresh x hx h
    rw [finish_frost, receiveClaim, if_neg this, noticeState_frost]
  · rw [finish_frost, receiveClaim]
    split <;> simp

/-! ### The house level (R157) -/

/-- Settles O34. -/
theorem houseLevelFillsTheSlot : Obligations.HouseLevelFillsTheSlot := by
  intro t s f rest level hold free front decoded
  refine ⟨finish (takeNotice .house isHouseLevel applyHouseLevel (advanceTo t s)), rfl, ?_⟩
  rw [takeNotice_at .house free front decoded rfl rfl rfl]
  simp only [applyHouseLevel, applyLevel, noticeState_mode]
  split
  next idle => exact ⟨noticeState_line rest t s, noticeState_demand rest t s,
    finish_within (noticeState_frame rest t s)⟩
  next =>
    refine ⟨?_, ?_, finish_within (othersKept_append (noticeState_frame rest t s) (withDemand_frame _ _))⟩
    · simp
    · simp [tenMinuteCounts]

end Sys2Proof.Laws
end

section
/-! ## Wakes outside REST, and the replies to READ and SET (R19, R51, R158, R162, R181, R182) -/

namespace Sys2Proof.Laws

open Sys2Proof.Machine Sys2Proof.Safety

/-! ### RESUME and WAKE (R158, R162) -/

theorem applyResume_awake {s : State} (node : Nat) (h : s.mode.mode ≠ .rest) : applyResume node s =
    s.withDemand { s.demand with
      slot := if (s.mode.mode = .run ∨ s.mode.mode = .join) ∧ s.demand.slot.any (fun x => x.source = node) = true
        then none else s.demand.slot } := by
  have same : s = s.withDemand { s.demand with slot := s.demand.slot } := rfl
  cases hm : s.mode.mode
  case rest => exact absurd hm h
  case start => simp only [applyResume, hm]; exact same
  case setup => simp only [applyResume, hm]; exact same
  all_goals
    cases hs : s.demand.slot with
    | none =>
      simp only [applyResume, hm, hs]
      simpa [hs] using same
    | some x =>
      simp only [applyResume, hm, hs]
      by_cases hx : x.source = node
      · simp [hx]
      · simpa [hx, hs] using same

theorem takeWake_flushing {s : State} (cause : WakeCause) (h : s.demand.flush.isSome = true) :
    takeWake cause false s = s.withDemand { s.demand with
      heldWake := some (s.demand.heldWake.getD { cause := cause, mark := false }) } := by
  rw [takeWake, if_pos h, holdWake]
  cases s.demand.heldWake <;> simp

theorem applyResume_resting {s : State} (node : Nat) (h : s.mode.mode = .rest) :
    applyResume node s = takeWake .resume false s := by
  simp [applyResume, h]

/-- Settles O36. -/
theorem resumeAndWakeOutsideRest : Obligations.ResumeAndWakeOutsideRest := by
  refine ⟨fun t s f rest free front decoded mode => ?_, fun t s f rest free front decoded mode => ?_,
    fun t s f rest free front decoded mode flushing => ?_, fun t s f rest free front decoded mode flushing => ?_⟩
  · refine ⟨finish (takeNotice .house isHouseResume applyHouseResume (advanceTo t s)), rfl, ?_⟩
    rw [takeNotice_at .house free front decoded rfl rfl rfl, applyHouseResume, applyResume_awake _ (by simpa using mode)]
    refine ⟨noticeState_line rest t s, ?_, finish_within (othersKept_append (noticeState_frame rest t s)
      (withDemand_frame _ _))⟩
    rw [finish_demand, State.withDemand_demand, noticeState_demand, noticeState_mode]
  · refine ⟨finish (takeNotice .house isHouseWake applyHouseWake (advanceTo t s)), rfl, ?_⟩
    rw [takeNotice_at .house free front decoded rfl rfl rfl, applyHouseWake, applyWake, noticeState_mode, if_neg mode]
    exact ⟨noticeState_line rest t s, finish_within (noticeState_frame rest t s)⟩
  · refine ⟨finish (takeNotice .house isHouseResume applyHouseResume (advanceTo t s)), rfl, ?_⟩
    rw [takeNotice_at .house free front decoded rfl rfl rfl, applyHouseResume,
      applyResume_resting _ (by simpa using mode), takeWake_flushing _ (by simpa using flushing)]
    refine ⟨noticeState_line rest t s, ?_, finish_within (othersKept_append (noticeState_frame rest t s)
      (withDemand_frame _ _))⟩
    rw [finish_demand, State.withDemand_demand, noticeState_demand]
  · refine ⟨finish (takeNotice .house isHouseWake applyHouseWake (advanceTo t s)), rfl, ?_⟩
    rw [takeNotice_at .house free front decoded rfl rfl rfl, applyHouseWake, applyWake, noticeState_mode, if_pos mode,
      takeWake_flushing _ (by simpa using flushing)]
    refine ⟨noticeState_line rest t s, ?_, finish_within (othersKept_append (noticeState_frame rest t s)
      (withDemand_frame _ _))⟩
    rw [finish_demand, State.withDemand_demand, noticeState_demand]

/-! ### Service requests (R180, R182) -/

/-- The inactivity timer after a request taken in a mode (R180). -/
def reloaded (s : State) : Option Count :=
  if s.mode.mode = .setup then some (Count.later s.time.now 614400) else s.mode.inactivity

theorem reloadInactivity_eq (s : State) :
    reloadInactivity s = s.withMode { s.mode with inactivity := reloaded s } := by
  unfold reloadInactivity reloaded
  split <;> rfl

/-- In START a request that is served has no effect. -/
theorem serve_start {s : State} {answer : State → State} (h : s.mode.mode = .start) : serve answer s = s := if_pos h

/-- Outside START, with no flush that the answer can end, a request is answered. -/
theorem serve_answered {s : State} {answer : State → State} (h : s.mode.mode ≠ .start)
    (hsetup : (answer (reloadInactivity s)).mode.setupFlush = none)
    (hrest : (answer (reloadInactivity s)).demand.flush = none) :
    serve answer s = answer (reloadInactivity s) := by
  rw [serve, if_neg h]
  exact settleFlush_of_no_flush _ hsetup hrest

/-! ### Replies (R51, R182) -/

/-- The entry of a reply. -/
def replyEntry (node requester : Nat) (kind : RequestKind) (status : ReplyStatus) (index : Byte) (d : PageData) :
    TxEntry :=
  newEntry .reply false node false (replyBytes requester (kind := kind) status index d.d1 d.d2 d.d3 d.d4)

theorem reply_eq (f : RxFrame) (kind : RequestKind) (status : ReplyStatus) (index : Byte) (d : PageData) (s : State) :
    reply f kind status index d s = queueNotice (replyEntry s.own.node f.node kind status index d) s := rfl

theorem reply_frame (f : RxFrame) (kind : RequestKind) (status : ReplyStatus) (index : Byte) (d : PageData)
    (s : State) : othersKept [.line] s (reply f kind status index d s) := queueNotice_frame _ s

/-- With room and no reply of an earlier request, the reply enters the queue. -/
theorem reply_line {f : RxFrame} {kind : RequestKind} {status : ReplyStatus} {index : Byte} {d : PageData} {s : State}
    (hopen : s.line.faultCount < 32) (fresh : ∀ x ∈ s.line.txq, x.cls ≠ .reply) (room : s.line.txq.length < 4) :
    (reply f kind status index d s).line = { s.line with
      txq := placeEntry (replyEntry s.own.node f.node kind status index d) s.line.txq } := by
  rw [reply_eq, queueNotice_open _ hopen, acceptNotice_free (entryOf_eq_none.mpr fresh) room]
  rfl

theorem mem_placeEntry (e : TxEntry) (q : List TxEntry) : e ∈ placeEntry e q := (mem_insertOrd _).mpr (.inl rfl)

theorem placeEntry_length (e : TxEntry) (q : List TxEntry) : (placeEntry e q).length = q.length + 1 :=
  insertOrd_length ..

/-! ### READ (R19, R51) -/

/-- The state that a service request outside START is answered in. -/
def requestState (rest : List RxFrame) (t : Count) (s : State) : State := reloadInactivity (noticeState rest t s)

section
variable (rest : List RxFrame) (t : Count) (s : State)

theorem requestState_eq : requestState rest t s =
    (noticeState rest t s).withMode { s.mode with
      inactivity := if s.mode.mode = .setup then some (Count.later (advanceTo t s).time.now 614400)
        else s.mode.inactivity } := by
  rw [requestState, reloadInactivity_eq]
  simp only [reloaded, noticeState_mode, noticeState_time]

theorem requestState_frame : othersKept [.mode, .line] (advanceTo t s) (requestState rest t s) := by
  rw [requestState_eq]
  exact othersKept_mono (othersKept_append (noticeState_frame rest t s) (withMode_frame _ _)) (by decide)

@[simp] theorem requestState_mode : (requestState rest t s).mode = { s.mode with
    inactivity := if s.mode.mode = .setup then some (Count.later (advanceTo t s).time.now 614400)
      else s.mode.inactivity } := by
  rw [requestState_eq]
  rfl

@[simp] theorem requestState_line : (requestState rest t s).line = { s.line with rxq := rest } := by
  rw [requestState_eq]
  exact noticeState_line rest t s

@[simp] theorem requestState_own : (requestState rest t s).own = s.own :=
  (requestState_frame rest t s .own (by decide)).trans (advanceTo_own t s)
@[simp] theorem requestState_peers : (requestState rest t s).peers = s.peers :=
  (requestState_frame rest t s .peers (by decide)).trans (advanceTo_peers t s)
@[simp] theorem requestState_fan : (requestState rest t s).fan = s.fan :=
  (requestState_frame rest t s .fan (by decide)).trans (advanceTo_fan t s)
@[simp] theorem requestState_frost : (requestState rest t s).frost = s.frost :=
  (requestState_frame rest t s .frost (by decide)).trans (advanceTo_frost t s)
@[simp] theorem requestState_demand : (requestState rest t s).demand = s.demand :=
  (requestState_frame rest t s .demand (by decide)).trans (advanceTo_demand t s)
@[simp] theorem requestState_filt : (requestState rest t s).filt = s.filt :=
  (requestState_frame rest t s .filt (by decide)).trans (advanceTo_filt t s)
@[simp] theorem requestState_svc : (requestState rest t s).svc = s.svc :=
  (requestState_frame rest t s .svc (by decide)).trans (advanceTo_svc t s)
@[simp] theorem requestState_cond : (requestState rest t s).cond = s.cond :=
  (requestState_frame rest t s .cond (by decide)).trans (advanceTo_cond t s)

@[simp] theorem requestState_param (i : Fin 21) : param (requestState rest t s) i = param s i := by
  rw [param, param, requestState_svc]

/-- A page reads the same in the state that the request is answered in. -/
theorem requestState_readPage (page : Nat) : readPage (requestState rest t s) page = readPage s page := by
  have state : lineState (requestState rest t s) = lineState s := by simp [lineState]
  have peer (node : Nat) : peerPage (requestState rest t s) node = peerPage s node := by
    simp only [peerPage, requestState_peers, requestState_own]
  have params (i : Nat) : paramPage (requestState rest t s) i = paramPage s i := by
    simp only [paramPage, requestState_param]
  have block : blockPage (requestState rest t s) page = blockPage s page := by
    unfold blockPage
    simp only [state, requestState_mode, requestState_own, requestState_frost, requestState_filt, requestState_fan,
      requestState_line, requestState_cond]
  rw [readPage, readPage, peer, params, block]

end

/-- A READ is answered with the data of its page, or with NO SUCH and zeros (R51). -/
theorem answerRead_eq (f : RxFrame) (index : Byte) (s : State) : answerRead f index s =
    reply f .read (if (readPage s index.toNat).isSome then .done else .noSuch) index
      ((readPage s index.toNat).getD zeroPage) s := by
  unfold answerRead
  cases readPage s index.toNat <;> rfl

theorem blockPage_none {s : State} {page : Nat} (h : 10 ≤ page) : blockPage s page = none := by
  unfold blockPage
  split
  iterate 10 exact absurd h (by decide)
  rfl

theorem readPage_unknown {s : State} {page : Nat}
    (h : (10 ≤ page ∧ page ≤ 16) ∨ (29 ≤ page ∧ page ≤ 31) ∨ 53 ≤ page) : readPage s page = none := by
  rw [readPage, if_neg (by omega), if_neg (by omega)]
  exact blockPage_none (by omega)

theorem readPage_block {s : State} {page : Nat} (h : page ≤ 9) : readPage s page = blockPage s page := by
  rw [readPage, if_neg (by omega), if_neg (by omega)]

theorem readPage_peer {s : State} {page : Nat} (h : 17 ≤ page ∧ page ≤ 28) :
    readPage s page = some (peerPage s (page - 16)) := if_pos h

theorem readPage_param {s : State} {page : Nat} (h : 32 ≤ page ∧ page ≤ 52) {p : BitVec 16}
    (hp : s.svc.params.toList[page - 32]? = some p) :
    readPage s page = some { d1 := byteOf (p.toNat / 256), d2 := byteOf (p.toNat % 256), d3 := 0, d4 := 0 } := by
  have within : page - 32 < 21 := by omega
  have value : s.svc.params[page - 32] = p := by simpa [within] using hp
  rw [readPage, if_neg (by omega), if_pos h]
  simp [paramPage, paramIndex, within, param, value, highByte, lowByte, byteOf]

section
variable {f : RxFrame} {rest : List RxFrame} {t : Count} {s : State}

/-- A request that is answered with a reply alone, in OPEN with room and no flush: the reply stands in the queue, and
nothing else of the line block changes. -/
theorem serve_reply_line {kind : RequestKind} {status : ReplyStatus} {index : Byte} {d : PageData} {v : State}
    (hl : v.line = { s.line with rxq := rest }) (ho : v.own = s.own) (hopen : s.line.faultCount < 32)
    (fresh : ∀ x ∈ s.line.txq, x.cls ≠ .reply) (room : s.line.txq.length < 4) :
    (reply f kind status index d v).line = { s.line with
      rxq := rest, txq := placeEntry (replyEntry s.own.node f.node kind status index d) s.line.txq } := by
  rw [reply_line (by rw [hl]; exact hopen) (by rw [hl]; exact fresh) (by rw [hl]; exact room), hl, ho]

/-- The reply in such a queue, with its payload. -/
theorem reply_stands {q : List TxEntry} {l : List TxEntry} {node requester : Nat} {kind : RequestKind}
    {status : ReplyStatus} {index : Byte} {d : PageData} {payload : List Byte}
    (hq : q = placeEntry (replyEntry node requester kind status index d) l)
    (hp : payload = replyBytes requester kind status index d.d1 d.d2 d.d3 d.d4) :
    ∃ e ∈ q, e.cls = .reply ∧ e.node = node ∧ e.payload = payload :=
  ⟨_, hq ▸ mem_placeEntry _ _, rfl, rfl, hp.symm⟩

end

/-- Settles O37: the page is read in the state that the request finds, and one reply carries it. -/
theorem readAnswersWithItsPage : Obligations.ReadAnswersWithItsPage := by
  refine ⟨fun t s f rest index value free front decoded mode hopen fresh room hsetup hrest => ?answered,
    fun t s f rest index value free front decoded mode => ?inStart⟩
  case inStart =>
    refine ⟨finish (takeNotice .request (isRequest .read) applyRead (advanceTo t s)), rfl, ?_⟩
    rw [takeNotice_at .request free front decoded rfl rfl rfl, applyRead, serve_start (by simpa using mode)]
    exact ⟨noticeState_line rest t s, finish_within (noticeState_frame rest t s)⟩
  case answered =>
    refine ⟨finish (takeNotice .request (isRequest .read) applyRead (advanceTo t s)), rfl, ?_⟩
    have replies := reply_frame f .read (if (readPage s index.toNat).isSome then .done else .noSuch) index
      ((readPage s index.toNat).getD zeroPage) (requestState rest t s)
    have answer : answerRead f index (requestState rest t s) = reply f .read
        (if (readPage s index.toNat).isSome then .done else .noSuch) index ((readPage s index.toNat).getD zeroPage)
        (requestState rest t s) := by rw [answerRead_eq, requestState_readPage]
    rw [takeNotice_at .request free front decoded rfl rfl rfl, applyRead,
      serve_answered (by simpa using mode)
        (by rw [← requestState, answer, replies .mode (by decide), requestState_mode]; exact hsetup)
        (by rw [← requestState, answer, replies .demand (by decide), requestState_demand]; exact hrest),
      ← requestState, answer]
    have line := serve_reply_line (f := f) (kind := .read)
      (status := if (readPage s index.toNat).isSome then .done else .noSuch) (index := index)
      (d := (readPage s index.toNat).getD zeroPage) (requestState_line rest t s) (requestState_own rest t s) hopen fresh
      room
    generalize reply f .read (if (readPage s index.toNat).isSome then .done else .noSuch) index
      ((readPage s index.toNat).getD zeroPage) (requestState rest t s) = u at *
    have queue : u.line.txq = placeEntry (replyEntry s.own.node f.node .read
        (if (readPage s index.toNat).isSome then .done else .noSuch) index ((readPage s index.toNat).getD zeroPage))
        s.line.txq := by rw [line]
    have page (d : PageData) (h : readPage s index.toNat = some d) :
        ∃ e ∈ u.line.txq, e.cls = .reply ∧ e.node = s.own.node ∧
          e.payload = replyBytes f.node .read .done index d.d1 d.d2 d.d3 d.d4 := by
      rw [h] at queue
      exact reply_stands queue rfl
    have block (i : Byte) (hi : i.toNat ≤ 9) (d : PageData) (hd : blockPage s i.toNat = some d) (h : index = i) :=
      page d (by rw [h, readPage_block hi, hd])
    refine ⟨block 0 (by decide) _ rfl, block 1 (by decide) _ rfl, block 2 (by decide) _ rfl, block 3 (by decide) _ rfl,
      block 4 (by decide) _ rfl, block 5 (by decide) _ rfl, ?_, block 7 (by decide) _ rfl, block 8 (by decide) _ rfl,
      block 9 (by decide) _ rfl, fun h absent => ?_, fun h other r hr => ?_, fun h p hp => ?_, fun h => ?_, ?_, ?_, ?_,
      finish_within (othersKept_append (requestState_frame rest t s) replies)⟩
    · have page6 : blockPage s (6 : Byte).toNat = some ⟨byteOf s.line.faultCount, 0, byteOf s.line.rxFaults, 0⟩ := by
        change some (PageData.mk _ (byteOf (lineCode (lineState s))) _ _) = _
        rw [lineState_open hopen]
        rfl
      exact block 6 (by decide) _ page6
    · have zeros : peerPage s (index.toNat - 16) = zeroPage := by
        unfold peerPage
        rcases absent with own | none_
        · split
          · rw [if_pos own]
          · rfl
        · rw [peerOf, List.find?_eq_none.mpr (by simpa using none_)]
      exact page zeroPage (by rw [readPage_peer h, zeros])
    · refine page ⟨1, r.kp.getD 0, byteOf (dirCode r.direction), byteOf r.age⟩ ?_
      have : peerOf (index.toNat - 16) s.peers.records = some r := hr
      rw [readPage_peer h, peerPage, this]
      dsimp only
      rw [if_neg other]
    · exact page _ (readPage_param h hp)
    · rw [readPage_unknown h] at queue
      exact reply_stands queue rfl
    · rw [finish_line, line]
    · rw [finish_line, line]
      exact placeEntry_length _ _
    · rw [finish_mode, replies .mode (by decide), requestState_mode]

end Sys2Proof.Laws
end

section
/-! ## SET: the value taken, the reply, and the changed mark (R50, R181, R182) -/

namespace Sys2Proof.Laws

open Sys2Proof.Machine Sys2Proof.Safety

section
variable {t : Count} {s : State} {f : RxFrame} {rest : List RxFrame} {index value : Byte}

theorem carriedTaken_requestState (rest : List RxFrame) (t : Count) (s : State) (i n : Nat) :
    carriedTaken (requestState rest t s) i n = carriedTaken s i n := by
  have low : carriedLow (requestState rest t s) i = carriedLow s i := by
    unfold carriedLow
    simp only [requestState_param]
  have high : carriedHigh (requestState rest t s) i = carriedHigh s i := by
    unfold carriedHigh
    simp only [requestState_param]
  rw [carriedTaken, carriedTaken, low, high]

/-- The state that a SET in SETUP leaves behind, before its reply. -/
def paramWritten (p : Fin 21) (taken : Int) (s : State) : State :=
  writeParam p (BitVec.ofInt 16 (storedForm p taken)) s

theorem answerSetIn_of_index {v : State} {p : Fin 21} (h : index.toNat = p.val) : answerSetIn f index value v =
    reply f .set (if carriedTaken v p value.toNat = (value.toNat : Int) then .done else .clamped) index
      { zeroPage with d1 := BitVec.ofInt 8 (carriedTaken v p value.toNat) }
      (paramWritten p (carriedTaken v p value.toNat) v) := by
  have known : paramIndex index.toNat = some p := by simp [paramIndex, h]
  simp only [answerSetIn, known]
  rfl

theorem answerSetIn_unknown {v : State} (h : 21 ≤ index.toNat) :
    answerSetIn f index value v = reply f .set .noSuch index zeroPage v := by
  have unknown : paramIndex index.toNat = none := by simp [paramIndex]; omega
  simp only [answerSetIn, unknown]

/-- A SET in SETUP: the parameter takes the value taken, in its stored form, and the reply carries it. -/
theorem setIn_answered {p : Fin 21} {taken : Int} (free : tableHeld s = false) (front : s.line.rxq = f :: rest)
    (decoded : decodeNotice f = some (.request .set index value)) (mode : s.mode.mode = .setup)
    (hindex : index.toNat = p.val) (hopen : s.line.faultCount < 32) (fresh : ∀ x ∈ s.line.txq, x.cls ≠ .reply)
    (room : s.line.txq.length < 4) (hsetup : s.mode.setupFlush = none) (hrest : s.demand.flush = none)
    (ht : carriedTaken s p value.toNat = taken) :
    ∃ u, exec (.set t) s = .next u ∧
      u.svc = { s.svc with
        params := s.svc.params.set p (BitVec.ofInt 16 (if index.toNat = 10 then -2 * taken else taken))
        changed := s.svc.changed ||
          decide (s.svc.params[p] ≠ BitVec.ofInt 16 (if index.toNat = 10 then -2 * taken else taken)) } ∧
      (∃ e ∈ u.line.txq, e.cls = .reply ∧ e.node = s.own.node ∧
        e.payload = replyBytes f.node .set (if taken = value.toNat then .done else .clamped) index
          (BitVec.ofInt 8 taken) 0 0 0) ∧
      u.mode = { s.mode with inactivity := some (Count.later (advanceTo t s).time.now 614400) } ∧
      u.line.rxq = rest ∧ othersKept [.mode, .line, .svc, .cond] (advanceTo t s) u := by
  refine ⟨finish (takeNotice .request (isRequest .set) applySet (advanceTo t s)), rfl, ?_⟩
  have written : othersKept [.svc] (requestState rest t s) (paramWritten p taken (requestState rest t s)) :=
    withSvc_frame _ _
  have answer : answerSet f index value (requestState rest t s) =
      reply f .set (if taken = (value.toNat : Int) then .done else .clamped) index
        { zeroPage with d1 := BitVec.ofInt 8 taken } (paramWritten p taken (requestState rest t s)) := by
    rw [answerSet, if_pos (by simpa using mode), answerSetIn_of_index hindex, carriedTaken_requestState, ht]
  have replies := reply_frame f .set (if taken = (value.toNat : Int) then .done else .clamped) index
    { zeroPage with d1 := BitVec.ofInt 8 taken } (paramWritten p taken (requestState rest t s))
  have after := othersKept_append written replies
  rw [takeNotice_at .request free front decoded rfl rfl rfl, applySet,
    serve_answered (by simp [mode])
      (by rw [← requestState, answer, after .mode (by decide), requestState_mode]; exact hsetup)
      (by rw [← requestState, answer, after .demand (by decide), requestState_demand]; exact hrest),
    ← requestState, answer]
  have line := serve_reply_line (f := f) (kind := .set)
    (status := if taken = (value.toNat : Int) then .done else .clamped) (index := index)
    (d := { zeroPage with d1 := BitVec.ofInt 8 taken })
    ((written .line (by decide)).trans (requestState_line rest t s))
    ((written .own (by decide)).trans (requestState_own rest t s)) hopen fresh room
  refine ⟨?_, ?_, ?_, ?_, finish_within (othersKept_append (requestState_frame rest t s) after)⟩
  · rw [finish_svc, replies .svc (by decide), paramWritten, writeParam, State.withSvc_svc, requestState_svc, storedForm,
      hindex]
  · exact reply_stands (congrArg LineControl.txq line) rfl
  · rw [finish_mode, after .mode (by decide), requestState_mode, if_pos mode]
  · rw [finish_line, line]

end

/-- Settles O38: the value taken is the clamped one, in the range of each parameter. -/
theorem setClampsAndMarks : Obligations.SetClampsAndMarks := by
  refine ⟨fun t s f rest index value p free front decoded mode hindex hopen fresh room hsetup hrest => ?written,
    fun t s f rest index value free front decoded mode refused hopen fresh room hsetup hrest => ?refused,
    fun t s f rest index value free front decoded mode => ?inStart⟩
  case written =>
    refine setIn_answered free front decoded mode hindex hopen fresh room hsetup hrest ?_
    rw [hindex]
    obtain ⟨n, hn⟩ := p
    iterate 20
      rcases n with _ | n
      · rfl
    obtain rfl : n = 0 := by omega
    rfl
  case refused =>
    have status : answerSet f index value (requestState rest t s) =
        reply f .set (if s.mode.mode = .setup then .noSuch else .notInSetup) index zeroPage (requestState rest t s) := by
      rw [answerSet, requestState_mode]
      by_cases hm : s.mode.mode = .setup
      · simp only [hm, if_true]
        exact answerSetIn_unknown (refused.resolve_left fun h => h hm)
      · simp only [hm, if_false]
    have replies := reply_frame f .set (if s.mode.mode = .setup then .noSuch else .notInSetup) index zeroPage
      (requestState rest t s)
    refine ⟨finish (takeNotice .request (isRequest .set) applySet (advanceTo t s)), rfl, ?_⟩
    rw [takeNotice_at .request free front decoded rfl rfl rfl, applySet,
      serve_answered (by simpa using mode)
        (by rw [← requestState, status, replies .mode (by decide), requestState_mode]; exact hsetup)
        (by rw [← requestState, status, replies .demand (by decide), requestState_demand]; exact hrest),
      ← requestState, status]
    have line := serve_reply_line (f := f) (kind := .set)
      (status := if s.mode.mode = .setup then .noSuch else .notInSetup) (index := index) (d := zeroPage)
      (requestState_line rest t s) (requestState_own rest t s) hopen fresh room
    refine ⟨reply_stands (congrArg LineControl.txq line) rfl, ?_, ?_,
      finish_within (othersKept_append (requestState_frame rest t s) replies)⟩
    · rw [finish_svc, replies .svc (by decide), requestState_svc]
    · rw [finish_line, line]
  case inStart =>
    refine ⟨finish (takeNotice .request (isRequest .set) applySet (advanceTo t s)), rfl, ?_⟩
    rw [takeNotice_at .request free front decoded rfl rfl rfl, applySet, serve_start (by simpa using mode)]
    exact ⟨noticeState_line rest t s, finish_within (noticeState_frame rest t s)⟩

end Sys2Proof.Laws
end

section
/-! ## The end of RUN work block by block, and the entry to REST (R72, R87, R124, R125, R145, R159 to R161, R168) -/

namespace Sys2Proof.Laws

open Sys2Proof.Machine Sys2Proof.Safety

/-! ### The departure from RUN (R72, R87, R125, R145, R168) -/

/-- The job on the engine, marked so that its result is discarded. -/
def discarded : Engine → Engine
  | .pass a ms _ => .pass a ms true
  | .climate x a ms _ => .climate x a ms true
  | .filter x a ms _ => .filter x a ms true
  | .free => .free

/-- The pass state after a cut (R87). -/
def cutState : PassState → PassState
  | .idle => .idle
  | .waiting => .idle
  | .running => .running
  | .runningOneMore => .running

section
variable (s : State)

theorem cutPass_pass : (cutPass s).pass = { s.pass with current := false, state := cutState s.pass.state } := by
  cases h : s.pass.state <;> simp [cutPass, cutState, h]

/-- The own CLAIM given up, as it shows in the line block (R131, R145). -/
def claimWithdrawn : LineControl := if s.frost.ownClaim = .queued then (withdraw isClaim s).line else s.line

theorem dropClaim_line : (dropClaim s).line = claimWithdrawn s := by
  unfold dropClaim claimWithdrawn
  dsimp only
  split <;> rfl

theorem dropClaim_frost : (dropClaim s).frost = { s.frost with ownClaim := .idle, granted := false } := by
  unfold dropClaim
  dsimp only
  split <;> rfl

@[simp] theorem leaveRun_own : (leaveRun s).own = s.own := leaveRun_frame s .own (by decide)
@[simp] theorem leaveRun_peers : (leaveRun s).peers = s.peers := leaveRun_frame s .peers (by decide)
@[simp] theorem leaveRun_time : (leaveRun s).time = s.time := leaveRun_frame s .time (by decide)
@[simp] theorem leaveRun_fan : (leaveRun s).fan = s.fan := leaveRun_frame s .fan (by decide)
@[simp] theorem leaveRun_demand : (leaveRun s).demand = s.demand := leaveRun_frame s .demand (by decide)
@[simp] theorem leaveRun_svc : (leaveRun s).svc = s.svc := leaveRun_frame s .svc (by decide)

@[simp] theorem leaveRun_line : (leaveRun s).line = claimWithdrawn s := by
  unfold leaveRun
  rw [filterDeparture_frame _ .line (by decide), climateDeparture_frame _ .line (by decide), frostDeparture,
    State.withFrost_line, dropClaim_line]
  rfl

@[simp] theorem leaveRun_frost : (leaveRun s).frost =
    { s.frost with ownClaim := .idle, granted := false, claims := [], postThaw := none } := by
  unfold leaveRun
  rw [filterDeparture_frame _ .frost (by decide), climateDeparture_frame _ .frost (by decide), frostDeparture,
    State.withFrost_frost, dropClaim_frost]
  rfl

@[simp] theorem leaveRun_clim : (leaveRun s).clim =
    { withdrawPurposes halfPurpose s.clim with midPoint := none, endPoint := none, awaiting := none } := by
  have before : (frostDeparture (cutPass (stopReversals s))).clim = s.clim := frostDeparture_frame _ .clim (by decide)
  unfold leaveRun
  rw [filterDeparture_frame _ .clim (by decide), climateDeparture, cutClimateJob_frame _ .clim (by decide),
    State.withClim_clim, before]

@[simp] theorem leaveRun_filt : (leaveRun s).filt = { s.filt with held := none } := by
  have before : (climateDeparture (frostDeparture (cutPass (stopReversals s)))).filt = s.filt :=
    (climateDeparture_frame _ .filt (by decide)).trans (frostDeparture_frame _ .filt (by decide))
  unfold leaveRun
  rw [filterDeparture, cutFilterJob_frame _ .filt (by decide), State.withFilt_filt, before]

@[simp] theorem leaveRun_pass : (leaveRun s).pass =
    { s.pass with current := false, state := cutState s.pass.state } := by
  have after : (leaveRun s).pass = (cutPass (stopReversals s)).pass :=
    (filterDeparture_frame _ .pass (by decide)).trans ((climateDeparture_frame _ .pass (by decide)).trans
      (frostDeparture_frame _ .pass (by decide)))
  rw [after, cutPass_pass]
  rfl

/-- Waiting requests are withdrawn, and a job on the engine is marked for discard (R87, R125, R168). -/
@[simp] theorem leaveRun_unit : (leaveRun s).unit =
    { engine := discarded s.unit.engine, waitPass := false, waitClimate := none, waitFilter := none } := by
  have claim (x : State) : (frostDeparture x).unit = x.unit := frostDeparture_frame x .unit (by decide)
  unfold leaveRun filterDeparture climateDeparture cutFilterJob cutClimateJob
  simp only [State.withUnit_unit, State.withFilt_unit, State.withClim_unit, claim]
  cases h : s.unit.engine <;> simp [cutPass, stopReversals, h, discarded]

end

/-! ### A LEAVE in the queue (R34, R160, R179) -/

theorem queueEmpty_of_leave {s : State} (h : leaveQueued s = true) : queueEmpty s = false := by
  unfold leaveQueued at h
  unfold queueEmpty
  cases hq : s.line.txq with
  | cons x xs => rfl
  | nil =>
    cases hr : s.line.replacement with
    | none => simp [hq, hr] at h
    | some r => rfl

/-- A notice that finds its class in the queue, or room, stands in the queue or in the replacement place. -/
theorem acceptNotice_stands {e : TxEntry} {l : LineControl}
    (h : (∃ old, entryOf e.cls l.txq = some old) ∨ l.txq.length < 4) :
    e ∈ (acceptNotice e l).txq ∨ (acceptNotice e l).replacement = some e := by
  cases hc : entryOf e.cls l.txq with
  | some old =>
    cases on : old.onLine with
    | true => exact .inr (by rw [acceptNotice_waits hc on])
    | false => exact .inl (by rw [acceptNotice_supersedes hc on]; exact mem_placeEntry _ _)
  | none =>
    have room : l.txq.length < 4 := h.resolve_left fun ⟨old, hold⟩ => by simp [hc] at hold
    exact .inl (by rw [acceptNotice_free hc room]; exact mem_placeEntry _ _)

/-- Outside CUT OFF a notice of a class that MUTED sends is accepted. -/
theorem queueNotice_accepted {s : State} {e : TxEntry} (h : s.line.faultCount < 64) (hm : mutedClass e.cls = false) :
    queueNotice e s = s.withLine (acceptNotice e s.line) := by
  by_cases h32 : s.line.faultCount < 32
  · exact queueNotice_open e h32
  · rw [queueNotice, lineState_muted (by omega) h]
    simp [hm]

theorem leaveQueued_of {s : State} {e : TxEntry} (he : isLeave e = true)
    (h : e ∈ s.line.txq ∨ s.line.replacement = some e) : leaveQueued s = true := by
  unfold leaveQueued
  rcases h with h | h
  · rw [List.any_eq_true.mpr ⟨e, h, he⟩]
    rfl
  · simp [h, he]

theorem queueLeave_stands {s : State} (h : s.line.faultCount < 64) (room : s.line.txq.length < 4) :
    leaveQueued (queueLeave s) = true := by
  rw [queueLeave, queueNotice_accepted h rfl]
  exact leaveQueued_of (e := newEntry .phase false s.own.node true []) rfl (acceptNotice_stands (.inr room))

/-- Of the line block a notice changes the queue, its replacement place and the drop count alone. -/
theorem acceptNotice_fields (e : TxEntry) (l : LineControl) : acceptNotice e l =
    { l with
      txq := (acceptNotice e l).txq, replacement := (acceptNotice e l).replacement, drops := (acceptNotice e l).drops } := by
  unfold acceptNotice
  split
  · split <;> rfl
  · split
    · rfl
    · split
      · split <;> rfl
      · rfl

theorem queueNotice_fields (e : TxEntry) (s : State) : (queueNotice e s).line =
    { s.line with
      txq := (queueNotice e s).line.txq, replacement := (queueNotice e s).line.replacement
      drops := (queueNotice e s).line.drops } := by
  unfold queueNotice
  split
  · rfl
  · split
    · rfl
    · exact acceptNotice_fields e s.line
  · exact acceptNotice_fields e s.line

theorem queueNotice_rxq (e : TxEntry) (s : State) : (queueNotice e s).line.rxq = s.line.rxq := by
  rw [queueNotice_fields]

theorem withdrawEntries_length (p : TxEntry → Bool) (q : List TxEntry) : (withdrawEntries p q).length ≤ q.length := by
  simp only [withdrawEntries, List.length_map]
  exact List.length_filter_le _ _

theorem claimWithdrawn_facts (s : State) : (claimWithdrawn s).faultCount = s.line.faultCount ∧
    (claimWithdrawn s).rxq = s.line.rxq ∧ (claimWithdrawn s).txq.length ≤ s.line.txq.length := by
  unfold claimWithdrawn
  split
  · exact ⟨rfl, rfl, withdrawEntries_length _ _⟩
  · exact ⟨rfl, rfl, Nat.le_refl _⟩

theorem claimWithdrawn_of_empty {s : State} (hq : s.line.txq = []) (hr : s.line.replacement = none) :
    claimWithdrawn s = s.line := by
  unfold claimWithdrawn
  split
  · simp only [withdraw, State.withLine_line, hq, hr, withdrawEntries]
    rw [List.filter_nil, List.map_nil, Option.filter_none, ← hq, ← hr]
  · rfl

/-! ### Stop requests of mode control (R97, R111) -/

section
variable {s : State}

theorem modeStop_frame (s : State) : othersKept [.fan, .own] s (modeStop s) := by
  unfold modeStop
  refine othersKept_within (bs := [.fan]) ?_ (stopRequest_frame _)
  split
  · exact withFan_frame s _
  · exact othersKept_refl _ _

theorem modeStop_wanted (s : State) : (modeStop s).fan.wanted = .halt ∧ (modeStop s).fan.restart = false :=
  stopRequest_wanted _

/-- The state that mode control's stop request is made from: a running trial is PENDING again. -/
def trialReturned (s : State) : State :=
  if s.fan.trial = .running then s.withFan { s.fan with trial := .pending } else s

theorem modeStop_eq (s : State) : modeStop s = stopRequest (trialReturned s) := rfl

theorem trialReturned_frame (s : State) : othersKept [.fan] s (trialReturned s) := by
  unfold trialReturned
  split
  · exact withFan_frame s _
  · exact othersKept_refl _ _

@[simp] theorem trialReturned_state (s : State) : (trialReturned s).fan.state = s.fan.state := by
  unfold trialReturned
  split <;> rfl

theorem modeStop_running (h : s.fan.state = .running) : (modeStop s).fan.state = .rampDown ∧
    (modeStop s).fan.target = some .halt ∧ (modeStop s).own = s.own := by
  have own : (trialReturned s).own = s.own := trialReturned_frame s .own (by decide)
  have state : (trialReturned s).fan.state = .running := by simpa using h
  rw [modeStop_eq, stopRequest, state]
  exact ⟨rfl, rfl, own⟩

theorem modeStop_stopped (h : s.fan.state = .stopped) (hm : s.mode.mode ≠ .run) : (modeStop s).fan.state = .stopped ∧
    (modeStop s).own = { s.own with direction := .halt, want := 0, ceil := 0, flow := 0 } := by
  have own : (trialReturned s).own = s.own := trialReturned_frame s .own (by decide)
  have mode : (trialReturned s).mode = s.mode := trialReturned_frame s .mode (by decide)
  have state : (trialReturned s).fan.state = .stopped := by simpa using h
  have outside : ¬ (trialReturned s).mode.mode = .run := by rw [mode]; exact hm
  rw [modeStop_eq, stopRequest, state]
  dsimp only
  refine ⟨by simpa using state, ?_⟩
  rw [fanStopped, State.withFan_mode, if_neg outside, haltOwn, State.withOwn_own, State.withFan_own, own]

end

/-! ### The entry to REST (R159 to R161) -/

section
variable (length : Nat) (s : State)

theorem restCommon_mode : (restCommon length s).mode = { s.mode with mode := .rest } := rfl
theorem restCommon_demand : (restCommon length s).demand =
    { s.demand with
      buttonBoost := none, runOn := none, humidity := .off
      restTimer := some (Count.later s.time.now length) } := rfl
theorem restCommon_clim : (restCommon length s).clim =
    { s.clim with restSampling := some (Count.later s.time.now 61440) } := rfl
theorem restCommon_filt : (restCommon length s).filt = { s.filt with held := none } := rfl
theorem restCommon_fan : (restCommon length s).fan = { s.fan with cap := none, ceilRef := none, window := [] } := rfl

theorem restCommon_frame : othersKept [.mode, .demand, .clim, .filt, .fan] s (restCommon length s) :=
  othersKept_append (withMode_frame s _) (othersKept_append (withDemand_frame _ _)
    (othersKept_append (withClim_frame _ _) (othersKept_append (withFilt_frame _ _) (fanModeEntry_frame _))))

/-- The station in REST out of RUN, its LEAVE not yet queued (R160). -/
def restLeaving : State := markLeaving (restCommon length (leaveRun s))

theorem restLeaving_frame : othersKept [.rev, .unit, .pass, .line, .frost, .clim, .filt, .mode, .demand, .fan, .own] s
    (restLeaving length s) :=
  othersKept_mono (othersKept_append (leaveRun_frame s) (othersKept_append (restCommon_frame length _)
    (withOwn_frame _ _))) (by decide)

/-- The flush after a LEAVE (R160). -/
def startFlush (s : State) : State := s.withDemand { s.demand with flush := some (Count.later s.time.now 2048) }

theorem restFromRun_eq : restFromRun length s = startFlush (queueLeave (restLeaving length s)) := rfl

theorem restLeaving_mode : (restLeaving length s).mode = { s.mode with mode := .rest } := by
  rw [restLeaving, markLeaving, State.withOwn_mode, restCommon_mode, leaveRun_mode]

theorem restLeaving_own : (restLeaving length s).own = { s.own with leaving := true } := by
  rw [restLeaving, markLeaving, State.withOwn_own, restCommon_frame _ _ .own (by decide), leaveRun_own]

theorem restLeaving_line : (restLeaving length s).line = claimWithdrawn s := by
  rw [restLeaving, markLeaving, State.withOwn_line, restCommon_frame _ _ .line (by decide), leaveRun_line]

theorem restLeaving_demand : (restLeaving length s).demand =
    { s.demand with
      buttonBoost := none, runOn := none, humidity := .off
      restTimer := some (Count.later s.time.now length) } := by
  rw [restLeaving, markLeaving, State.withOwn_demand, restCommon_demand, leaveRun_demand, leaveRun_time]

theorem restLeaving_rev : (restLeaving length s).rev = (stopReversals s).rev := by
  rw [restLeaving, markLeaving, State.withOwn_rev, restCommon_frame _ _ .rev (by decide), leaveRun_rev]

theorem restLeaving_frost : (restLeaving length s).frost =
    { s.frost with ownClaim := .idle, granted := false, claims := [], postThaw := none } := by
  rw [restLeaving, markLeaving, State.withOwn_frost, restCommon_frame _ _ .frost (by decide), leaveRun_frost]

theorem restLeaving_unit : (restLeaving length s).unit =
    { engine := discarded s.unit.engine, waitPass := false, waitClimate := none, waitFilter := none } := by
  rw [restLeaving, markLeaving, State.withOwn_unit, restCommon_frame _ _ .unit (by decide), leaveRun_unit]

theorem restLeaving_pass : (restLeaving length s).pass =
    { s.pass with current := false, state := cutState s.pass.state } := by
  rw [restLeaving, markLeaving, State.withOwn_pass, restCommon_frame _ _ .pass (by decide), leaveRun_pass]

theorem restLeaving_clim : (restLeaving length s).clim =
    { withdrawPurposes halfPurpose s.clim with
      midPoint := none, endPoint := none, awaiting := none
      restSampling := some (Count.later s.time.now 61440) } := by
  rw [restLeaving, markLeaving, State.withOwn_clim, restCommon_clim, leaveRun_clim, leaveRun_time]

theorem restLeaving_filt : (restLeaving length s).filt = { s.filt with held := none } := by
  rw [restLeaving, markLeaving, State.withOwn_filt, restCommon_filt, leaveRun_filt]

theorem restLeaving_fan : (restLeaving length s).fan = { s.fan with cap := none, ceilRef := none, window := [] } := by
  rw [restLeaving, markLeaving, State.withOwn_fan, restCommon_fan, leaveRun_fan]

/-- No RUN work is left in a state that agrees with it on the blocks that hold such work. -/
theorem runWorkOnlyInRun_of_idle {u : State} (hr : u.rev = (stopReversals s).rev)
    (hc : u.clim.midPoint = none ∧ u.clim.endPoint = none) (hf : u.frost.claims = []) (hl : u.filt.held = none) :
    runWorkOnlyInRun u := by
  intro _
  rw [hr]
  exact ⟨rfl, rfl, rfl, rfl, hc.1, hc.2, hf, hl⟩

end

/-- The flush waits while a notice stands in the queue (R160). -/
theorem settleFlush_waits {s : State} (hm : s.mode.mode = .rest) (h : s.demand.flush = none ∨ queueEmpty s = false) :
    settleFlush s = s := by
  have hsetup : ¬ s.mode.mode = .setup := by simp [hm]
  rcases h with h | h <;> simp [settleFlush, hm, h]

/-- With an empty queue the flush of REST ends (R160). -/
theorem settleFlush_ends {s : State} (hm : s.mode.mode = .rest) (hf : s.demand.flush.isSome = true)
    (h : queueEmpty s = true) : settleFlush s = endRestFlush s := by
  rw [settleFlush, if_pos ⟨hm, hf, h⟩]

/-- The end of a flush without a held wake is mode control's stop request (R160). -/
theorem endRestFlush_without_wake {s : State} (h : s.demand.heldWake = none) :
    endRestFlush s = modeStop (s.withDemand { s.demand with flush := none, heldWake := none }) := by
  simp [endRestFlush, h]

theorem restLength_eq (arg : Nat) : restLength arg = if arg = 0 then 29491200 else arg * 614400 := rfl

end Sys2Proof.Laws
end

section
/-! ## HOUSE_REST (R159 to R161) -/

namespace Sys2Proof.Laws

open Sys2Proof.Machine Sys2Proof.Safety

theorem applyHouseRest_run {f : RxFrame} {arg : Nat} {s : State} (h : s.mode.mode = .run) :
    applyHouseRest f (.house (.rest arg)) s =
      settleFlush (startFlush (queueLeave (restLeaving (restLength arg) s))) := by
  simp only [applyHouseRest, applyRest, h, restFromRun_eq]

theorem applyHouseRest_join {f : RxFrame} {arg : Nat} {s : State} (h : s.mode.mode = .join) :
    applyHouseRest f (.house (.rest arg)) s =
      settleFlush (haltOwn (restCommon (restLength arg) (stopReversals s))) := by
  simp only [applyHouseRest, applyRest, h]
  rfl

theorem applyHouseRest_rest {f : RxFrame} {arg : Nat} {s : State} (h : s.mode.mode = .rest) :
    applyHouseRest f (.house (.rest arg)) s =
      settleFlush (s.withDemand { s.demand with restTimer := some (Count.later s.time.now (restLength arg)) }) := by
  simp only [applyHouseRest, applyRest, h]

/-- REST from RUN outside CUT OFF: the LEAVE stands in the queue, and the flush waits for it (R160). -/
theorem restFromRun_waits {length : Nat} {s : State} (hcount : s.line.faultCount < 64) (room : s.line.txq.length < 4) :
    leaveQueued (startFlush (queueLeave (restLeaving length s))) = true ∧
      settleFlush (startFlush (queueLeave (restLeaving length s))) =
        startFlush (queueLeave (restLeaving length s)) := by
  obtain ⟨count, -, shorter⟩ := claimWithdrawn_facts s
  have stands : leaveQueued (queueLeave (restLeaving length s)) = true := by
    refine queueLeave_stands ?_ ?_
    · rw [restLeaving_line, count]
      exact hcount
    · rw [restLeaving_line]
      exact Nat.lt_of_le_of_lt shorter room
  have mode : (queueLeave (restLeaving length s)).mode.mode = .rest := by
    rw [queueLeave, queueNotice_frame _ _ .mode (by decide), restLeaving_mode]
  exact ⟨stands, settleFlush_waits mode (.inr (queueEmpty_of_leave stands))⟩

/-- REST from RUN in CUT OFF with an empty queue: the LEAVE is discarded, and the flush ends at once (R41, R160). -/
theorem restFromRun_inCutOff {length : Nat} {s : State} (hcount : 64 ≤ s.line.faultCount) (hq : s.line.txq = [])
    (hr : s.line.replacement = none) (hw : s.demand.heldWake = none) :
    settleFlush (startFlush (queueLeave (restLeaving length s))) =
      modeStop ((restLeaving length s).withDemand
        { (restLeaving length s).demand with flush := none, heldWake := none }) := by
  have line : (restLeaving length s).line = s.line := by rw [restLeaving_line, claimWithdrawn_of_empty hq hr]
  have mode : (restLeaving length s).mode.mode = .rest := by rw [restLeaving_mode]
  have gone : queueLeave (restLeaving length s) = restLeaving length s :=
    queueNotice_cutOff _ (by rw [line]; exact hcount)
  have empty : queueEmpty (startFlush (restLeaving length s)) = true := by
    simp [queueEmpty, startFlush, line, hq, hr]
  have wake : (startFlush (restLeaving length s)).demand.heldWake = none := by
    rw [startFlush, State.withDemand_demand, restLeaving_demand]
    exact hw
  rw [gone, settleFlush_ends (s := startFlush (restLeaving length s)) mode rfl empty, endRestFlush_without_wake wake]
  rfl

/-- Settles O35. -/
theorem houseRestEntersRest : Obligations.HouseRestEntersRest := by
  refine ⟨?fromRun, ?inCutOff, ?fromJoin, ?inRest⟩
  case fromRun =>
    intro t s f rest arg free front decoded mode hcount room
    refine ⟨finish (takeNotice .house isHouseRest applyHouseRest (advanceTo t s)), rfl, ?_⟩
    rw [takeNotice_at .house free front decoded rfl rfl rfl, applyHouseRest_run (by simpa using mode)]
    obtain ⟨stands, waits⟩ := restFromRun_waits (length := restLength arg) (s := noticeState rest t s)
      (by simpa using hcount) (by simpa using room)
    rw [waits]
    have left := restLeaving_frame (restLength arg) (noticeState rest t s)
    have queued : othersKept [.line, .demand] (restLeaving (restLength arg) (noticeState rest t s))
        (startFlush (queueLeave (restLeaving (restLength arg) (noticeState rest t s)))) :=
      othersKept_append (queueNotice_frame _ _) (withDemand_frame _ _)
    have now : (queueLeave (restLeaving (restLength arg) (noticeState rest t s))).time = (advanceTo t s).time :=
      (queueNotice_frame _ _ .time (by decide)).trans ((left .time (by decide)).trans (noticeState_time rest t s))
    have demand : (startFlush (queueLeave (restLeaving (restLength arg) (noticeState rest t s)))).demand =
        { s.demand with
          buttonBoost := none, runOn := none, humidity := .off
          restTimer := some (Count.later (advanceTo t s).time.now (restLength arg))
          flush := some (Count.later (advanceTo t s).time.now 2048) } := by
      rw [startFlush, State.withDemand_demand, now, queueLeave, queueNotice_frame _ _ .demand (by decide),
        restLeaving_demand, noticeState_demand, noticeState_time]
    have rxq : (startFlush (queueLeave (restLeaving (restLength arg) (noticeState rest t s)))).line.rxq = rest := by
      rw [startFlush, State.withDemand_line, queueLeave, queueNotice_rxq, restLeaving_line,
        (claimWithdrawn_facts _).2.1, noticeState_line]
    have frost := (queued .frost (by decide)).trans (restLeaving_frost (restLength arg) (noticeState rest t s))
    have unit := (queued .unit (by decide)).trans (restLeaving_unit (restLength arg) (noticeState rest t s))
    have clim := (queued .clim (by decide)).trans (restLeaving_clim (restLength arg) (noticeState rest t s))
    have rev := (queued .rev (by decide)).trans (restLeaving_rev (restLength arg) (noticeState rest t s))
    have filt := (queued .filt (by decide)).trans (restLeaving_filt (restLength arg) (noticeState rest t s))
    rw [noticeState_unit] at unit
    rw [noticeState_frost] at frost
    rw [noticeState_time] at clim
    refine ⟨?_, ?_, stands, rxq, ?_, ?_, ?_, ?_, ?_, ?_, ?_, ?_, ?_, ?_, ?_, ?_, ?_, ?_, ?_, ?_, ?_, ?_, ?_, ?_, ?_,
      finish_within (othersKept_append (othersKept_append (noticeState_frame rest t s) left) queued)⟩
    · rw [finish_mode, queued .mode (by decide), restLeaving_mode]
    · rw [finish_own, queued .own (by decide), restLeaving_own, noticeState_own]
    · rw [finish_demand, demand, restLength_eq]
    iterate 6
      · rw [finish_demand, demand]
    · rw [finish_rev, rev]
      rfl
    · rw [finish_rev, rev]
      rfl
    · refine runWorkOnlyInRun_of_idle (s := noticeState rest t s) rev ?_ ?_ ?_
      · rw [finish_clim, clim]
        exact ⟨rfl, rfl⟩
      · rw [finish_frost, frost]
      · rw [finish_filt, filt]
    iterate 4
      · rw [finish_frost, frost]
    iterate 3
      · rw [finish_unit, unit]
    · rw [finish_unit, unit]
      cases s.unit.engine <;> rfl
    · rw [finish_pass, queued .pass (by decide), restLeaving_pass, noticeState_pass]
      cases s.pass.state <;> rfl
    · rw [finish_clim, clim]
    · rw [finish_fan, queued .fan (by decide), restLeaving_fan, noticeState_fan]
  case inCutOff =>
    intro t s f rest arg free front decoded mode hcount hq hr hw
    refine ⟨finish (takeNotice .house isHouseRest applyHouseRest (advanceTo t s)), rfl, ?_⟩
    rw [takeNotice_at .house free front decoded rfl rfl rfl, applyHouseRest_run (by simpa using mode),
      restFromRun_inCutOff (by simpa using hcount) (by simpa using hq) (by simpa using hr) (by simpa using hw)]
    generalize hv : (restLeaving (restLength arg) (noticeState rest t s)).withDemand
      { (restLeaving (restLength arg) (noticeState rest t s)).demand with flush := none, heldWake := none } = v
    have stop := modeStop_frame v
    have mode' : v.mode = { s.mode with mode := .rest } := by
      rw [← hv, State.withDemand_mode, restLeaving_mode, noticeState_mode]
    have own : v.own = { s.own with leaving := true } := by
      rw [← hv, State.withDemand_own, restLeaving_own, noticeState_own]
    have line : v.line = { s.line with rxq := rest } := by
      rw [← hv, State.withDemand_line, restLeaving_line,
        claimWithdrawn_of_empty (by simpa using hq) (by simpa using hr), noticeState_line]
    have demand : v.demand = { s.demand with
        buttonBoost := none, runOn := none, humidity := .off, flush := none, heldWake := none
        restTimer := some (Count.later (advanceTo t s).time.now (restLength arg)) } := by
      rw [← hv, State.withDemand_demand, restLeaving_demand, noticeState_demand, noticeState_time]
    have fan : v.fan.state = s.fan.state := by rw [← hv, State.withDemand_fan, restLeaving_fan, noticeState_fan]
    have frost : v.frost = { s.frost with ownClaim := .idle, granted := false, claims := [], postThaw := none } := by
      rw [← hv, State.withDemand_frost, restLeaving_frost, noticeState_frost]
    have unit : v.unit =
        { engine := discarded s.unit.engine, waitPass := false, waitClimate := none, waitFilter := none } := by
      rw [← hv, State.withDemand_unit, restLeaving_unit, noticeState_unit]
    have pass : v.pass = { s.pass with current := false, state := cutState s.pass.state } := by
      rw [← hv, State.withDemand_pass, restLeaving_pass, noticeState_pass]
    have idle : runWorkOnlyInRun (finish (modeStop v)) := by
      refine runWorkOnlyInRun_of_idle (s := noticeState rest t s) ?_ ?_ ?_ ?_
      · rw [finish_rev, stop .rev (by decide), ← hv, State.withDemand_rev, restLeaving_rev]
      · rw [finish_clim, stop .clim (by decide), ← hv, State.withDemand_clim, restLeaving_clim]
        exact ⟨rfl, rfl⟩
      · rw [finish_frost, stop .frost (by decide), frost]
      · rw [finish_filt, stop .filt (by decide), ← hv, State.withDemand_filt, restLeaving_filt]
    obtain ⟨wanted, restart⟩ := modeStop_wanted v
    refine ⟨?_, ?_, ?_, ?_, wanted, restart, fun running => ?_, fun stopped => ?_, idle, ?_, ?_, ?_, ?_, ?_, ?_, ?_⟩
    · rw [finish_mode, stop .mode (by decide), mode']
    · rw [finish_line, stop .line (by decide), line]
    · rw [finish_demand, stop .demand (by decide), demand]
    · rw [finish_demand, stop .demand (by decide), demand, restLength_eq]
    · obtain ⟨state, target, stays⟩ := modeStop_running (fan.trans running)
      exact ⟨state, target, stays.trans own⟩
    · obtain ⟨state, halted⟩ := modeStop_stopped (fan.trans stopped) (by rw [mode']; simp)
      exact ⟨state, by rw [finish_own, halted, own]⟩
    · rw [finish_frost, stop .frost (by decide), frost]
    · rw [finish_demand, stop .demand (by decide), demand]
    iterate 3
      · rw [finish_unit, stop .unit (by decide), unit]
    · rw [finish_unit, stop .unit (by decide), unit]
      cases s.unit.engine <;> rfl
    · rw [finish_pass, stop .pass (by decide), pass]
      cases s.pass.state <;> rfl
  case fromJoin =>
    intro t s f rest arg free front decoded mode noFlush
    refine ⟨finish (takeNotice .house isHouseRest applyHouseRest (advanceTo t s)), rfl, ?_⟩
    rw [takeNotice_at .house free front decoded rfl rfl rfl, applyHouseRest_join (by simpa using mode)]
    have common := restCommon_frame (restLength arg) (stopReversals (noticeState rest t s))
    have flush : (haltOwn (restCommon (restLength arg) (stopReversals (noticeState rest t s)))).demand.flush = none := by
      rw [haltOwn, State.withOwn_demand, restCommon_demand]
      simpa [stopReversals] using noFlush
    rw [settleFlush_waits rfl (.inl flush)]
    refine ⟨?_, ?_, ?_, ?_, ?_, ?_, ?_, ?_,
      finish_within (othersKept_append (noticeState_frame rest t s) (othersKept_append (stopReversals_frame _)
        (othersKept_append common (withOwn_frame _ _))))⟩
    · simp [haltOwn, restCommon_mode, stopReversals]
    · rw [finish_line, haltOwn, State.withOwn_line, common .line (by decide)]
      exact noticeState_line rest t s
    · rw [finish_own, haltOwn, State.withOwn_own, common .own (by decide)]
      simp [stopReversals]
    · rw [finish_demand, haltOwn, State.withOwn_demand, restCommon_demand, restLength_eq]
      simp [stopReversals]
    · rw [finish_rev, haltOwn, State.withOwn_rev, common .rev (by decide)]
      rfl
    · rw [finish_rev, haltOwn, State.withOwn_rev, common .rev (by decide)]
      rfl
    · simp [haltOwn, restCommon_clim, stopReversals]
    · simp [haltOwn, restCommon_fan, stopReversals]
  case inRest =>
    intro t s f rest arg free front decoded mode stays
    refine ⟨finish (takeNotice .house isHouseRest applyHouseRest (advanceTo t s)), rfl, ?_⟩
    rw [takeNotice_at .house free front decoded rfl rfl rfl, applyHouseRest_rest (by simpa using mode),
      settleFlush_waits (by simpa using mode) (stays.imp (fun h => by simpa using h) fun h => by simp [queueEmpty, h])]
    refine ⟨by simp, ?_, finish_within (othersKept_append (noticeState_frame rest t s) (withDemand_frame _ _))⟩
    rw [finish_demand, State.withDemand_demand, noticeState_demand, noticeState_time, restLength_eq]

end Sys2Proof.Laws
end

section
/-! ## CLEAR checks asked of the converter (R114, R116) -/

namespace Sys2Proof.Laws

open Sys2Proof.Machine Sys2Proof.Safety

/-- A purpose of a source waits, or its conversion runs (R114). -/
def asked (c : ClimateSensing) (src : Source) (p : Purpose) : Prop :=
  p ∈ waitingFor c src ∨ ∃ x, c.converting = some x ∧ x.source = src ∧ p ∈ x.purposes

theorem checkAsked_of_asked {c : ClimateSensing} {src : Source} (h : asked c src .clearCheck) :
    checkAsked c src = true := by
  unfold checkAsked
  rcases h with h | ⟨x, hx, hs, hp⟩
  · simp [h]
  · simp [hx, hs, hp]

@[simp] theorem waitingFor_withWaiting (c : ClimateSensing) (src : Source) (ps : List Purpose) :
    waitingFor (withWaiting c src ps) src = ps := by cases src <;> rfl

theorem waitingFor_withWaiting_ne {c : ClimateSensing} {src src' : Source} (ps : List Purpose) (h : src' ≠ src) :
    waitingFor (withWaiting c src ps) src' = waitingFor c src' := by
  cases src <;> cases src'
  all_goals simp_all [withWaiting, waitingFor]

@[simp] theorem withWaiting_converting (c : ClimateSensing) (src : Source) (ps : List Purpose) :
    (withWaiting c src ps).converting = c.converting := by cases src <;> rfl

theorem waitingFor_addRequest (src : Source) (p : Purpose) (c : ClimateSensing) (src' : Source) :
    ∀ q ∈ waitingFor c src', q ∈ waitingFor (addRequest src p c) src' := by
  intro q hq
  unfold addRequest
  split
  · exact hq
  · by_cases h : src' = src
    · subst h
      simp [hq]
    · rw [waitingFor_withWaiting_ne _ h]
      exact hq

theorem addRequest_converting (src : Source) (p : Purpose) (c : ClimateSensing) :
    (addRequest src p c).converting = c.converting := by
  unfold addRequest
  split <;> simp

theorem addRequest_waits (src : Source) (p : Purpose) (c : ClimateSensing) : p ∈ waitingFor (addRequest src p c) src := by
  unfold addRequest
  split
  · assumption
  · simp

/-- Further requests leave what is asked already (R114). -/
theorem addRequest_asked {c : ClimateSensing} {src' : Source} {q : Purpose} (src : Source) (p : Purpose)
    (h : asked c src' q) : asked (addRequest src p c) src' q :=
  h.imp (waitingFor_addRequest src p c src' q) fun h => by rwa [addRequest_converting]

theorem addRequests_asked {c : ClimateSensing} {src : Source} {q : Purpose} (rs : List (Source × Purpose))
    (h : asked c src q ∨ (src, q) ∈ rs) : asked (rs.foldl (fun c r => addRequest r.1 r.2 c) c) src q := by
  induction rs generalizing c with
  | nil => exact h.resolve_right (by simp)
  | cons r rs ih =>
    refine ih ?_
    rcases h with h | h
    · exact .inl (addRequest_asked r.1 r.2 h)
    · rcases List.mem_cons.mp h with rfl | h
      · exact .inl (.inl (addRequest_waits _ _ c))
      · exact .inr h

/-- Starting a conversion moves the purposes of its source from the waiting ones to the conversion (R114). -/
theorem startConversion_asked {c : ClimateSensing} {src : Source} {q : Purpose} (h : asked c src q) :
    asked (startConversion c) src q := by
  unfold startConversion
  split
  next src' hc hw =>
    rcases h with h | ⟨x, hx, -⟩
    · by_cases hs : src = src'
      · subst hs
        exact .inr ⟨_, rfl, rfl, h⟩
      · refine .inl ?_
        have := waitingFor_withWaiting_ne (c := c) [] hs
        cases src <;> exact this ▸ h
    · simp [hc] at hx
  next => exact h

/-- What a request asks, and what was asked before it, is asked after it (R114). -/
theorem requestConversions_asked {s : State} {src : Source} {q : Purpose} (rs : List (Source × Purpose))
    (h : asked s.clim src q ∨ (src, q) ∈ rs) : asked (requestConversions rs s).clim src q :=
  startConversion_asked (addRequests_asked rs h)

/-- Climate sensing with another conversion and other waiting purposes. -/
def withRequestsOf (c d : ClimateSensing) : ClimateSensing :=
  { c with
    converting := d.converting, waitOuter := d.waitOuter, waitInner := d.waitInner, waitRh := d.waitRh }

theorem withRequestsOf_trans {c d e : ClimateSensing} (h1 : d = withRequestsOf c d) (h2 : e = withRequestsOf d e) :
    e = withRequestsOf c e := by
  rw [h1] at h2
  exact h2

theorem startConversion_fields (c : ClimateSensing) : startConversion c = withRequestsOf c (startConversion c) := by
  unfold startConversion withWaiting
  split
  · split <;> rfl
  · rfl

theorem addRequests_fields (rs : List (Source × Purpose)) (c : ClimateSensing) :
    rs.foldl (fun c r => addRequest r.1 r.2 c) c = withRequestsOf c (rs.foldl (fun c r => addRequest r.1 r.2 c) c) := by
  induction rs generalizing c with
  | nil => rfl
  | cons r rs ih =>
    have one : addRequest r.1 r.2 c = withRequestsOf c (addRequest r.1 r.2 c) := by
      unfold addRequest withWaiting
      split
      · rfl
      · split <;> rfl
    exact withRequestsOf_trans one (ih _)

/-- Requests write the waiting purposes and the conversion alone. -/
theorem requestConversions_clim (rs : List (Source × Purpose)) (s : State) :
    (requestConversions rs s).clim = withRequestsOf s.clim (requestConversions rs s).clim :=
  withRequestsOf_trans (addRequests_fields rs s.clim) (startConversion_fields _)

/-- The sensors without the CLEAR marks of START. -/
def unmarked (c : ClimateSensing) : ClimateSensing :=
  { c with
    outer := { c.outer with clearMark := false }
    inner := { c.inner with clearMark := false }
    rhSensor := { c.rhSensor with clearMark := false } }

theorem requestMarkedChecks_clim (s : State) :
    (requestMarkedChecks s).clim = withRequestsOf (unmarked s.clim) (requestMarkedChecks s).clim :=
  requestConversions_clim _ _

/-- At an entry to SETUP or JOIN each marked CLEAR check is asked, and its mark is gone (R116). -/
theorem requestMarkedChecks_asked {s : State} {src : Source} (h : (sensorOf s.clim src).clearMark = true) :
    checkAsked (requestMarkedChecks s).clim src = true := by
  refine checkAsked_of_asked (requestConversions_asked _ (.inr ?_))
  simp only [List.mem_map, List.mem_filter]
  exact ⟨src, ⟨by cases src <;> simp, h⟩, rfl⟩

end Sys2Proof.Laws
end

section
/-! ## The entry to SETUP (R39, R145, R147, R176, R178 to R180, R182) -/

namespace Sys2Proof.Laws

open Sys2Proof.Machine Sys2Proof.Safety

/-! ### The queue at the entry (R34, R179) -/

/-- Withdrawing leaves on the line what is on the line (R34). -/
theorem withdrawEntries_onLine (p : TxEntry → Bool) (q : List TxEntry) :
    ((withdrawEntries p q).filter fun e => e.onLine).length = (q.filter fun e => e.onLine).length := by
  induction q with
  | nil => rfl
  | cons e q ih =>
    simp only [withdrawEntries] at ih ⊢
    cases hp : p e <;> cases ho : e.onLine <;> simp [hp, ho, ih]

theorem withdrawAll (q : List TxEntry) : withdrawEntries (fun _ => true) q =
    (q.filter fun e => e.onLine).map fun e => { e with withdrawn := true } := by
  simp [withdrawEntries]

/-- A queue that mode control has emptied: what is on the line stays alone, marked withdrawn (R34, R179). -/
def emptied (l : LineControl) : Prop :=
  l.txq.length ≤ 1 ∧ (∀ x ∈ l.txq, x.onLine = true) ∧ l.replacement = none

/-- Of two notices of distinct classes that meet such a queue each stands in the queue or in the replacement place,
and none is dropped (R31). -/
theorem acceptNotice_pair {l : LineControl} {e e' : TxEntry} (h : emptied l) (hne : e.cls ≠ e'.cls) :
    (e ∈ (acceptNotice e' (acceptNotice e l)).txq ∨ (acceptNotice e' (acceptNotice e l)).replacement = some e) ∧
      (e' ∈ (acceptNotice e' (acceptNotice e l)).txq ∨ (acceptNotice e' (acceptNotice e l)).replacement = some e') ∧
      (acceptNotice e' (acceptNotice e l)).drops = l.drops := by
  obtain ⟨short, online, vacant⟩ := h
  cases hc : entryOf e.cls l.txq with
  | some old =>
    have hmem := List.mem_of_find?_eq_some hc
    have hcls : old.cls = e.cls := by simpa using List.find?_some (p := fun x : TxEntry => decide (x.cls = e.cls)) hc
    rw [acceptNotice_waits hc (online old hmem)]
    have fresh : entryOf e'.cls l.txq = none := by
      refine entryOf_eq_none.mpr fun x hx => ?_
      have same : x = old := by
        rcases hq : l.txq with _ | ⟨y, _ | ⟨z, zs⟩⟩ <;> simp_all
      rw [same, hcls]
      exact hne
    rw [acceptNotice_free (l := { l with replacement := some e }) fresh (by dsimp only; omega)]
    exact ⟨.inr rfl, .inl (mem_placeEntry _ _), rfl⟩
  | none =>
    rw [acceptNotice_free hc (by omega)]
    have length := placeEntry_length e l.txq
    cases hc' : entryOf e'.cls (placeEntry e l.txq) with
    | some old =>
      have hmem := List.mem_of_find?_eq_some hc'
      have hcls : old.cls = e'.cls := by
        simpa using List.find?_some (p := fun x : TxEntry => decide (x.cls = e'.cls)) hc'
      have on : old.onLine = true := by
        rcases (mem_insertOrd _).mp hmem with rfl | hold
        · exact absurd hcls hne
        · exact online old hold
      rw [acceptNotice_waits (l := { l with txq := placeEntry e l.txq }) hc' on]
      exact ⟨.inl (mem_placeEntry _ _), .inr rfl, rfl⟩
    | none =>
      rw [acceptNotice_free (l := { l with txq := placeEntry e l.txq }) hc' (by dsimp only; omega)]
      exact ⟨.inl ((mem_insertOrd _).mpr (.inr (mem_placeEntry _ _))), .inl (mem_placeEntry _ _), rfl⟩

/-! ### What every entry to SETUP writes -/

section
variable (s : State)

theorem setupCommon_line : (setupCommon s).line =
    { s.line with
      txq := withdrawEntries (fun _ => true) s.line.txq, replacement := none, faultCount := 0, cutOff := none } := by
  have line : (setupMode s).line = s.line := rfl
  have vacant : (s.line.replacement.filter fun _ => !true) = none := by cases s.line.replacement <;> rfl
  rw [setupCommon_eq, requestMarkedChecks_line, fanModeEntry_line, setupDemand_frame _ .line (by decide),
    setupFrost_frame _ .line (by decide), emptyPeers_line, setupLine, State.withLine_line, emptyQueue, withdraw,
    State.withLine_line, line, vacant]

theorem setupCommon_emptied (h : (s.line.txq.filter fun e => e.onLine).length ≤ 1) : emptied (setupCommon s).line := by
  rw [setupCommon_line]
  refine ⟨by simpa [withdrawAll] using h, fun x hx => ?_, rfl⟩
  rw [withdrawAll] at hx
  obtain ⟨y, hy, rfl⟩ := List.mem_map.mp hx
  exact (List.mem_filter.mp hy).2

theorem setupCommon_demand : (setupCommon s).demand =
    { s.demand with
      buttonBoost := none, runOn := none, humidity := .off, dryGuard := false, dryCount := 0
      slot := none, restTimer := none, flush := none, heldWake := none } := by
  rw [setupCommon_eq, requestMarkedChecks_frame _ .demand (by decide), fanModeEntry_frame _ .demand (by decide),
    setupDemand, State.withDemand_demand, setupFrost_frame _ .demand (by decide), emptyPeers_frame _ .demand (by decide)]
  rfl

theorem setupCommon_frost : (setupCommon s).frost =
    { s.frost with
      stage := .noFrost, severity := 0, rise := 0, fall := 0, warm := 0, lockHalves := 0
      thawHalves := 0, failed := 0, cause := none
      holdOff := if s.frost.stage = .thaw then 6 else s.frost.holdOff } := by
  rw [setupCommon_eq, requestMarkedChecks_frame _ .frost (by decide), fanModeEntry_frame _ .frost (by decide),
    setupDemand_frame _ .frost (by decide), setupFrost, State.withFrost_frost, emptyPeers_frame _ .frost (by decide)]
  rfl

theorem setupCommon_fan : (setupCommon s).fan = { s.fan with cap := none, ceilRef := none, window := [] } := by
  rw [setupCommon_eq, requestMarkedChecks_frame _ .fan (by decide), fanModeEntry, State.withFan_fan,
    setupDemand_frame _ .fan (by decide), setupFrost_frame _ .fan (by decide), emptyPeers_frame _ .fan (by decide)]
  rfl

theorem setupCommon_peers (h : tableHeld s = false) : (setupCommon s).peers.records = [] := by
  have free : tableHeld (setupLine (emptyQueue (setupMode s))) = false := h
  rw [setupCommon_eq, requestMarkedChecks_frame _ .peers (by decide), fanModeEntry_frame _ .peers (by decide),
    setupDemand_frame _ .peers (by decide), setupFrost_frame _ .peers (by decide), emptyPeers, free]
  rfl

/-- The state whose marked CLEAR checks an entry to SETUP asks for. -/
def setupBlocks : State := fanModeEntry (setupDemand (setupFrost (emptyPeers (setupLine (emptyQueue (setupMode s))))))

theorem setupCommon_checks : setupCommon s = requestMarkedChecks (setupBlocks s) := rfl

theorem setupBlocks_clim : (setupBlocks s).clim = s.clim := by
  rw [setupBlocks, fanModeEntry_frame _ .clim (by decide), setupDemand_frame _ .clim (by decide),
    setupFrost_frame _ .clim (by decide), emptyPeers_frame _ .clim (by decide)]
  rfl

theorem setupCommon_clim : (setupCommon s).clim = withRequestsOf (unmarked s.clim) (setupCommon s).clim := by
  have fields := requestMarkedChecks_clim (setupBlocks s)
  rw [setupBlocks_clim] at fields
  exact fields

theorem setupCommon_asked {src : Source} (h : (sensorOf s.clim src).clearMark = true) :
    checkAsked (setupCommon s).clim src = true :=
  requestMarkedChecks_asked (s := setupBlocks s) (by rw [setupBlocks_clim]; exact h)

end

/-! ### SETUP ENTER in JOIN, RUN and REST (R2, R179) -/

section
variable (s : State)

/-- The station as SETUP finds it: out of RUN and without REST sampling. -/
def workEnded : State := stopRestSampling (leaveRun s)

theorem workEnded_frame : othersKept [.rev, .unit, .pass, .line, .frost, .clim, .filt] s (workEnded s) :=
  othersKept_mono (othersKept_append (leaveRun_frame s) (stopRestSampling_frame _)) (by decide)

theorem workEnded_clim : (workEnded s).clim.restSampling = none ∧ (workEnded s).clim.midPoint = none ∧
    (workEnded s).clim.endPoint = none ∧ (workEnded s).clim.outer = s.clim.outer ∧
    (workEnded s).clim.inner = s.clim.inner ∧ (workEnded s).clim.rhSensor = s.clim.rhSensor := by
  simp [workEnded, stopRestSampling, forgetRestReading, withdrawPurposes]

theorem workEnded_other {b : Block} (h : b ≠ .clim) : kept (leaveRun s) (workEnded s) b :=
  stopRestSampling_frame _ b (by simp [h])

theorem setupFromModesBlocks_eq :
    setupFromModesBlocks s = markLeaving (haltUnlessRun s.mode.mode (setupCommon (workEnded s))) := rfl

theorem haltUnlessRun_frame (m : Mode) : othersKept [.own] s (haltUnlessRun m s) := by
  unfold haltUnlessRun
  split
  · exact othersKept_refl _ _
  · exact withOwn_frame s _

theorem haltUnlessRun_own (m : Mode) : (haltUnlessRun m s).own =
    if m = .run then s.own else { s.own with direction := .halt, want := 0, ceil := 0, flow := 0 } := by
  unfold haltUnlessRun
  split <;> rfl

/-- What SETUP ENTER writes before the LEAVE is the entry common to every mode and the own record. -/
theorem setupFromModesBlocks_frame : othersKept [.own] (setupCommon (workEnded s)) (setupFromModesBlocks s) :=
  othersKept_trans (haltUnlessRun_frame _ _) (withOwn_frame _ _)

theorem setupFromModesBlocks_own : (setupFromModesBlocks s).own =
    { (if s.mode.mode = .run then s.own
        else { s.own with direction := .halt, want := 0, ceil := 0, flow := 0 }) with leaving := true } := by
  have own : (setupCommon (workEnded s)).own = s.own :=
    (setupCommon_frame _ .own (by decide)).trans (workEnded_frame s .own (by decide))
  rw [setupFromModesBlocks_eq, markLeaving, State.withOwn_own, haltUnlessRun_own, own]

end

/-! ### What a stop request leaves of the fan's references and of the own record (R97, R111) -/

section
variable (s : State)

theorem stopRequest_refs : (stopRequest s).fan.cap = s.fan.cap ∧ (stopRequest s).fan.ceilRef = s.fan.ceilRef ∧
    (stopRequest s).fan.window = s.fan.window := by
  unfold stopRequest
  dsimp only
  split <;> simp [fanStopped_fan, rampDownTo, enterFan, setTarget, closeFlap, moveFlap]

theorem fanStopped_own : (fanStopped s).own = s.own ∨ (fanStopped s).own = (haltOwn s).own := by
  unfold fanStopped
  split
  · exact .inl rfl
  · exact .inr rfl

theorem stopRequest_own : (stopRequest s).own = s.own ∨ (stopRequest s).own = (haltOwn s).own := by
  unfold stopRequest
  dsimp only
  split
  · exact fanStopped_own _
  · exact .inl rfl
  · exact .inl rfl
  · exact .inl rfl
  · exact .inl rfl
  · exact fanStopped_own _
  · exact fanStopped_own _

theorem modeStop_refs : (modeStop s).fan.cap = s.fan.cap ∧ (modeStop s).fan.ceilRef = s.fan.ceilRef ∧
    (modeStop s).fan.window = s.fan.window := by
  have refs := stopRequest_refs (trialReturned s)
  have same : (trialReturned s).fan.cap = s.fan.cap ∧ (trialReturned s).fan.ceilRef = s.fan.ceilRef ∧
      (trialReturned s).fan.window = s.fan.window := by
    unfold trialReturned
    split <;> simp
  rw [modeStop_eq, refs.1, refs.2.1, refs.2.2]
  exact same

theorem modeStop_own : (modeStop s).own = s.own ∨ (modeStop s).own = (haltOwn s).own := by
  have own : (trialReturned s).own = s.own := trialReturned_frame s .own (by decide)
  have stop := stopRequest_own (trialReturned s)
  rw [haltOwn, own] at stop
  exact stop

end

/-! ### The requests of SETUP ENTER (R178, R179, R182) -/

theorem reloadInactivity_of_ne {s : State} (h : s.mode.mode ≠ .setup) : reloadInactivity s = s := if_neg h

/-- The LEAVE of an entry to SETUP. -/
def leaveEntry (node : Nat) : TxEntry := newEntry .phase false node true []

/-- SETUP ENTER in JOIN, RUN or REST up to its reply: its line block after the LEAVE. -/
theorem setupFromModes_line (s : State) : (setupFromModes s).line =
    acceptNotice (leaveEntry s.own.node) (setupCommon (workEnded s)).line := by
  have line : (setupFromModesBlocks s).line = (setupCommon (workEnded s)).line :=
    setupFromModesBlocks_frame s .line (by decide)
  have node : (setupFromModesBlocks s).own.node = s.own.node := by
    rw [setupFromModesBlocks_own]
    split <;> rfl
  have count : (setupFromModesBlocks s).line.faultCount < 32 := by
    rw [line, setupCommon_line]
    exact (by decide : 0 < 32)
  rw [setupFromModes_eq, modeStop_frame _ .line (by decide), startSetupFlush, State.withMode_line, queueLeave,
    queueNotice_open _ count, State.withLine_line, line, node]
  rfl

theorem setupFromModes_frame (s : State) :
    othersKept [.line, .mode, .fan, .own] (setupFromModesBlocks s) (setupFromModes s) :=
  othersKept_append (queueNotice_frame _ (setupFromModesBlocks s))
    (othersKept_append (withMode_frame _ _) (modeStop_frame _))

theorem setupFromModes_time (s : State) : (setupFromModes s).time = s.time :=
  (setupFromModes_frame s .time (by decide)).trans ((setupFromModesBlocks_frame s .time (by decide)).trans
    ((setupCommon_frame _ .time (by decide)).trans (workEnded_frame s .time (by decide))))

theorem setupFromModes_mode (s : State) : (setupFromModes s).mode =
    { s.mode with
      mode := .setup, setupWindow := none, leaveAsked := false
      inactivity := some (Count.later s.time.now 614400), setupFlush := some (Count.later s.time.now 2048) } := by
  have time : (queueLeave (setupFromModesBlocks s)).time = s.time :=
    (queueNotice_frame _ _ .time (by decide)).trans ((setupFromModesBlocks_frame s .time (by decide)).trans
      ((setupCommon_frame _ .time (by decide)).trans (workEnded_frame s .time (by decide))))
  rw [setupFromModes_eq, modeStop_frame _ .mode (by decide), startSetupFlush, State.withMode_mode, time, queueLeave,
    queueNotice_frame _ _ .mode (by decide), setupFromModesBlocks_mode, setupMode, State.withMode_mode, leaveRun_mode,
    leaveRun_time]
  rfl

/-- The own record: leaving, and HALT with 0s at an entry from another mode than RUN (R2). -/
theorem setupFromModes_own (s : State) : (setupFromModes s).own.leaving = true ∧
    (setupFromModes s).own.node = s.own.node ∧
    (s.mode.mode ≠ .run → (setupFromModes s).own.direction = .halt ∧ (setupFromModes s).own.want = 0 ∧
      (setupFromModes s).own.ceil = 0 ∧ (setupFromModes s).own.flow = 0) := by
  have own : (startSetupFlush (queueLeave (setupFromModesBlocks s))).own = (setupFromModesBlocks s).own :=
    queueNotice_frame _ _ .own (by decide)
  have stop := modeStop_own (startSetupFlush (queueLeave (setupFromModesBlocks s)))
  rw [haltOwn, own, setupFromModesBlocks_own, ← setupFromModes_eq] at stop
  rcases stop with h | h <;> rw [h]
  all_goals
    by_cases run : s.mode.mode = .run
    · simp [run]
    · simp [run]

theorem setupFromModes_fan (s : State) : (setupFromModes s).fan.wanted = .halt ∧ (setupFromModes s).fan.cap = none ∧
    (setupFromModes s).fan.ceilRef = none ∧ (setupFromModes s).fan.window = [] := by
  have fan : (startSetupFlush (queueLeave (setupFromModesBlocks s))).fan =
      { s.fan with cap := none, ceilRef := none, window := [] } :=
    (queueNotice_frame _ _ .fan (by decide)).trans ((setupFromModesBlocks_frame s .fan (by decide)).trans
      ((setupCommon_fan _).trans (by rw [workEnded_frame s .fan (by decide)])))
  have refs := modeStop_refs (startSetupFlush (queueLeave (setupFromModesBlocks s)))
  rw [fan, ← setupFromModes_eq] at refs
  exact ⟨(modeStop_wanted _).1, refs⟩

end Sys2Proof.Laws
end

section
/-! ## SETUP_ENTER (R178, R179, R182) -/

namespace Sys2Proof.Laws

open Sys2Proof.Machine Sys2Proof.Safety

/-- The state with the reply to SETUP ENTER queued. -/
def enterReplied (f : RxFrame) (index : Byte) (s : State) : State := reply f .setupEnter .done index zeroPage s

theorem enterReplied_frame (f : RxFrame) (index : Byte) (s : State) : othersKept [.line] s (enterReplied f index s) :=
  reply_frame _ _ _ _ _ _

theorem applyEnter_modes {f : RxFrame} {index value : Byte} {s : State} (h : s.mode.mode ≠ .start)
    (h' : s.mode.mode ≠ .setup) : applyEnter f (.request .setupEnter index value) s =
      settleFlush (enterReplied f index (setupFromModes s)) := by
  simp only [applyEnter, if_neg h, serve, answerEnter, reloadInactivity_of_ne h', if_neg h']
  rfl

theorem applyEnter_window {f : RxFrame} {index value : Byte} {s : State} (h : s.mode.mode = .start)
    (h' : s.mode.setupWindow.isSome = true) : applyEnter f (.request .setupEnter index value) s =
      enterReplied f index (setupCommon s) := by
  simp only [applyEnter, if_pos h, if_pos h']
  rfl

theorem applyEnter_setup {f : RxFrame} {index value : Byte} {s : State} (h : s.mode.mode = .setup) :
    applyEnter f (.request .setupEnter index value) s = settleFlush (enterReplied f index (reloadInactivity s)) := by
  have still : (reloadInactivity s).mode.mode = .setup := by
    rw [reloadInactivity_eq]
    exact h
  have hstart : s.mode.mode ≠ .start := by simp [h]
  simp only [applyEnter, if_neg hstart, serve, answerEnter, if_pos still]
  rfl

/-- The SETUP flush goes on while its LEAVE is there (R179). -/
theorem settleFlush_setup_waits {s : State} (hm : s.mode.mode = .setup) (h : leaveQueued s = true) :
    settleFlush s = s := by
  simp [settleFlush, hm, h]

/-- Both notices of SETUP ENTER stand, neither withdrawn, and nothing is dropped (R31, R179). -/
theorem enterReplied_line {f : RxFrame} {index : Byte} {s : State}
    (h : (s.line.txq.filter fun e => e.onLine).length ≤ 1) :
    let u := enterReplied f index (setupFromModes s)
    (leaveEntry s.own.node ∈ u.line.txq ∨ u.line.replacement = some (leaveEntry s.own.node)) ∧
      (replyEntry s.own.node f.node .setupEnter .done index zeroPage ∈ u.line.txq ∨
        u.line.replacement = some (replyEntry s.own.node f.node .setupEnter .done index zeroPage)) ∧
      u.line.drops = s.line.drops ∧ u.line.faultCount = 0 ∧ u.line.cutOff = none ∧ u.line.rxq = s.line.rxq := by
  have ended : (workEnded s).line = claimWithdrawn s :=
    (workEnded_other s (b := .line) (by decide)).trans (leaveRun_line s)
  have online : ((workEnded s).line.txq.filter fun e => e.onLine).length ≤ 1 := by
    rw [ended, claimWithdrawn]
    split
    · rw [withdraw, State.withLine_line, withdrawEntries_onLine]
      exact h
    · exact h
  have common : (setupCommon (workEnded s)).line.faultCount = 0 ∧ (setupCommon (workEnded s)).line.cutOff = none ∧
      (setupCommon (workEnded s)).line.rxq = s.line.rxq ∧ (setupCommon (workEnded s)).line.drops = s.line.drops := by
    rw [setupCommon_line, ended]
    refine ⟨rfl, rfl, (claimWithdrawn_facts s).2.1, ?_⟩
    unfold claimWithdrawn
    split <;> rfl
  obtain ⟨count, cut, rxq, drops⟩ := common
  have line : (setupFromModes s).line = acceptNotice (leaveEntry s.own.node) (setupCommon (workEnded s)).line :=
    setupFromModes_line s
  have count' : (setupFromModes s).line.faultCount = 0 := by rw [line, acceptNotice_fields, count]
  obtain ⟨-, node, -⟩ := setupFromModes_own s
  have replied : (enterReplied f index (setupFromModes s)).line =
      acceptNotice (replyEntry s.own.node f.node .setupEnter .done index zeroPage)
        (acceptNotice (leaveEntry s.own.node) (setupCommon (workEnded s)).line) := by
    rw [enterReplied, reply_eq, queueNotice_open _ (by rw [count']; decide), State.withLine_line, node, line]
  obtain ⟨leave, answer, dropped⟩ := acceptNotice_pair (e := leaveEntry s.own.node)
    (e' := replyEntry s.own.node f.node .setupEnter .done index zeroPage) (setupCommon_emptied _ online)
    (by simp [leaveEntry, replyEntry, newEntry])
  intro u
  have hu : u.line = _ := replied
  rw [hu]
  refine ⟨leave, answer, dropped.trans drops, ?_, ?_, ?_⟩
  · rw [acceptNotice_fields, acceptNotice_fields (leaveEntry _)]
    exact count
  · rw [acceptNotice_fields, acceptNotice_fields (leaveEntry _)]
    exact cut
  · rw [acceptNotice_fields, acceptNotice_fields (leaveEntry _)]
    exact rxq

theorem mem_append_replacement {e : TxEntry} {l : LineControl} (h : e ∈ l.txq ∨ l.replacement = some e) :
    e ∈ l.txq ++ l.replacement.toList := by
  rcases h with h | h
  · exact List.mem_append_left _ h
  · simp [h]

/-- The frame of an entry to SETUP from the running modes. -/
theorem setupFromModes_within (s : State) :
    othersKept [.rev, .unit, .pass, .line, .frost, .clim, .filt, .mode, .peers, .demand, .fan, .own] s
      (setupFromModes s) := by
  have mode : othersKept [.mode] (workEnded s) (setupMode (workEnded s)) := withMode_frame _ _
  exact othersKept_mono (othersKept_append (workEnded_frame s) (othersKept_append mode
    (othersKept_append (setupCommon_frame (workEnded s))
      (othersKept_append (setupFromModesBlocks_frame s) (setupFromModes_frame s))))) (by decide)

/-- A block that the own record, the LEAVE, the flush and the stop request do not touch is as the common entry left it. -/
theorem setupFromModes_common (s : State) {b : Block} (h : b ∉ [.own, .line, .mode, .fan]) :
    kept (setupCommon (workEnded s)) (setupFromModes s) b := by
  refine kept_trans (setupFromModesBlocks_frame s b fun hb => h ?_) (setupFromModes_frame s b fun hb => h ?_)
  · simp_all
  · simp_all

/-- A block that the entry to SETUP leaves alone is as the end of the RUN work left it. -/
theorem setupFromModes_left (s : State) {b : Block}
    (h : b ∉ [.own, .line, .mode, .fan, .peers, .frost, .demand, .clim]) :
    kept (leaveRun s) (setupFromModes s) b := by
  have mode : kept (workEnded s) (setupMode (workEnded s)) b :=
    withMode_frame (workEnded s) _ b fun hb => h (by simp_all)
  have common : kept (workEnded s) (setupCommon (workEnded s)) b :=
    kept_trans mode (setupCommon_frame (workEnded s) b fun hb => h (by simp_all))
  exact kept_trans (workEnded_other s fun hb => h (by simp [hb])) (kept_trans common
    (setupFromModes_common s fun hb => h (by simp_all)))

/-- Settles O39. -/
theorem setupEnterEntersSetup : Obligations.SetupEnterEntersSetup := by
  refine ⟨?running, ?window, ?inSetup, ?inFlush⟩
  case running =>
    intro t s f rest index value free front decoded mode online
    have hstart : s.mode.mode ≠ .start := by rcases mode with h | h | h <;> simp [h]
    have hsetup : s.mode.mode ≠ .setup := by rcases mode with h | h | h <;> simp [h]
    refine ⟨finish (takeNotice .request (isRequest .setupEnter) applyEnter (advanceTo t s)), rfl, ?_⟩
    rw [takeNotice_at .request free front decoded rfl rfl rfl, applyEnter_modes (by simpa using hstart)
      (by simpa using hsetup)]
    have within := setupFromModes_within (noticeState rest t s)
    have replied := enterReplied_frame f index (setupFromModes (noticeState rest t s))
    have mode' := (replied .mode (by decide)).trans (setupFromModes_mode (noticeState rest t s))
    have line := enterReplied_line (f := f) (index := index) (s := noticeState rest t s) (by simpa using online)
    obtain ⟨leaves, answers, drops, count, cut, rxq⟩ := line
    obtain ⟨leaving, -, halted⟩ := setupFromModes_own (noticeState rest t s)
    obtain ⟨wanted, cap, ceilRef, window⟩ := setupFromModes_fan (noticeState rest t s)
    have own := replied .own (by decide)
    have fan := replied .fan (by decide)
    have common {b : Block} (h : b ∉ [.own, .line, .mode, .fan]) :
        kept (setupCommon (workEnded (noticeState rest t s))) (enterReplied f index (setupFromModes (noticeState rest t s)))
          b := kept_trans (setupFromModes_common _ h) (replied b fun hb => h (by simp_all))
    have left {b : Block} (h : b ∉ [.own, .line, .mode, .fan, .peers, .frost, .demand, .clim]) :
        kept (leaveRun (noticeState rest t s)) (enterReplied f index (setupFromModes (noticeState rest t s))) b :=
      kept_trans (setupFromModes_left _ h) (replied b fun hb => h (by simp_all))
    have peers := common (b := .peers) (by decide)
    have frost := (common (b := .frost) (by decide)).trans (setupCommon_frost _)
    have demand := (common (b := .demand) (by decide)).trans (setupCommon_demand _)
    have clim := common (b := .clim) (by decide)
    have rev := (left (b := .rev) (by decide)).trans (leaveRun_rev _)
    have unit := (left (b := .unit) (by decide)).trans (leaveRun_unit _)
    have pass := (left (b := .pass) (by decide)).trans (leaveRun_pass _)
    have filt := (left (b := .filt) (by decide)).trans (leaveRun_filt _)
    have ended := workEnded_other (noticeState rest t s) (b := .frost) (by decide)
    obtain ⟨restSampling, midPoint, endPoint, outer, inner, rhSensor⟩ := workEnded_clim (noticeState rest t s)
    have stands : leaveQueued (enterReplied f index (setupFromModes (noticeState rest t s))) = true :=
      leaveQueued_of rfl leaves
    rw [settleFlush_setup_waits (by rw [mode']) stands]
    rw [noticeState_own] at leaves answers
    rw [noticeState_mode, noticeState_time] at mode'
    rw [noticeState_unit] at unit
    rw [noticeState_pass] at pass
    rw [noticeState_filt] at filt
    rw [noticeState_clim] at outer inner rhSensor
    have unit_free : tableHeld (workEnded (noticeState rest t s)) = false := by
      have unit : (workEnded (noticeState rest t s)).unit = _ :=
        (workEnded_other (noticeState rest t s) (b := .unit) (by decide)).trans (leaveRun_unit _)
      unfold tableHeld at free ⊢
      rw [unit, noticeState_unit]
      cases he : s.unit.engine <;> simp_all [discarded]
    have climFields := setupCommon_clim (workEnded (noticeState rest t s))
    rw [← clim] at climFields
    have checked {src : Source} (h : (sensorOf s.clim src).clearMark = true) :
        checkAsked (enterReplied f index (setupFromModes (noticeState rest t s))).clim src = true := by
      rw [clim]
      refine setupCommon_asked _ ?_
      cases src
      · exact (congrArg Sensor.clearMark outer).trans h
      · exact (congrArg Sensor.clearMark inner).trans h
      · exact (congrArg Sensor.clearMark rhSensor).trans h
    generalize enterReplied f index (setupFromModes (noticeState rest t s)) = u at *
    refine ⟨?_, ?_, ?_, ?_, ?_, stands, count, cut, rxq.trans (by simp), drops.trans (by simp),
      ⟨_, mem_append_replacement answers, rfl, rfl, rfl, rfl⟩,
      ⟨_, mem_append_replacement leaves, rfl, rfl, rfl, rfl, rfl⟩, ?_, ?_, ?_, ?_, ?_, ?_, ?_, ?_, ?_, ?_, ?_, ?_, ?_,
      ?_, ?_, ?_, ?_, ?_, ?_, ?_, ?_, fun outside => ?_, ?_, ?_, ?_, ?_, ?_, ?_, ?_, ?_, ?_, ?_, ?_, ?_,
      finish_within (othersKept_append (noticeState_frame rest t s) (othersKept_append within replied))⟩
    iterate 4
      · rw [finish_mode, mode']
    · rw [finish_own, own]
      exact leaving
    · rw [finish_peers, peers]
      exact setupCommon_peers _ unit_free
    · rw [finish_rev, rev]
      rfl
    · refine runWorkOnlyInRun_of_idle (s := noticeState rest t s) rev ?_ ?_ ?_
      · rw [finish_clim, climFields]
        exact ⟨midPoint, endPoint⟩
      · rw [finish_frost, frost]
        exact (congrArg FrostGuard.claims ended).trans (by rw [leaveRun_frost])
      · rw [finish_filt, filt]
    iterate 4
      · rw [finish_frost, frost]
    · rw [finish_frost, frost]
      exact (congrArg FrostGuard.granted ended).trans (by rw [leaveRun_frost])
    · rw [finish_frost, frost]
      exact (congrArg FrostGuard.ownClaim ended).trans (by rw [leaveRun_frost])
    iterate 7
      · rw [finish_demand, demand]
    · rw [finish_clim, climFields]
      exact restSampling
    · rw [finish_fan, fan]
      exact wanted
    · rw [finish_fan, fan]
      exact cap
    · rw [finish_fan, fan]
      exact ceilRef
    · rw [finish_fan, fan]
      exact window
    · rw [finish_own, own]
      exact halted (by simpa using outside)
    · rw [finish_filt, filt]
    iterate 3
      · rw [finish_unit, unit]
    · rw [finish_unit, unit]
      cases s.unit.engine <;> rfl
    · rw [finish_pass, pass]
      cases s.pass.state <;> rfl
    · rw [finish_clim]
      exact checked (src := .outer)
    · rw [finish_clim]
      exact checked (src := .inner)
    · rw [finish_clim]
      exact checked (src := .rh)
    iterate 3
      · rw [finish_clim, climFields]
        rfl
  case window =>
    intro t s f rest index value free front decoded mode open_ hq hr
    refine ⟨finish (takeNotice .request (isRequest .setupEnter) applyEnter (advanceTo t s)), rfl, ?_⟩
    rw [takeNotice_at .request free front decoded rfl rfl rfl,
      applyEnter_window (by simpa using mode) (by simpa using open_)]
    have replied := enterReplied_frame f index (setupCommon (noticeState rest t s))
    have mode' : (enterReplied f index (setupCommon (noticeState rest t s))).mode = _ :=
      (replied .mode (by decide)).trans (setupCommon_mode (noticeState rest t s))
    have own : (setupCommon (noticeState rest t s)).own = s.own :=
      (setupCommon_frame (noticeState rest t s) .own (by decide)).trans (noticeState_own rest t s)
    have clim := replied .clim (by decide)
    have climFields := setupCommon_clim (noticeState rest t s)
    have line : (enterReplied f index (setupCommon (noticeState rest t s))).line.txq =
        placeEntry (replyEntry s.own.node f.node .setupEnter .done index zeroPage) [] := by
      have emptyq : (setupCommon (noticeState rest t s)).line.txq = [] := by
        rw [setupCommon_line, noticeState_line]
        simp [hq, withdrawEntries]
      rw [enterReplied, reply_line (by rw [setupCommon_line]; exact (by decide : 0 < 32)) (by simp [emptyq])
        (by simp [emptyq]), own, emptyq]
    have checked {src : Source} (h : (sensorOf s.clim src).clearMark = true) :
        checkAsked (enterReplied f index (setupCommon (noticeState rest t s))).clim src = true := by
      rw [clim]
      exact setupCommon_asked _ (by rw [noticeState_clim]; exact h)
    have own' := (replied .own (by decide)).trans own
    generalize enterReplied f index (setupCommon (noticeState rest t s)) = u at *
    refine ⟨?_, ?_, ?_, ?_, ?_, own', ?_, ?_, ?_, ?_, ?_, ?_⟩
    iterate 3
      · rw [finish_mode, mode', setupMode, State.withMode_mode, noticeState_mode]
    · rw [finish_mode, mode', setupMode, State.withMode_mode, noticeState_time]
      rfl
    · rw [finish_line, line]
      rfl
    · rw [finish_clim]
      exact checked (src := .outer)
    · rw [finish_clim]
      exact checked (src := .inner)
    · rw [finish_clim]
      exact checked (src := .rh)
    iterate 3
      · rw [finish_clim, clim, climFields]
        rfl
  case inSetup =>
    intro t s f rest index value free front decoded mode hopen fresh room hsetup hrest
    refine ⟨finish (takeNotice .request (isRequest .setupEnter) applyEnter (advanceTo t s)), rfl, ?_⟩
    rw [takeNotice_at .request free front decoded rfl rfl rfl, applyEnter_setup (by simpa using mode), ← requestState]
    have replied := enterReplied_frame f index (requestState rest t s)
    have mode' : (enterReplied f index (requestState rest t s)).mode = _ :=
      (replied .mode (by decide)).trans (requestState_mode rest t s)
    rw [if_pos mode] at mode'
    have line : (enterReplied f index (requestState rest t s)).line = _ :=
      serve_reply_line (requestState_line rest t s) (requestState_own rest t s) hopen fresh room
    have noRest := (congrArg DemandUnit.flush (replied .demand (by decide))).trans
      ((congrArg DemandUnit.flush (requestState_demand rest t s)).trans hrest)
    generalize enterReplied f index (requestState rest t s) = u at *
    rw [settleFlush_of_no_flush u (by rw [mode']; exact hsetup) noRest]
    refine ⟨reply_stands (congrArg LineControl.txq line) rfl, mode', ?_,
      finish_within (othersKept_append (requestState_frame rest t s) replied)⟩
    rw [finish_line, line]
  case inFlush =>
    intro t s f rest index value free front decoded mode flushing leaves hopen fresh room
    refine ⟨finish (takeNotice .request (isRequest .setupEnter) applyEnter (advanceTo t s)), rfl, ?_⟩
    rw [takeNotice_at .request free front decoded rfl rfl rfl, applyEnter_setup (by simpa using mode), ← requestState]
    have replied := enterReplied_frame f index (requestState rest t s)
    have mode' : (enterReplied f index (requestState rest t s)).mode = _ :=
      (replied .mode (by decide)).trans (requestState_mode rest t s)
    rw [if_pos mode] at mode'
    have line : (enterReplied f index (requestState rest t s)).line = _ :=
      serve_reply_line (requestState_line rest t s) (requestState_own rest t s) hopen fresh room
    have stands : leaveQueued (enterReplied f index (requestState rest t s)) = true := by
      have any : ∀ x ∈ s.line.txq, x ∈ (enterReplied f index (requestState rest t s)).line.txq := fun x hx => by
        rw [line]
        exact (mem_insertOrd _).mpr (.inr hx)
      unfold leaveQueued at leaves ⊢
      rw [Bool.or_eq_true, List.any_eq_true] at leaves ⊢
      refine leaves.imp (fun ⟨x, hx, hl⟩ => ⟨x, any x hx, hl⟩) fun h => ?_
      rw [line]
      exact h
    generalize enterReplied f index (requestState rest t s) = u at *
    rw [settleFlush_setup_waits (by rw [mode']; exact mode) stands]
    refine ⟨reply_stands (congrArg LineControl.txq line) rfl, stands, mode', ?_,
      finish_within (othersKept_append (requestState_frame rest t s) replied)⟩
    rw [finish_line, line]

end Sys2Proof.Laws
end

section
/-! ## Store writes and the indicator (R183, R184) -/

namespace Sys2Proof.Laws

open Sys2Proof.Machine Sys2Proof.Safety

/-! ### Store writes (R183) -/

@[simp] theorem currentImage_advanceTo (t : Count) (s : State) : currentImage (advanceTo t s) = currentImage s := by
  simp [currentImage]

theorem currentImage_withTime (s : State) (b : TimeBase) : currentImage (s.withTime b) = currentImage s := rfl

/-- The state after the image read back has been taken, before a further write. -/
def imageTaken (image readBack : StoreImage) (s : State) : State :=
  (s.withSvc { s.svc with
    writing := none, store := readBack, storeDefault := decide (readBack ≠ image) }).withTime
      { s.time with runTime := 0 }

theorem endWrite_of_writing {s : State} {image : StoreImage} (h : s.svc.writing = some image)
    (readBack : StoreImage) : endWrite readBack s =
      if s.svc.further then startWrite (imageTaken image readBack s) else imageTaken image readBack s := by
  unfold endWrite
  rw [h]
  rfl

theorem startWrite_frame (s : State) : othersKept [.svc] s (startWrite s) := withSvc_frame s _

theorem imageTaken_frame (image readBack : StoreImage) (s : State) :
    othersKept [.svc, .time] s (imageTaken image readBack s) :=
  othersKept_append (withSvc_frame s _) (withTime_frame _ _)

theorem imageTaken_svc (image readBack : StoreImage) (s : State) : (imageTaken image readBack s).svc =
    { s.svc with writing := none, store := readBack, storeDefault := decide (readBack ≠ image) } := rfl

theorem imageTaken_time (image readBack : StoreImage) (s : State) :
    (imageTaken image readBack s).time = { s.time with runTime := 0 } := rfl

theorem startWrite_svc (s : State) :
    (startWrite s).svc = { s.svc with writing := some (currentImage s), changed := false, further := false } := rfl

theorem requestWrite_of_none {s : State} (h : s.svc.writing = none) : requestWrite s = startWrite s := by
  unfold requestWrite
  rw [h]

theorem requestWrite_of_some {s : State} (h : s.svc.writing.isSome = true) :
    requestWrite s = s.withSvc { s.svc with further := true } := by
  unfold requestWrite
  split <;> simp_all

/-- Eight hours fewer of the time in RUN. -/
def eightHoursTaken (s : State) : State := s.withTime { s.time with runTime := s.time.runTime - eightHourCounts }

theorem runTimerEnds_of {s : State} (hm : s.mode.mode = .run) (h : eightHourCounts ≤ s.time.runTime) :
    runTimerEnds s = requestWrite (eightHoursTaken s) := by
  rw [runTimerEnds, if_pos ⟨hm, h⟩]
  rfl

/-! ### The indicator (R184) -/

/-- The passing of time touches no cause of a condition. -/
theorem conditionHolds_advanceTo (t : Count) (s : State) : conditionHolds (advanceTo t s) = conditionHolds s := by
  funext c
  unfold conditionHolds
  split <;> simp [sensorFault]

theorem activeConditions_advanceTo (t : Count) (s : State) :
    activeConditions (advanceTo t s) = activeConditions s := by
  rw [activeConditions, conditionHolds_advanceTo, activeConditions]

theorem activeConditions_withCond (s : State) (b : ConditionUnit) :
    activeConditions (s.withCond b) = activeConditions s := by
  have holds : conditionHolds (s.withCond b) = conditionHolds s := by
    funext c
    unfold conditionHolds
    split <;> rfl
  rw [activeConditions, holds, activeConditions]

/-- Conditions that follow their causes stay as they are when neither a cause nor the leading condition moves. -/
theorem finish_cond_of_follows {s u : State} (h : conditionsFollow s) (active : activeConditions u = activeConditions s)
    (leading : u.cond.leading = s.cond.leading) : (finish u).cond = { s.cond with phase := u.cond.phase } := by
  obtain ⟨set, lead⟩ := h
  have refreshed : (finish u).cond = ⟨conditionBits (activeConditions u), leadingOf (activeConditions u),
      if patternOf (leadingOf (activeConditions u)) = patternOf u.cond.leading then u.cond.phase else 0⟩ := rfl
  rw [refreshed, active, leading, ← lead, ← set, if_pos rfl]

/-- The number of parts of the pattern of a leading code (R184). -/
theorem patternParts_length (leading : Nat) : (patternParts (patternOf leading)).length =
    if leading = 0 then 1 else if leading ≤ 4 then 2 else if leading ≤ 9 then 4 else 2 := by
  unfold patternOf
  split
  · rfl
  · split
    · rfl
    · split <;> rfl

/-- Settles O60. -/
theorem storeWritesAndIndicator : Obligations.StoreWritesAndIndicator := by
  refine ⟨?complete, ?timer, ?cycle, ?hold⟩
  case complete =>
    intro t s image readBack writing
    refine ⟨finish (endWrite readBack (advanceTo t s)), rfl, ?_⟩
    rw [endWrite_of_writing (by simpa using writing)]
    have taken := othersKept_append (advanceTo_frame t s) (imageTaken_frame image readBack (advanceTo t s))
    have same : currentImage (imageTaken image readBack (advanceTo t s)) = currentImage s := currentImage_advanceTo t s
    have svc := imageTaken_svc image readBack (advanceTo t s)
    have time := imageTaken_time image readBack (advanceTo t s)
    rw [advanceTo_svc] at svc ⊢
    generalize imageTaken image readBack (advanceTo t s) = u at *
    cases further : s.svc.further
    · rw [if_neg (by decide), finish_svc, finish_time, svc, time]
      exact ⟨rfl, rfl, rfl, rfl, rfl, further, fun _ => ⟨rfl, rfl⟩, nofun, finish_within taken⟩
    · rw [if_pos rfl, finish_svc, finish_time, startWrite_svc, startWrite_frame u .time (by decide), svc, time]
      exact ⟨rfl, rfl, rfl, rfl, rfl, rfl, nofun, fun _ => ⟨congrArg some same, rfl⟩,
        finish_within (othersKept_append taken (startWrite_frame u))⟩
  case timer =>
    intro t s hm elapsed
    refine ⟨finish (runTimerEnds (advanceTo t s)), rfl, ?_⟩
    rw [runTimerEnds_of (by simpa using hm) (by rw [eightHourCounts]; exact elapsed)]
    have svc : (eightHoursTaken (advanceTo t s)).svc = s.svc := by rw [eightHoursTaken, State.withTime_svc, advanceTo_svc]
    have same : currentImage (eightHoursTaken (advanceTo t s)) = currentImage s := by
      rw [eightHoursTaken, currentImage_withTime, currentImage_advanceTo]
    have time : (eightHoursTaken (advanceTo t s)).time.runTime = (advanceTo t s).time.runTime - eightHourCounts := by
      rw [eightHoursTaken, State.withTime_time]
    have taken := othersKept_append (advanceTo_frame t s) (withTime_frame (advanceTo t s)
      { (advanceTo t s).time with runTime := (advanceTo t s).time.runTime - eightHourCounts })
    rw [← eightHoursTaken] at taken
    generalize eightHoursTaken (advanceTo t s) = u at *
    refine ⟨?_, ?_, fun writing => ?_, fun writing => ?_, finish_within
      (othersKept_append taken (requestWrite_frame u))⟩
    · rw [finish_time, requestWrite_frame u .time (by decide), time, eightHourCounts]
    · rw [finish_svc, requestWrite_params, svc]
    · rw [finish_svc, requestWrite_of_none (by rw [svc]; exact writing), startWrite_svc, same]
      exact ⟨rfl, rfl⟩
    · rw [finish_svc, requestWrite_of_some (by rw [svc]; exact writing), svc]
      rfl
  case cycle =>
    intro t s hold follows
    refine ⟨finish (nextPart (advanceTo t s)), rfl, ?_⟩
    rw [nextPart, if_neg (by simp [hold])]
    refine ⟨?_, finish_within (withCond_frame _ _)⟩
    rw [finish_cond_of_follows follows (by rw [activeConditions_withCond, activeConditions_advanceTo]) (by simp)]
    simp [patternParts_length]
  case hold =>
    intro t s hold follows
    have stays : (finish (nextPart (advanceTo t s))).cond = s.cond := by
      rw [nextPart, if_pos (by simpa using hold),
        finish_cond_of_follows follows (activeConditions_advanceTo t s) (by simp)]
      simp
    have off : sinkOn (finish (nextPart (advanceTo t s))) = false := by
      rw [nextPart, if_pos (by simpa using hold), sinkOn, finish_mode, advanceTo_mode,
        Option.isNone_eq_false_iff.mpr hold, Bool.false_and]
    refine ⟨_, rfl, off, by rw [sinkMilliamps, off]; rfl, fun b _ => ?_⟩
    by_cases hb : b ∈ [Block.cond]
    · obtain rfl := List.mem_singleton.mp hb
      exact stays.trans (advanceTo_cond t s).symm
    · rw [nextPart, if_pos (by simpa using hold)]
      exact finish_frame (advanceTo t s) b hb

end Sys2Proof.Laws
end

section
/-! ## The points of a half-cycle and REST sampling (R114, R118, R119, R124) -/

namespace Sys2Proof.Laws

open Sys2Proof.Machine Sys2Proof.Safety

/-- The converter is idle and nothing waits for it (R114). -/
structure ConverterRests (c : ClimateSensing) : Prop where
  converting : c.converting = none
  waitOuter : c.waitOuter = []
  waitInner : c.waitInner = []
  waitRh : c.waitRh = []

section
variable {c : ClimateSensing} (p : Purpose)

/-- A single request of a resting converter is converted at once (R114). -/
theorem innerRequest_starts (h : ConverterRests c) :
    startConversion (addRequest .inner p c) = { c with converting := some { source := .inner, purposes := [p] } } := by
  obtain ⟨hc, ho, hi, hr⟩ := h
  simp [startConversion, addRequest, firstWaiting, waitingFor, withWaiting, hc, ho, hi]

/-- OUTER starts, and INNER waits (R114). -/
theorem twoRequests_start (h : ConverterRests c) :
    startConversion (addRequest .inner p (addRequest .outer p c)) = { c with
      converting := some { source := .outer, purposes := [p] }, waitInner := [p] } := by
  obtain ⟨hc, ho, hi, hr⟩ := h
  simp [startConversion, addRequest, firstWaiting, waitingFor, withWaiting, hc, ho, hi]

/-- OUTER starts, and INNER and RH wait (R114). -/
theorem threeRequests_start (h : ConverterRests c) :
    startConversion (addRequest .rh p (addRequest .inner p (addRequest .outer p c))) = { c with
      converting := some { source := .outer, purposes := [p] }, waitInner := [p], waitRh := [p] } := by
  obtain ⟨hc, ho, hi, hr⟩ := h
  simp [startConversion, addRequest, firstWaiting, waitingFor, withWaiting, hc, ho, hi, hr]

end

/-- The climate block at the end-of-half point, before its requests (R118, R119). -/
def endPointClim (stage : FrostStage) (c : ClimateSensing) : ClimateSensing :=
  { c with
    endPoint := none
    current := { c.current with stage := some stage }
    awaiting :=
      if evaluationDue c.current.direction stage then
        some { sources := endSources c.current.direction, half := .current, previous := c.previous }
      else c.awaiting }

theorem withClim_withClim (s : State) (b c : ClimateSensing) : (s.withClim b).withClim c = s.withClim c := rfl

section
variable {s : State} {i : Count}

theorem takeMidPoint_of (hm : s.mode.mode = .run) (hp : s.clim.midPoint = some i) :
    takeMidPoint s = (advanceTo i s).withClim
      (startConversion (addRequest .inner (.midHalf .current) { s.clim with midPoint := none })) := by
  simp [takeMidPoint, hp, hm, requestConversions, withClim_withClim]

theorem takeEndPoint_of (hm : s.mode.mode = .run) (hp : s.clim.endPoint = some i) :
    takeEndPoint s = (advanceTo i s).withClim (startConversion
      (((endSources s.clim.current.direction).map fun src => (src, Purpose.endOfHalf .current)).foldl
        (fun c r => addRequest r.1 r.2 c) (endPointClim s.frost.stage s.clim))) := by
  simp [takeEndPoint, hp, hm, requestConversions, withClim_withClim, endPointClim]

theorem takeRestSampling_of (hm : s.mode.mode = .rest) (hp : s.clim.restSampling = some i) :
    takeRestSampling s = (advanceTo i s).withClim (startConversion (addRequest .rh .rest (addRequest .inner .rest
      (addRequest .outer .rest { s.clim with restSampling := some (Count.later i restSamplingCounts) })))) := by
  simp [takeRestSampling, hp, hm, requestConversions, withClim_withClim]

end

/-- The climate block after the end-of-half point: all three sensors in an OUT set, RH not in another (R118). -/
theorem endPoint_requests {c : ClimateSensing} (stage : FrostStage) (h : ConverterRests c) :
    startConversion (((endSources c.current.direction).map fun src => (src, Purpose.endOfHalf .current)).foldl
      (fun c r => addRequest r.1 r.2 c) (endPointClim stage c)) = { endPointClim stage c with
        converting := some { source := .outer, purposes := [.endOfHalf .current] }
        waitInner := [.endOfHalf .current]
        waitRh := if c.current.direction = .outward then [.endOfHalf .current] else [] } := by
  obtain ⟨hc, ho, hi, hr⟩ := h
  have rests : ConverterRests (endPointClim stage c) := ⟨hc, ho, hi, hr⟩
  unfold endSources
  split
  · exact threeRequests_start _ rests
  · refine (twoRequests_start _ rests).trans ?_
    rw [← hr]
    rfl

/-- Settles O55. -/
theorem halfCyclePointsRequestConversions : Obligations.HalfCyclePointsRequestConversions := by
  refine ⟨?mid, ?endPoint, ?sampling⟩
  case mid =>
    intro s i hm hp hc ho hi hr
    refine ⟨finish (takeMidPoint s), rfl, ?_⟩
    rw [takeMidPoint_of hm hp]
    exact ⟨innerRequest_starts (c := { s.clim with midPoint := none }) _ ⟨hc, ho, hi, hr⟩, finish_within (withClim_frame _ _)⟩
  case endPoint =>
    intro s i hm hp hc ho hi hr
    refine ⟨finish (takeEndPoint s), rfl, ?_⟩
    rw [takeEndPoint_of hm hp, endPoint_requests _ ⟨hc, ho, hi, hr⟩, finish_clim, State.withClim_clim]
    refine ⟨rfl, ho, rfl, rfl, rfl, rfl, rfl, fun due => ?_, fun notDue => ?_, finish_within (withClim_frame _ _)⟩
    · simp [endPointClim, evaluationDue, or_assoc, due]
    · simp [endPointClim, evaluationDue, notDue]
  case sampling =>
    intro s i hm hp hc ho hi hr
    refine ⟨finish (takeRestSampling s), rfl, ?_⟩
    rw [takeRestSampling_of hm hp]
    exact ⟨threeRequests_start (c := { s.clim with restSampling := some (Count.later i restSamplingCounts) }) _
      ⟨hc, ho, hi, hr⟩, finish_within (withClim_frame _ _)⟩

end Sys2Proof.Laws
end

section
/-! ## The closes of the windows, and the grants (R59, R77 to R79, R86, R90, R91, R140) -/

namespace Sys2Proof.Laws

open Sys2Proof.Machine Sys2Proof.Safety

/-! ### The closes of the windows (R59, R84, R140) -/

theorem closeGather_of {s : State} {i : Count} (hm : s.mode.mode = .run) (hi : s.rev.gather = some i) :
    closeGather s = requestPass ((advanceTo i s).withRev { s.rev with gather := none }) := by
  simp [closeGather, hi, hm]

theorem closeClaimWindow_of {s : State} {i : Count} (hm : s.mode.mode = .run) (hi : s.rev.claimWindow = some i) :
    closeClaimWindow s = closeClaims ((advanceTo i s).withRev { s.rev with claimWindow := none }) := by
  simp [closeClaimWindow, hi, hm]

theorem closeClaims_of_ne {s : State} (h : s.frost.ownClaim ≠ .queued) : closeClaims s = s := by
  rw [closeClaims, if_neg h]

/-- The withdrawal keeps a CLAIM where one is on the line (R34). -/
theorem any_claim_withdrawEntries (q : List TxEntry) :
    (withdrawEntries isClaim q).any isClaim = q.any fun e => e.cls = .claim && e.onLine := by
  rw [Bool.eq_iff_iff, List.any_eq_true, List.any_eq_true]
  constructor
  · rintro ⟨x, hx, hc⟩
    obtain ⟨y, hy, rfl⟩ := List.mem_map.mp hx
    obtain ⟨hy, hkeep⟩ := List.mem_filter.mp hy
    refine ⟨y, hy, ?_⟩
    by_cases hyc : isClaim y = true
    · simpa [isClaim, show y.cls = .claim by simpa [isClaim] using hyc] using hkeep
    · rw [if_neg hyc] at hc
      exact absurd hc hyc
  · rintro ⟨y, hy, hc⟩
    obtain ⟨hcls, hon⟩ : y.cls = .claim ∧ y.onLine = true := by simpa using hc
    have hyc : isClaim y = true := by simp [isClaim, hcls]
    refine ⟨_, List.mem_map.mpr ⟨y, List.mem_filter.mpr ⟨hy, by simp [hon]⟩, rfl⟩, ?_⟩
    rw [if_pos hyc]
    exact hyc

theorem closeClaims_of_queued {s : State} (h : s.frost.ownClaim = .queued) :
    (closeClaims s).line = (withdraw isClaim s).line ∧ (closeClaims s).frost = { s.frost with
      ownClaim := if s.line.txq.any (fun e => e.cls = .claim && e.onLine) = true then .queued else .idle } := by
  have left : (withdraw isClaim s).line.txq.any isClaim = _ := any_claim_withdrawEntries s.line.txq
  rw [closeClaims, if_pos h]
  dsimp only
  rw [left]
  split
  · refine ⟨rfl, ?_⟩
    rw [← h]
    rfl
  · exact ⟨rfl, rfl⟩

/-- Settles O48. -/
theorem windowsCloseToTheirOwners : Obligations.WindowsCloseToTheirOwners := by
  refine ⟨?gather, ?claims⟩
  case gather =>
    intro s i hm hi
    refine ⟨finish (closeGather s), rfl, ?_⟩
    rw [closeGather_of hm hi]
    have asked := requestPass_asked ((advanceTo i s).withRev { s.rev with gather := none })
    have frame := requestPass_frame ((advanceTo i s).withRev { s.rev with gather := none })
    have own : ((advanceTo i s).withRev { s.rev with gather := none }).pass = s.pass ∧
        ((advanceTo i s).withRev { s.rev with gather := none }).unit = s.unit := by simp
    obtain ⟨pass, unit⟩ := asked.of_eq own.1 own.2
    have written := withRev_frame (advanceTo i s) { s.rev with gather := none }
    have rev := frame .rev (by decide)
    generalize requestPass ((advanceTo i s).withRev { s.rev with gather := none }) = u at *
    refine ⟨rev, ?_, ?_, finish_within (othersKept_append written frame)⟩
    · rw [finish_pass, pass, if_pos rfl]
      cases s.pass.state <;> rfl
    · rw [finish_unit, unit]
      cases s.pass.state <;> simp
  case claims =>
    intro s i hm hi
    refine ⟨finish (closeClaimWindow s), rfl, ?_⟩
    rw [closeClaimWindow_of hm hi]
    have written := withRev_frame (advanceTo i s) { s.rev with claimWindow := none }
    have line : ((advanceTo i s).withRev { s.rev with claimWindow := none }).line = s.line := by simp
    have frost : ((advanceTo i s).withRev { s.rev with claimWindow := none }).frost = s.frost := by simp
    have rev : ((advanceTo i s).withRev { s.rev with claimWindow := none }).rev = { s.rev with claimWindow := none } := rfl
    generalize (advanceTo i s).withRev { s.rev with claimWindow := none } = v at *
    refine ⟨?_, fun other => ?_, fun queued => ?_, finish_within (othersKept_append written (closeClaims_frame v))⟩
    · rw [finish_rev, closeClaims_frame v .rev (by decide), rev]
    · rw [closeClaims_of_ne (by rw [frost]; exact other)]
      exact ⟨line, frost⟩
    · obtain ⟨line', frost'⟩ := closeClaims_of_queued (s := v) (by rw [frost]; exact queued)
      rw [finish_line, finish_frost, line', frost', withdraw, State.withLine_line, line, frost]
      exact ⟨by simp [withdrawEntries, isClaim], rfl⟩

/-! ### The grants (R77, R79, R90, R91) -/

theorem participants_advanceTo (t : Count) (s : State) : participants (advanceTo t s) = participants s := by
  simp [participants, ownParticipant, peerParticipants]

/-- The participants are the station itself and the peers that take part, in node order (R77). -/
theorem participants_perm (s : State) :
    (participants s).Perm ((ownParticipant s).toList ++ peerParticipants s) := by
  unfold participants
  cases ownParticipant s with
  | none => exact List.Perm.refl _
  | some p => exact insertOrd_perm _ p _

theorem grantPass_of {s : State} (free : s.unit.engine = .free) (waits : s.unit.waitPass = true) :
    grantPass s = (s.withPass { s.pass with snapshot := participants s, state := .running }).withUnit
      { s.unit with waitPass := false, engine := .pass s.time.now (2 + (participants s).length) false } := by
  simp [grantPass, free, waits]

/-- Settles O49. -/
theorem grantsFollowPriority : Obligations.GrantsFollowPriority := by
  refine ⟨?pass, ?climate, ?filter, ?nothing⟩
  case pass =>
    intro t s free waits
    refine ⟨finish (grantPass (advanceTo t s)), rfl, ?_⟩
    rw [grantPass_of (by simpa using free) (by simpa using waits), participants_advanceTo]
    refine ⟨by simp, ?_, by simp, rfl, finish_within (othersKept_append (withPass_frame _ _) (withUnit_frame _ _))⟩
    refine (participants_perm s).trans (List.Perm.of_eq (congr (congrArg HAppend.hAppend ?_) ?_))
    · unfold ownParticipant
      cases s.own.direction <;> rfl
    · unfold peerParticipants
      cases s.own.k with
      | none => exact (List.filterMap_eq_nil_iff.mpr fun r _ => rfl).symm
      | some k =>
        refine congrArg (List.filterMap · s.peers.records) (funext fun r => ?_)
        cases hk : r.kp <;> cases hd : r.direction <;> cases ha : r.agree
        all_goals simp [participantOf, sideOf, otherSide, hk, hd, ha]
  case climate =>
    intro t s x free none waits
    refine ⟨finish (grantEvaluation (advanceTo t s)), rfl, ?_⟩
    have granted : grantEvaluation (advanceTo t s) = (advanceTo t s).withUnit
        { s.unit with waitClimate := .none, engine := .climate x (advanceTo t s).time.now 3 false } := by
      simp [grantEvaluation, free, none, waits]
    rw [granted]
    exact ⟨rfl, finish_within (withUnit_frame _ _)⟩
  case filter =>
    intro t s x free none noClimate waits
    refine ⟨finish (grantEvaluation (advanceTo t s)), rfl, ?_⟩
    have granted : grantEvaluation (advanceTo t s) = (advanceTo t s).withUnit
        { s.unit with waitFilter := .none, engine := .filter x (advanceTo t s).time.now 2 false } := by
      simp [grantEvaluation, free, none, noClimate, waits]
    rw [granted]
    exact ⟨rfl, finish_within (withUnit_frame _ _)⟩
  case nothing =>
    intro t s busy
    refine ⟨finish (grantEvaluation (advanceTo t s)), rfl, ?_⟩
    have nothing : grantEvaluation (advanceTo t s) = advanceTo t s := by
      unfold grantEvaluation
      split
      next free =>
        have waits : s.unit.waitPass = true := busy.resolve_right fun h => h (by simpa using free)
        rw [if_pos (by simpa using waits)]
      · rfl
    rw [nothing]
    exact finish_frame _

end Sys2Proof.Laws
end

section
/-! ## C and HALT inside a half-cycle, and what the frost guard hands on (R3, R84, R85, R109, R110, R123) -/

namespace Sys2Proof.Laws

open Sys2Proof.Machine Sys2Proof.Safety

/-! ### A recomputation of C (R84, R85, R109, R110) -/

section
variable (s : State)

/-- F under a ceiling that may be new (R84, R109). -/
def flowUnder (c : Nat) : Nat :=
  if c = s.own.ceil then s.own.flow
  else if s.mode.mode = .run ∧ s.pass.current = false ∧ s.own.direction ≠ .halt then min s.own.want c
  else min s.own.flow c

/-- The new ceiling for the direction in force. -/
def ceilNow : Nat := ceilingFor s s.own.direction

/-- A recomputation that falls to 10 or more codes below the CEIL reference in RUN (R110). -/
def fallAnnounced : Prop :=
  s.mode.mode = .run ∧ ceilNow s < s.own.ceil ∧ s.fan.ceilRef.any (fun r => decide (ceilNow s + 10 ≤ r)) = true

theorem announceFall_frame (before : Nat) : othersKept [.line] s (announceFall before s) := by
  unfold announceFall
  split
  · split
    · exact queueNotice_frame _ s
    · exact othersKept_refl _ _
  · exact othersKept_refl _ _

theorem recomputeCeil_of_eq (h : ceilNow s = s.own.ceil) : recomputeCeil s = s := if_pos h

theorem recomputeCeil_of_ne (h : ceilNow s ≠ s.own.ceil) :
    recomputeCeil s = trigger (announceFall s.own.ceil (writeCeil (ceilNow s) s)) := if_neg h

/-- A recomputation writes C, and F under it, and nothing else of the own record (R84, R109). -/
theorem recomputeCeil_own :
    (recomputeCeil s).own = { s.own with ceil := ceilNow s, flow := flowUnder s (ceilNow s) } := by
  by_cases h : ceilNow s = s.own.ceil
  · rw [recomputeCeil_of_eq s h, flowUnder, if_pos h, h]
  · rw [recomputeCeil_of_ne s h, trigger_frame _ .own (by decide), announceFall_frame _ _ .own (by decide), flowUnder,
      if_neg h]
    rfl

/-- A changed C is a re-pass trigger in RUN after the gather window (R85). -/
theorem recomputeCeil_asked {again : Bool}
    (h : again = true ↔ s.mode.mode = .run ∧ s.rev.gather = none ∧ ceilNow s ≠ s.own.ceil) :
    passAsked again s (recomputeCeil s) := by
  by_cases same : ceilNow s = s.own.ceil
  · rw [recomputeCeil_of_eq s same]
    obtain rfl : again = false := by simpa [same] using h
    exact passAsked_refl s
  · rw [recomputeCeil_of_ne s same]
    have before := othersKept_append (withOwn_frame s { s.own with
      ceil := ceilNow s
      flow := if s.mode.mode = .run ∧ s.pass.current = false ∧ s.own.direction ≠ .halt
            then min s.own.want (ceilNow s) else min s.own.flow (ceilNow s) })
      (announceFall_frame (writeCeil (ceilNow s) s) s.own.ceil)
    have asked := triggerIf_asked (p := True) (s := announceFall s.own.ceil (writeCeil (ceilNow s) s)) (again := again)
      (by rw [before .mode (by decide), before .rev (by decide), h]; simp [same])
    rw [if_pos trivial] at asked
    exact asked.of_eq (before .pass (by decide)) (before .unit (by decide))

/-- A recomputation that is not announced leaves the line block (R110). -/
theorem recomputeCeil_silent (h : ¬ fallAnnounced s) : (recomputeCeil s).line = s.line := by
  by_cases same : ceilNow s = s.own.ceil
  · rw [recomputeCeil_of_eq s same]
  · rw [recomputeCeil_of_ne s same, trigger_frame _ .line (by decide), announceFall]
    split
    next r hr =>
      have hr : s.fan.ceilRef = some r := hr
      rw [if_neg fun ⟨run, fell, low⟩ => h ⟨run, fell, by rw [hr]; exact decide_eq_true low⟩]
      rfl
    · rfl

/-- An announced recomputation queues a CHANGE that is not urgent (R110). -/
theorem recomputeCeil_announces (h : fallAnnounced s) :
    (recomputeCeil s).line = (queueNotice (newEntry .change false s.own.node false []) s).line := by
  obtain ⟨run, fell, low⟩ := h
  rw [recomputeCeil_of_ne s (Nat.ne_of_lt fell), trigger_frame _ .line (by decide), announceFall]
  split
  next r hr =>
    have hr : s.fan.ceilRef = some r := hr
    rw [hr] at low
    rw [if_pos ⟨run, fell, of_decide_eq_true low⟩]
    exact queueNotice_line_congr _ rfl
  next hr =>
    have hr : s.fan.ceilRef = none := hr
    rw [hr] at low
    simp at low

end

/-- With room and no CHANGE in the queue a CHANGE is placed (R31, R110). -/
theorem queueChange_stands {s : State} {urgent : Bool} (h : s.line.faultCount < 64) (room : s.line.txq.length < 4)
    (fresh : ∀ x ∈ s.line.txq, x.cls ≠ .change) (node : Nat) :
    newEntry .change urgent node false [] ∈
      (queueNotice (newEntry .change urgent node false []) s).line.txq := by
  rw [queueNotice_accepted h rfl, State.withLine_line, acceptNotice_free (entryOf_eq_none.mpr fresh) room]
  exact (mem_insertOrd _).mpr (.inl rfl)

/-! ### HALT inside a half-cycle (R3, R85, R97, R110) -/

section
variable {s : State}

/-- The state that a stop request of `haltInside` is made from. -/
def haltCalled (s : State) : State :=
  if s.mode.mode = .run then trigger (queueChange true (haltOwn s)) else haltOwn s

theorem haltInside_of_ne (h : s.own.direction ≠ .halt) : haltInside s = stopRequest (haltCalled s) := by
  rw [haltInside, if_neg h]
  rfl

theorem haltInside_of_eq (h : s.own.direction = .halt) : haltInside s = s := by
  rw [haltInside, if_pos h]

theorem queueChange_frame (urgent : Bool) (s : State) : othersKept [.line] s (queueChange urgent s) :=
  queueNotice_frame _ s

theorem haltCalled_frame (s : State) : othersKept [.own, .line, .pass, .unit] s (haltCalled s) := by
  unfold haltCalled
  split
  · exact othersKept_append (haltOwn_frame s) (othersKept_append (queueChange_frame _ _) (trigger_frame _))
  · exact othersKept_mono (haltOwn_frame s) (by decide)

theorem haltCalled_own (s : State) : (haltCalled s).own = (haltOwn s).own := by
  unfold haltCalled
  split
  · rw [trigger_frame _ .own (by decide), queueChange_frame _ _ .own (by decide)]
  · rfl

/-- Direction HALT with D, C and F at 0 (R3). -/
theorem haltInside_own (h : s.own.direction ≠ .halt) :
    (haltInside s).own = { s.own with direction := .halt, want := 0, ceil := 0, flow := 0 } := by
  have own := haltCalled_own s
  rw [haltInside_of_ne h]
  rcases stopRequest_own (haltCalled s) with stop | stop
  · exact stop.trans own
  · rw [stop, haltOwn, State.withOwn_own, own]
    rfl

/-- The change to HALT is a re-pass trigger in RUN after the gather window (R85). -/
theorem haltInside_asked {again : Bool}
    (h : again = true ↔ s.mode.mode = .run ∧ s.rev.gather = none ∧ s.own.direction ≠ .halt) :
    passAsked again s (haltInside s) := by
  by_cases halt : s.own.direction = .halt
  · rw [haltInside_of_eq halt]
    obtain rfl : again = false := by simpa [halt] using h
    exact passAsked_refl s
  · rw [haltInside_of_ne halt, passAsked, stopRequest_frame _ .pass (by decide), stopRequest_frame _ .unit (by decide)]
    rw [← passAsked]
    by_cases run : s.mode.mode = .run
    · rw [haltCalled, if_pos run]
      have before := othersKept_append (haltOwn_frame s) (queueChange_frame true (haltOwn s))
      have asked := triggerIf_asked (p := True) (s := queueChange true (haltOwn s)) (again := again)
        (by rw [before .mode (by decide), before .rev (by decide), h]; simp [halt])
      rw [if_pos trivial] at asked
      exact asked.of_eq (before .pass (by decide)) (before .unit (by decide))
    · rw [haltCalled, if_neg run]
      obtain rfl : again = false := by simpa [run] using h
      exact (passAsked_refl (haltOwn s)).of_eq rfl rfl

/-- In RUN the change to HALT queues an urgent CHANGE (R110). -/
theorem haltInside_line (run : s.mode.mode = .run) (h : s.own.direction ≠ .halt) :
    (haltInside s).line = (queueNotice (newEntry .change true s.own.node false []) s).line := by
  rw [haltInside_of_ne h, stopRequest_frame _ .line (by decide), haltCalled, if_pos run,
    trigger_frame _ .line (by decide)]
  exact queueNotice_line_congr _ rfl

theorem haltInside_wanted (h : s.own.direction ≠ .halt) : (haltInside s).fan.wanted = .halt := by
  rw [haltInside_of_ne h]
  exact (stopRequest_wanted _).1

/-- A fan in RUNNING is ramped down to stop (R97). -/
theorem stopRequest_running (h : s.fan.state = .running) :
    (stopRequest s).fan.state = .rampDown ∧ (stopRequest s).fan.target = some .halt := by
  rw [stopRequest, h]
  exact ⟨rfl, rfl⟩

theorem haltInside_running (run : s.fan.state = .running) (h : s.own.direction ≠ .halt) :
    (haltInside s).fan.state = .rampDown ∧ (haltInside s).fan.target = some .halt := by
  rw [haltInside_of_ne h]
  exact stopRequest_running (by rw [haltCalled_frame s .fan (by decide)]; exact run)

end

/-! ### What a climate evaluation may write through the frost guard (R123, R129) -/

/-- The own record apart from direction, D, C and F. -/
def ownBase (o : OwnRecord) : OwnRecord := { o with direction := .halt, want := 0, ceil := 0, flow := 0 }

/-- The calculation unit apart from the waiting balance pass. -/
def unitBase (x : CalcUnit) : CalcUnit := { x with waitPass := false }

/-- What the frost guard hands on: direction, D, C and F, notices, a balance pass, a stop of the fan, a store write. -/
structure HandsOn (s u : State) : Prop where
  frame : othersKept [.own, .line, .pass, .unit, .fan, .frost, .svc] s u
  own : ownBase u.own = ownBase s.own
  unit : unitBase u.unit = unitBase s.unit

theorem HandsOn.trans {s t u : State} (h : HandsOn s t) (h' : HandsOn t u) : HandsOn s u :=
  ⟨othersKept_trans h.frame h'.frame, h'.own.trans h.own, h'.unit.trans h.unit⟩

/-- An operation that touches neither the own record nor the calculation unit. -/
theorem HandsOn.of_frame {s u : State} (h : othersKept [.line, .pass, .fan, .frost, .svc] s u) : HandsOn s u :=
  ⟨othersKept_mono h (by decide), congrArg ownBase (h .own (by decide)), congrArg unitBase (h .unit (by decide))⟩

theorem HandsOn.refl (s : State) : HandsOn s s := .of_frame (othersKept_refl _ s)

/-- A pass that may have been asked for leaves the rest of the calculation unit. -/
theorem passAsked.unitBase {again : Bool} {s u : State} (h : passAsked again s u) :
    Laws.unitBase u.unit = Laws.unitBase s.unit := by
  rw [h.2]
  rfl

section
variable (s : State)

theorem handsOn_withFrost (b : FrostGuard) : HandsOn s (s.withFrost b) :=
  .of_frame (othersKept_mono (withFrost_frame s b) (by decide))

theorem recomputeCeil_handsOn : HandsOn s (recomputeCeil s) where
  frame := othersKept_mono (recomputeCeil_frame s) (by decide)
  own := by rw [recomputeCeil_own]; rfl
  unit := (recomputeCeil_asked s (again := decide (s.mode.mode = .run ∧ s.rev.gather = none ∧ ceilNow s ≠ s.own.ceil))
    decide_eq_true_iff).unitBase

theorem haltInside_handsOn : HandsOn s (haltInside s) where
  frame := othersKept_mono (haltInside_frame s) (by decide)
  own := by
    by_cases h : s.own.direction = .halt
    · rw [haltInside_of_eq h]
    · rw [haltInside_own h]
      rfl
  unit := (haltInside_asked
    (again := decide (s.mode.mode = .run ∧ s.rev.gather = none ∧ s.own.direction ≠ .halt))
    decide_eq_true_iff).unitBase

theorem moveStage_handsOn (st : FrostStage) : HandsOn s (moveStage st s) :=
  .of_frame (othersKept_mono (moveStage_frame s st) (by decide))

theorem changeStage_handsOn (st : FrostStage) : HandsOn s (changeStage st s) :=
  (moveStage_handsOn s st).trans (recomputeCeil_handsOn _)

/-- The states that LOCKOUT is prepared in: the claim given up, THAW cut, the stage and its cause written (R136). -/
def lockoutReady (cause : LockCause) : State := lockNow (thawCut (dropClaim s)) cause

theorem lockoutReady_frame (cause : LockCause) : othersKept [.line, .frost] s (lockoutReady s cause) :=
  othersKept_mono (othersKept_append (dropClaim_frame s) (othersKept_append (withFrost_frame _ _)
    (othersKept_append (moveStage_frame _ _) (withFrost_frame _ _)))) (by decide)

theorem enterLockout_handsOn (cause : LockCause) : HandsOn s (enterLockout cause s) := by
  rw [enterLockout_eq]
  have ready : HandsOn s (lockoutReady s cause) :=
    .of_frame (othersKept_mono (lockoutReady_frame s cause) (by decide))
  have write : HandsOn (lockoutReady s cause) (requestWrite (lockoutReady s cause)) :=
    .of_frame (othersKept_mono (requestWrite_frame _) (by decide))
  exact (ready.trans write).trans (haltInside_handsOn _)

theorem endLockout_handsOn : HandsOn s (endLockout s) :=
  (moveStage_handsOn s .noFrost).trans (handsOn_withFrost _ _)

theorem judgeInLockout_handsOn (p10 t : Int) : HandsOn s (judgeInLockout p10 t s) := by
  unfold judgeInLockout
  split
  · exact handsOn_withFrost s _
  · split
    · split
      · exact handsOn_withFrost s _
      · exact endLockout_handsOn s
    · exact handsOn_withFrost s _

theorem judgeLockout_handsOn (r : FrostResult) : HandsOn s (judgeLockout r s) := by
  unfold judgeLockout
  split
  · exact HandsOn.refl s
  · split
    · exact judgeInLockout_handsOn s _ _
    · split
      · exact enterLockout_handsOn s _
      · exact HandsOn.refl s

theorem stageTransition_handsOn : HandsOn s (stageTransition s) := by
  unfold stageTransition setRise setFall
  split
  · split
    · exact changeStage_handsOn s _
    · exact HandsOn.refl s
  · split
    · split
      · exact handsOn_withFrost s _
      · exact changeStage_handsOn s _
    · split
      · split
        · exact handsOn_withFrost s _
        · exact changeStage_handsOn s _
      · exact handsOn_withFrost s _
  · split
    · split
      · exact handsOn_withFrost s _
      · split
        · exact changeStage_handsOn s _
        · exact handsOn_withFrost s _
    · split
      · split
        · exact handsOn_withFrost s _
        · exact changeStage_handsOn s _
      · exact handsOn_withFrost s _
  · split
    · exact changeStage_handsOn s _
    · exact HandsOn.refl s
  · exact HandsOn.refl s
  · exact HandsOn.refl s

theorem judgeThaw_handsOn : HandsOn s (judgeThaw s) := by
  unfold judgeThaw thawFailed
  split
  · exact HandsOn.refl s
  · split
    · exact handsOn_withFrost s _
    · split
      · exact handsOn_withFrost s _
      · split
        · dsimp only
          split
          · exact (handsOn_withFrost s _).trans (enterLockout_handsOn _ _)
          · exact handsOn_withFrost s _
        · exact handsOn_withFrost s _

theorem judgeStage_handsOn (r : FrostResult) : HandsOn s (judgeStage r s) := by
  unfold judgeStage faultHold
  split
  · exact (handsOn_withFrost s _).trans (changeStage_handsOn _ _)
  · split
    · exact HandsOn.refl s
    · exact (stageTransition_handsOn s).trans (judgeThaw_handsOn _)

theorem applyFrost_handsOn (r : FrostResult) : HandsOn s (applyFrost r s) := by
  have lock := (handsOn_withFrost s { s.frost with severity := severityAfter r s.frost.severity }).trans
    (judgeLockout_handsOn _ r)
  unfold applyFrost
  dsimp only
  split
  · exact lock
  · exact lock.trans (judgeStage_handsOn _ r)

/-! ### The results of evaluations (R87, R91, R92, R122, R123, R125, R168) -/

theorem applyHumidity_frame (rh prev : Option Int) : othersKept [.demand] s (applyHumidity rh prev s) := by
  unfold applyHumidity judgeHumidity
  split
  · split
    · exact withDemand_frame s _
    · split
      · exact withDemand_frame s _
      · exact othersKept_refl _ s
  · exact othersKept_refl _ s

theorem applyDryGuard_frame (rh out : Option Int) : othersKept [.demand] s (applyDryGuard rh out s) := by
  unfold applyDryGuard
  split
  · split
    · exact withDemand_frame s _
    · exact othersKept_refl _ s
  · split
    · split
      · split
        · exact withDemand_frame s _
        · exact withDemand_frame s _
      · exact withDemand_frame s _
    · exact othersKept_refl _ s

/-- What an evaluation that is not discarded leaves before the frost guard takes it: the engine free, the ratio and
the own climate part written. -/
def ratioWritten (x : EvalInputs) : State := writeRatio x (s.withUnit { s.unit with engine := .free })

/-- The frost guard has taken the result (R129). -/
def frostTaken (x : EvalInputs) : State :=
  applyFrost (frostResult x (s.withUnit { s.unit with engine := .free })) (ratioWritten s x)

/-- The demand unit has taken the result after the frost guard (R123, R152, R156). -/
def resultTaken (x : EvalInputs) : State :=
  applyDryGuard x.rh x.tOutdoor (applyHumidity x.rh x.prevRh (frostTaken s x))

theorem ratioWritten_frame (x : EvalInputs) : othersKept [.unit, .clim, .own] s (ratioWritten s x) :=
  othersKept_append (withUnit_frame s _) (othersKept_append (withClim_frame _ _) (withOwn_frame _ _))

theorem resultTaken_demandOnly (x : EvalInputs) : othersKept [.demand] (frostTaken s x) (resultTaken s x) :=
  othersKept_trans (applyHumidity_frame (frostTaken s x) _ _) (applyDryGuard_frame _ _ _)

theorem frostTaken_handsOn (x : EvalInputs) : HandsOn (ratioWritten s x) (frostTaken s x) :=
  applyFrost_handsOn _ _

theorem resultTaken_frame (x : EvalInputs) :
    othersKept [.own, .line, .unit, .pass, .fan, .clim, .frost, .demand, .svc] s (resultTaken s x) :=
  othersKept_mono (othersKept_append (ratioWritten_frame s x) (othersKept_append (frostTaken_handsOn s x).frame
    (resultTaken_demandOnly s x))) (by decide)

/-- The list of ratios after an evaluation that computed one or not (R122). -/
def ratiosAfter (rho : Option Nat) (ratios : List Nat) : List Nat :=
  match rho with
  | some v => joinRatio ratios v
  | none => ratios

theorem ratioWritten_clim (x : EvalInputs) : (ratioWritten s x).clim = { s.clim with
    ratios := ratiosAfter (computedRatio x) s.clim.ratios
    lastRh := if x.rh.isSome then x.rh else s.clim.lastRh } := by
  cases hr : computedRatio x <;> cases h : x.rh <;> simp [ratioWritten, writeRatio, ratiosAfter, hr, h]

theorem ratioWritten_own (x : EvalInputs) : (ratioWritten s x).own = { s.own with
    ratio := (computedRatio x).getD s.own.ratio
    outdoor := outdoorAfter s.clim.outer.latched x s.own.outdoor } := rfl

theorem resultTaken_clim (x : EvalInputs) : (resultTaken s x).clim = (ratioWritten s x).clim :=
  (resultTaken_demandOnly s x .clim (by decide)).trans ((frostTaken_handsOn s x).frame .clim (by decide))

theorem resultTaken_ownBase (x : EvalInputs) : ownBase (resultTaken s x).own = ownBase (ratioWritten s x).own :=
  (congrArg ownBase (resultTaken_demandOnly s x .own (by decide))).trans (frostTaken_handsOn s x).own

theorem resultTaken_unitBase (x : EvalInputs) :
    unitBase (resultTaken s x).unit = unitBase { s.unit with engine := .free } :=
  (congrArg unitBase (resultTaken_demandOnly s x .unit (by decide))).trans (frostTaken_handsOn s x).unit

theorem completeClimate_of {s : State} {x : EvalInputs} {a : Count} {ms : Nat} {discard : Bool}
    (h : s.unit.engine = .climate x a ms discard) : completeClimate s =
      if discard then s.withUnit { s.unit with engine := .free } else resultTaken s x := by
  unfold completeClimate
  rw [h]
  rfl

theorem completeFilter_of {s : State} {x : FilterPair} {a : Count} {ms : Nat} {discard : Bool}
    (h : s.unit.engine = .filter x a ms discard) : completeFilter s =
      if discard then s.withUnit { s.unit with engine := .free }
      else applyFilter x (s.withUnit { s.unit with engine := .free }) := by
  simp [completeFilter, h]

/-- The snapshot emptied and the engine free at the end of a discarded pass. -/
def passEnded : State := (s.withUnit { s.unit with engine := .free }).withPass { s.pass with snapshot := [] }

theorem completePass_of_discarded {s : State} {a : Count} {ms : Nat} (h : s.unit.engine = .pass a ms true) :
    completePass s = settleTable (afterPass (passEnded s)) := by
  unfold completePass
  rw [h]
  rfl

end

/-- Settles O50. -/
theorem discardedResultsChangeNothing : Obligations.DiscardedResultsChangeNothing := by
  refine ⟨?pass, ?climate, ?kept, ?filter⟩
  case pass =>
    intro t s a ms busy
    refine ⟨finish (completePass (advanceTo t s)), rfl, ?_⟩
    rw [completePass_of_discarded (a := a) (ms := ms) (by simpa using busy)]
    have ended := othersKept_append (withUnit_frame (advanceTo t s) { s.unit with engine := .free })
      (withPass_frame _ { s.pass with snapshot := [] })
    have pass : (passEnded (advanceTo t s)).pass = { s.pass with snapshot := [] } := by simp [passEnded]
    have unit : (passEnded (advanceTo t s)).unit = { s.unit with engine := .free } := by simp [passEnded]
    have peers : (passEnded (advanceTo t s)).peers = s.peers := by simp [passEnded]
    have same : passEnded (advanceTo t s) = ((advanceTo t s).withUnit { s.unit with engine := .free }).withPass
        { s.pass with snapshot := [] } := by simp [passEnded]
    rw [← same] at ended
    clear same
    generalize passEnded (advanceTo t s) = v at *
    have hpass := afterPass_pass v
    have hunit := afterPass_unit v
    have hpeers := afterPass_peers v
    have frame := othersKept_append ended (othersKept_append (afterPass_frame v) (settleTable_frame _))
    generalize afterPass v = w at *
    rw [pass] at hpass hunit
    rw [unit] at hunit
    rw [peers] at hpeers
    have free : w.unit.engine = .free := congrArg CalcUnit.engine hunit
    refine ⟨?_, ?_, ?_, free, ?_, fun running => ?_, fun more => ?_, ?_, finish_within frame⟩
    · rw [finish_pass, settleTable_pass, hpass]
    · rw [finish_pass, settleTable_pass, hpass]
    · rw [finish_pass, settleTable_pass, hpass]
    · have held : tableHeld w = false := by rw [tableHeld, free]
      exact held
    · rw [finish_pass, finish_unit, settleTable_pass, settleTable_unit, hpass, hunit]
      simp [running, stateAfterPass]
    · rw [finish_pass, finish_unit, settleTable_pass, settleTable_unit, hpass, hunit]
      simp [more, stateAfterPass]
    · rw [← hpeers]
      rfl
  case climate =>
    intro t s x a ms busy
    refine ⟨finish (completeClimate (advanceTo t s)), rfl, ?_⟩
    rw [completeClimate_of (s := advanceTo t s) (by simpa using busy), if_pos rfl]
    refine ⟨?_, finish_within (withUnit_frame _ _)⟩
    simp
  case kept =>
    intro t s x a ms busy
    refine ⟨finish (completeClimate (advanceTo t s)), rfl, ?_⟩
    rw [completeClimate_of (s := advanceTo t s) (by simpa using busy), if_neg (by decide)]
    have frame := resultTaken_frame (advanceTo t s) x
    have clim := (resultTaken_clim (advanceTo t s) x).trans (ratioWritten_clim _ x)
    have own := (resultTaken_ownBase (advanceTo t s) x).trans (congrArg ownBase (ratioWritten_own _ x))
    have unit := resultTaken_unitBase (advanceTo t s) x
    rw [advanceTo_clim] at clim own
    rw [advanceTo_own] at own
    generalize resultTaken (advanceTo t s) x = u at *
    refine ⟨congrArg CalcUnit.engine unit, congrArg OwnRecord.outdoor own, ?_, finish_within frame⟩
    rw [finish_clim, clim]
  case filter =>
    intro t s x a ms busy
    refine ⟨finish (completeFilter (advanceTo t s)), rfl, ?_⟩
    rw [completeFilter_of (s := advanceTo t s) (by simpa using busy), if_pos rfl]
    refine ⟨?_, finish_within (withUnit_frame _ _)⟩
    simp

end Sys2Proof.Laws
end

section
/-! ## CLEAR and the ten-second hold (R107, R116, R154, R185) -/

namespace Sys2Proof.Laws

open Sys2Proof.Machine Sys2Proof.Safety

section
variable (s : State)

/-- The fan block after a CLEAR: a latched FAN STALL has a PENDING trial (R107). -/
def trialAsked : FanDrive :=
  { s.fan with trial := if s.fan.latch.isSome ∧ s.fan.trial = .idle then .pending else s.fan.trial }

theorem askChecks_frame : othersKept [.clim] s (askChecks s) := by
  unfold askChecks
  split
  · exact withClim_frame s _
  · exact requestConversions_frame _ s

theorem clearLatches_fan : (clearLatches s).fan = trialAsked s := by
  have fan : (askChecks s).fan = s.fan := askChecks_frame s .fan (by decide)
  rw [clearLatches_eq, fan, trialAsked]
  split
  · rfl
  · exact fan

theorem clearLatches_frame : othersKept [.clim, .fan] s (clearLatches s) := by
  rw [clearLatches_eq]
  split
  · exact othersKept_append (askChecks_frame s) (withFan_frame _ _)
  · exact othersKept_mono (askChecks_frame s) (by decide)

theorem clearLatches_clim : (clearLatches s).clim = (askChecks s).clim := by
  rw [clearLatches_eq]
  split <;> rfl

/-- In START each latched sensor is marked for a CLEAR check (R116). -/
def checksMarked (c : ClimateSensing) : ClimateSensing :=
  { c with
    outer := { c.outer with clearMark := c.outer.clearMark || c.outer.latched }
    inner := { c.inner with clearMark := c.inner.clearMark || c.inner.latched }
    rhSensor := { c.rhSensor with clearMark := c.rhSensor.clearMark || c.rhSensor.latched } }

/-- Each of the three sensors is marked where it is latched, whatever the others are (R116). -/
theorem markChecks_latched (c : ClimateSensing) :
    markChecks c ([Source.outer, .inner, .rh].filter fun src => (sensorOf c src).latched) = checksMarked c := by
  obtain ⟨⟨_, _, outer, _⟩, ⟨_, _, inner, _⟩, ⟨_, _, rh, _⟩⟩ := c
  cases outer <;> cases inner <;> cases rh
  all_goals simp [markChecks, sensorOf, withSensor, checksMarked]

theorem clearLatches_start (h : s.mode.mode = .start) : (clearLatches s).clim = checksMarked s.clim := by
  rw [clearLatches_clim, askChecks, if_pos h, State.withClim_clim]
  exact markChecks_latched s.clim

/-- Outside START no sensor changes, and each latched one is asked a CLEAR check (R116). -/
theorem clearLatches_awake (h : s.mode.mode ≠ .start) : (clearLatches s).clim = withRequestsOf s.clim (clearLatches s).clim ∧
    ∀ src, (sensorOf s.clim src).latched = true → checkAsked (clearLatches s).clim src = true := by
  rw [clearLatches_clim, askChecks, if_neg h]
  refine ⟨requestConversions_clim _ s, fun src latched => checkAsked_of_asked (requestConversions_asked _ (.inr ?_))⟩
  simp only [latchedSources, List.mem_map, List.mem_filter]
  exact ⟨src, ⟨by cases src <;> simp, latched⟩, rfl⟩

/-- The clauses of a CLEAR outside START, on the state that it leaves. -/
theorem clearLatches_checks (h : s.mode.mode ≠ .start) :
    (s.clim.outer.latched = true → checkAsked (clearLatches s).clim .outer = true) ∧
    (s.clim.inner.latched = true → checkAsked (clearLatches s).clim .inner = true) ∧
    (s.clim.rhSensor.latched = true → checkAsked (clearLatches s).clim .rh = true) ∧
    (clearLatches s).clim.outer = s.clim.outer ∧ (clearLatches s).clim.inner = s.clim.inner ∧
    (clearLatches s).clim.rhSensor = s.clim.rhSensor := by
  obtain ⟨fields, checks⟩ := clearLatches_awake s h
  refine ⟨checks .outer, checks .inner, checks .rh, ?_, ?_, ?_⟩
  all_goals
    rw [fields]
    rfl

end

/-- The state at the ten-second mark of a press, its release without effect (R154, R155). -/
def pressHeld (p : Press) (s : State) : State :=
  (advanceTo (Count.later p.since 10240) s).withDemand { s.demand with button := some { p with timed := false } }

theorem holdButton_of {s : State} {p : Press} (h : s.demand.button = some p) (timed : p.timed = true) :
    holdButton s = clearLatches (pressHeld p s) := by
  simp [holdButton, h, timed, pressHeld, pressHoldCounts]

theorem pressHeld_frame (p : Press) (s : State) : othersKept [.time, .demand] s (pressHeld p s) :=
  othersKept_append (advanceTo_frame _ s) (withDemand_frame _ _)

theorem pressHeld_demand (p : Press) (s : State) :
    (pressHeld p s).demand = { s.demand with button := some { p with timed := false } } := by
  rw [pressHeld, State.withDemand_demand]

theorem pressHeld_time (p : Press) (s : State) : (pressHeld p s).time = (advanceTo (Count.later p.since 10240) s).time := by
  rw [pressHeld, State.withDemand_time]

/-- Settles O42. -/
theorem clearAsksForChecksAndATrial : Obligations.ClearAsksForChecksAndATrial := by
  refine ⟨?awake, ?start, ?held, ?heldInStart⟩
  case awake =>
    intro t s f rest index value free front decoded mode hopen fresh room hsetup hrest
    refine ⟨finish (takeNotice .request (isRequest .clear) applyClear (advanceTo t s)), rfl, ?_⟩
    have awake : (requestState rest t s).mode.mode ≠ .start := by rw [requestState_mode]; exact mode
    have checks := clearLatches_checks (requestState rest t s) awake
    have cleared := clearLatches_frame (requestState rest t s)
    have fan := clearLatches_fan (requestState rest t s)
    have before := requestState_frame rest t s
    rw [(before .clim (by decide)).trans (advanceTo_clim t s)] at checks
    rw [trialAsked, requestState_fan] at fan
    have replied := reply_frame f .clear .done index zeroPage (clearLatches (requestState rest t s))
    have line := serve_reply_line (f := f) (kind := .clear) (status := .done) (index := index) (d := zeroPage)
      (v := clearLatches (requestState rest t s)) (rest := rest)
      ((cleared .line (by decide)).trans (requestState_line rest t s))
      ((cleared .own (by decide)).trans (requestState_own rest t s)) hopen fresh room
    have frame := othersKept_append before (othersKept_append cleared replied)
    have setup := ((replied .mode (by decide)).trans (cleared .mode (by decide))).trans (requestState_mode rest t s)
    have rested := ((replied .demand (by decide)).trans (cleared .demand (by decide))).trans (requestState_demand rest t s)
    rw [takeNotice_at .request free front decoded rfl rfl rfl, applyClear, if_neg (by simpa using mode),
      serve_answered (answer := answerClear f index) (by simpa using mode)
        ((congrArg ModeControl.setupFlush setup).trans hsetup) ((congrArg DemandUnit.flush rested).trans hrest)]
    rw [← requestState, answerClear]
    have clim := replied .clim (by decide)
    have fan' := replied .fan (by decide)
    rw [← clim] at checks
    generalize reply f .clear .done index zeroPage (clearLatches (requestState rest t s)) = u at *
    obtain ⟨o, i, r, ho, hi, hr⟩ := checks
    exact ⟨fan'.trans fan, o, i, r, ho, hi, hr, reply_stands (congrArg LineControl.txq line) rfl,
      congrArg LineControl.rxq line, finish_within frame⟩
  case start =>
    intro t s f rest index value free front decoded mode
    refine ⟨finish (takeNotice .request (isRequest .clear) applyClear (advanceTo t s)), rfl, ?_⟩
    rw [takeNotice_at .request free front decoded rfl rfl rfl, applyClear, if_pos (by simpa using mode)]
    have clim := clearLatches_start (noticeState rest t s) (by simpa using mode)
    have fan := clearLatches_fan (noticeState rest t s)
    have line := (clearLatches_frame (noticeState rest t s) .line (by decide)).trans (noticeState_line rest t s)
    have frame := othersKept_append (noticeState_frame rest t s) (clearLatches_frame (noticeState rest t s))
    rw [noticeState_clim] at clim
    rw [trialAsked, noticeState_fan] at fan
    generalize clearLatches (noticeState rest t s) = u at *
    exact ⟨clim, fan, line, finish_within frame⟩
  case held =>
    intro s p button timed mode
    refine ⟨finish (holdButton s), rfl, ?_⟩
    rw [holdButton_of button timed]
    have cleared := clearLatches_frame (pressHeld p s)
    have checks := clearLatches_checks (pressHeld p s) (by simpa [pressHeld] using mode)
    have fan := clearLatches_fan (pressHeld p s)
    rw [pressHeld_frame p s .clim (by decide)] at checks
    rw [trialAsked, pressHeld_frame p s .fan (by decide)] at fan
    obtain ⟨o, i, r, ho, hi, hr⟩ := checks
    have demand := (cleared .demand (by decide)).trans (pressHeld_demand p s)
    have time := (cleared .time (by decide)).trans (pressHeld_time p s)
    have frame := othersKept_append (pressHeld_frame p s) cleared
    generalize clearLatches (pressHeld p s) = u at *
    exact ⟨fan, o, i, r, ho, hi, hr, demand, time, finish_within frame⟩
  case heldInStart =>
    intro s p button timed mode
    refine ⟨finish (holdButton s), rfl, ?_⟩
    rw [holdButton_of button timed]
    have cleared := clearLatches_frame (pressHeld p s)
    have clim := clearLatches_start (pressHeld p s) (by simpa [pressHeld] using mode)
    have fan := clearLatches_fan (pressHeld p s)
    rw [pressHeld_frame p s .clim (by decide)] at clim
    rw [trialAsked, pressHeld_frame p s .fan (by decide)] at fan
    have demand := (cleared .demand (by decide)).trans (pressHeld_demand p s)
    have time := (cleared .time (by decide)).trans (pressHeld_time p s)
    have frame := othersKept_append (pressHeld_frame p s) cleared
    generalize clearLatches (pressHeld p s) = u at *
    exact ⟨clim, fan, demand, time, finish_within frame⟩

end Sys2Proof.Laws
end

section
/-! ## FILTER RESET (R108 to R110, R174, R182) -/

namespace Sys2Proof.Laws

open Sys2Proof.Machine Sys2Proof.Safety

/-! ### A notice queued with room leaves the entries of the other classes -/

theorem acceptNotice_mem_other {e x : TxEntry} {l : LineControl} (room : l.txq.length < 4) (other : x.cls ≠ e.cls) :
    x ∈ (acceptNotice e l).txq ↔ x ∈ l.txq := by
  have ne : x ≠ e := fun h => other (h ▸ rfl)
  unfold acceptNotice
  split
  · split
    · rfl
    · simp [placeEntry, mem_insertOrd, mem_withoutClass, ne, other]
  · rw [if_pos room]
    simp [placeEntry, mem_insertOrd, ne]

theorem queueNotice_mem_other {e x : TxEntry} {s : State} (room : s.line.txq.length < 4) (other : x.cls ≠ e.cls) :
    x ∈ (queueNotice e s).line.txq ↔ x ∈ s.line.txq := by
  unfold queueNotice
  split
  · rfl
  · split
    · rfl
    · exact acceptNotice_mem_other room other
  · exact acceptNotice_mem_other room other

/-- A queue with room grows by one notice at most. -/
theorem acceptNotice_length {e : TxEntry} {l : LineControl} (room : l.txq.length < 4) :
    (acceptNotice e l).txq.length ≤ l.txq.length + 1 := by
  unfold acceptNotice
  split
  · split
    · exact Nat.le_succ _
    · rw [placeEntry_length]
      exact Nat.succ_le_succ (List.length_filter_le _ _)
  · rw [if_pos room]
    exact Nat.le_of_eq (placeEntry_length _ _)

theorem queueNotice_length {e : TxEntry} {s : State} (room : s.line.txq.length < 4) :
    (queueNotice e s).line.txq.length ≤ s.line.txq.length + 1 := by
  unfold queueNotice
  split
  · exact Nat.le_succ _
  · split
    · exact Nat.le_succ _
    · exact acceptNotice_length room
  · exact acceptNotice_length room

/-- The CHANGE of a recomputation in RUN: queued where C falls to 10 or more codes below the CEIL reference, and
else not (R110). -/
theorem recomputeCeil_change {s : State} (run : s.mode.mode = .run) (h : s.line.faultCount < 64)
    (room : s.line.txq.length < 4) (fresh : ∀ x ∈ s.line.txq, x.cls ≠ .change) :
    (ceilNow s < s.own.ceil ∧ s.fan.ceilRef.any (fun r => decide (ceilNow s + 10 ≤ r)) = true →
      newEntry .change false s.own.node false [] ∈ (recomputeCeil s).line.txq) ∧
    (s.own.ceil ≤ ceilNow s ∨ s.fan.ceilRef.any (fun r => decide (ceilNow s + 10 ≤ r)) = false →
      ∀ x ∈ (recomputeCeil s).line.txq, x.cls ≠ .change) := by
  refine ⟨fun ⟨fell, low⟩ => ?_, fun stays => ?_⟩
  · rw [recomputeCeil_announces s ⟨run, fell, low⟩]
    exact queueChange_stands h room fresh _
  · rw [recomputeCeil_silent s fun ⟨_, fell, low⟩ => ?_]
    · exact fresh
    · rcases stays with up | high
      · omega
      · rw [low] at high
        cases high

/-- A recomputation adds one notice at most, and its entries of other classes are those of before (R110). -/
theorem recomputeCeil_queue {s : State} (room : s.line.txq.length < 4) :
    (recomputeCeil s).line.txq.length ≤ s.line.txq.length + 1 ∧
      (∀ x, x.cls ≠ .change → (x ∈ (recomputeCeil s).line.txq ↔ x ∈ s.line.txq)) := by
  by_cases h : fallAnnounced s
  · rw [recomputeCeil_announces s h]
    exact ⟨queueNotice_length room, fun x hx => queueNotice_mem_other room hx⟩
  · rw [recomputeCeil_silent s h]
    exact ⟨Nat.le_succ _, fun _ _ => Iff.rfl⟩

theorem recomputeCeil_lineFields (s : State) :
    (recomputeCeil s).line.faultCount = s.line.faultCount ∧ (recomputeCeil s).line.rxq = s.line.rxq := by
  by_cases h : fallAnnounced s
  · rw [recomputeCeil_announces s h, queueNotice_fields]
    exact ⟨rfl, rfl⟩
  · rw [recomputeCeil_silent s h]
    exact ⟨rfl, rfl⟩

theorem ceilNow_halt {s : State} (h : s.own.direction = .halt) : ceilNow s = 0 := by
  rw [ceilNow, ceilingFor, h]
  rfl

theorem flowUnder_le {s : State} (c : Nat) (h : s.own.flow ≤ s.own.ceil) : flowUnder s c ≤ c := by
  unfold flowUnder
  split
  · omega
  · split <;> exact Nat.min_le_right _ _

/-- A recomputation keeps F at or below C, and all three at 0 in HALT (R4, R5). -/
theorem recomputeCeil_bounded {s : State} (h : flowBounded s.own) : flowBounded (recomputeCeil s).own := by
  obtain ⟨below, halted⟩ := h
  rw [recomputeCeil_own]
  have le := flowUnder_le (s := s) (ceilNow s) below
  refine ⟨le, fun halt => ?_⟩
  obtain ⟨want, -, -⟩ := halted halt
  have zero := ceilNow_halt (s := s) halt
  exact ⟨want, zero, Nat.le_zero.mp (zero ▸ le)⟩

/-! ### The state that a FILTER RESET leaves before C follows -/

section
variable (s : State)

theorem resetFilterBlocks_frame : othersKept [.unit, .filt, .time] s (resetFilterBlocks s) :=
  othersKept_append (withUnit_frame s _) (othersKept_append (withFilt_frame _ _) (withTime_frame _ _))

/-- The engine after the filter supervisor has given up its job (R174). -/
def filterDiscarded : Engine → Engine
  | .filter p a ms _ => .filter p a ms true
  | e => e

theorem resetFilterBlocks_unit : (resetFilterBlocks s).unit =
    { s.unit with waitFilter := none, engine := filterDiscarded s.unit.engine } := by
  cases h : s.unit.engine <;> simp [resetFilterBlocks, cutFilterJob, filterDiscarded, h]

theorem resetFilterBlocks_time : (resetFilterBlocks s).time = { s.time with fanTime := 0 } := rfl

theorem resetFilterBlocks_filt : (resetFilterBlocks s).filt = resetFilt := rfl

theorem resetFilterBlocks_line : (resetFilterBlocks s).line = s.line := resetFilterBlocks_frame s .line (by decide)
theorem resetFilterBlocks_own : (resetFilterBlocks s).own = s.own := resetFilterBlocks_frame s .own (by decide)
theorem resetFilterBlocks_fan : (resetFilterBlocks s).fan = s.fan := resetFilterBlocks_frame s .fan (by decide)
theorem resetFilterBlocks_pass : (resetFilterBlocks s).pass = s.pass := resetFilterBlocks_frame s .pass (by decide)
theorem resetFilterBlocks_mode : (resetFilterBlocks s).mode = s.mode := resetFilterBlocks_frame s .mode (by decide)

/-- The ceiling that follows the restored filter ceilings of 120 (R108, R174). -/
def restoredCeil : Nat :=
  match sideOf s.own.direction with
  | none => 0
  | some .outward => capped s.fan.cap 120
  | some .inward => capped s.fan.cap (if trimmed s.frost.stage then 120 * paramNat s 9 / 100 else 120)

theorem resetFilterBlocks_ceil : ceilNow (resetFilterBlocks s) = restoredCeil s := by
  have own : (resetFilterBlocks s).own = s.own := rfl
  have fan : (resetFilterBlocks s).fan = s.fan := rfl
  have frost : (resetFilterBlocks s).frost = s.frost := rfl
  have param : paramNat (resetFilterBlocks s) 9 = paramNat s 9 := rfl
  unfold ceilNow ceilingFor trimmedCeil restoredCeil
  rw [own, fan, frost, param, resetFilterBlocks_filt]
  cases s.own.direction <;> rfl

/-- What a FILTER RESET leaves: the recomputation of C and a store write after its blocks (R174). -/
theorem resetFilter_write : othersKept [.svc] (recomputeCeil (resetFilterBlocks s)) (resetFilter s) :=
  requestWrite_frame _

theorem resetFilter_line : (resetFilter s).line = (recomputeCeil (resetFilterBlocks s)).line :=
  resetFilter_write s .line (by decide)

theorem resetFilter_frame : othersKept [.own, .line, .time, .unit, .pass, .filt, .svc] s (resetFilter s) := by
  rw [resetFilter_eq]
  exact othersKept_mono (othersKept_append (resetFilterBlocks_frame s) (othersKept_append (recomputeCeil_frame _)
    (requestWrite_frame _))) (by decide)

theorem resetFilter_own : (resetFilter s).own =
    { s.own with ceil := restoredCeil s, flow := flowUnder s (restoredCeil s) } := by
  rw [resetFilter_write s .own (by decide), recomputeCeil_own, resetFilterBlocks_ceil]
  rfl

theorem resetFilter_filt : (resetFilter s).filt = resetFilt := by
  rw [resetFilter_eq, requestWrite_frame _ .filt (by decide), recomputeCeil_frame _ .filt (by decide)]
  rfl

theorem resetFilter_time : (resetFilter s).time = { s.time with fanTime := 0 } := by
  rw [resetFilter_eq, requestWrite_frame _ .time (by decide), recomputeCeil_frame _ .time (by decide)]
  rfl

theorem resetFilter_svc : (resetFilter s).svc.writing.isSome = true ∧
    (s.svc.writing.isSome = true → (resetFilter s).svc.further = true) ∧ (resetFilter s).svc.params = s.svc.params := by
  have svc : (recomputeCeil (resetFilterBlocks s)).svc = s.svc :=
    (recomputeCeil_frame _ .svc (by decide)).trans (resetFilterBlocks_frame s .svc (by decide))
  rw [resetFilter_eq]
  refine ⟨requestWrite_writing _, fun writing => ?_, by rw [requestWrite_params, svc]⟩
  rw [requestWrite_of_some (by rw [svc]; exact writing)]
  rfl

/-- The pass that a changed C asks for (R85, R174). -/
theorem resetFilter_asked {again : Bool}
    (h : again = true ↔ s.mode.mode = .run ∧ s.rev.gather = none ∧ restoredCeil s ≠ s.own.ceil) :
    passAsked again (resetFilterBlocks s) (resetFilter s) := by
  rw [passAsked, resetFilter_write s .pass (by decide), resetFilter_write s .unit (by decide)]
  exact recomputeCeil_asked (resetFilterBlocks s) (by rw [resetFilterBlocks_ceil]; exact h)

end

end Sys2Proof.Laws
end

section
/-! ## FILTER RESET as a service request (R51, R174, R182) -/

namespace Sys2Proof.Laws

open Sys2Proof.Machine Sys2Proof.Safety

/-- The restored ceiling, spelled out by direction and cap (R108, R174). -/
theorem restoredCeil_eq (s : State) : restoredCeil s =
    (match s.own.direction with
    | .halt => 0
    | .outward => (match s.fan.cap with
      | some x => min x 120
      | none => 120)
    | .inward =>
      let trim := if s.frost.stage = .trim ∨ s.frost.stage = .claiming then 120 * paramNat s 9 / 100
        else 120
      match s.fan.cap with
      | some x => min x trim
      | none => trim) := by
  rw [restoredCeil]
  cases s.own.direction <;> cases s.fan.cap <;> simp [sideOf, capped, trimmed] <;> rfl

section
variable (rest : List RxFrame) (t : Count) (s : State)

theorem requestState_pass : (requestState rest t s).pass = s.pass :=
  (requestState_frame rest t s .pass (by decide)).trans (advanceTo_pass t s)
theorem requestState_unit : (requestState rest t s).unit = s.unit :=
  (requestState_frame rest t s .unit (by decide)).trans (advanceTo_unit t s)
theorem requestState_rev : (requestState rest t s).rev = s.rev :=
  (requestState_frame rest t s .rev (by decide)).trans (advanceTo_rev t s)
theorem requestState_time : (requestState rest t s).time = (advanceTo t s).time :=
  requestState_frame rest t s .time (by decide)

theorem restoredCeil_requestState : restoredCeil (requestState rest t s) = restoredCeil s := by
  simp [restoredCeil, paramNat]

theorem flowUnder_requestState (c : Nat) : flowUnder (requestState rest t s) c = flowUnder s c := by
  simp [flowUnder, requestState_pass]

/-- The state that a FILTER RESET is answered in, with its reply queued. -/
def resetReplied (f : RxFrame) (index : Byte) : State :=
  reply f .filterReset .done index zeroPage (resetFilter (requestState rest t s))

variable (f : RxFrame) (index : Byte)

/-- A block that neither the reply nor the request writes is as the reset left it. -/
theorem resetReplied_frame : othersKept [.line] (resetFilter (requestState rest t s)) (resetReplied rest t s f index) :=
  reply_frame _ _ _ _ _ _

theorem resetReplied_within : othersKept [.mode, .own, .line, .time, .unit, .pass, .filt, .svc] s
    (resetReplied rest t s f index) :=
  othersKept_mono (othersKept_append (advanceTo_frame t s) (othersKept_append (requestState_frame rest t s)
    (othersKept_append (resetFilter_frame _) (resetReplied_frame rest t s f index)))) (by decide)

theorem resetReplied_own : (resetReplied rest t s f index).own =
    { s.own with ceil := restoredCeil s, flow := flowUnder s (restoredCeil s) } := by
  rw [resetReplied_frame rest t s f index .own (by decide), resetFilter_own, restoredCeil_requestState,
    flowUnder_requestState, requestState_own]

theorem resetReplied_filt : (resetReplied rest t s f index).filt = resetFilt :=
  (resetReplied_frame rest t s f index .filt (by decide)).trans (resetFilter_filt _)

theorem resetReplied_time : (resetReplied rest t s f index).time = { (advanceTo t s).time with fanTime := 0 } := by
  rw [resetReplied_frame rest t s f index .time (by decide), resetFilter_time, requestState_time]

theorem resetReplied_svc : (resetReplied rest t s f index).svc.writing.isSome = true ∧
    (s.svc.writing.isSome = true → (resetReplied rest t s f index).svc.further = true) ∧
    (resetReplied rest t s f index).svc.params = s.svc.params := by
  rw [resetReplied_frame rest t s f index .svc (by decide)]
  have svc := resetFilter_svc (requestState rest t s)
  rw [requestState_svc] at svc
  exact svc

theorem resetReplied_mode : (resetReplied rest t s f index).mode = (requestState rest t s).mode :=
  (resetReplied_frame rest t s f index .mode (by decide)).trans (resetFilter_frame _ .mode (by decide))

theorem resetReplied_demand : (resetReplied rest t s f index).demand = s.demand :=
  resetReplied_within rest t s f index .demand (by decide)

/-- The pass that the changed C asks for, and the filter job given up (R85, R174). -/
theorem resetReplied_asked {again : Bool}
    (h : again = true ↔ s.mode.mode = .run ∧ s.rev.gather = none ∧ restoredCeil s ≠ s.own.ceil) :
    (resetReplied rest t s f index).pass =
        { s.pass with state := if again then awaited s.pass.state else s.pass.state } ∧
      (resetReplied rest t s f index).unit = { s.unit with
        waitFilter := none, engine := filterDiscarded s.unit.engine
        waitPass := s.unit.waitPass || (again && decide (s.pass.state = .idle)) } := by
  have asked := resetFilter_asked (requestState rest t s) (again := again) (by
    rw [requestState_mode, requestState_rev, requestState_own, restoredCeil_requestState]
    exact h)
  rw [passAsked, resetFilterBlocks_unit, resetFilterBlocks_pass, requestState_pass, requestState_unit] at asked
  rw [resetReplied_frame rest t s f index .pass (by decide), resetReplied_frame rest t s f index .unit (by decide)]
  exact asked

/-- The queue before the reply: one CHANGE more at most (R110). -/
theorem resetFilter_queue (room : s.line.txq.length < 3) :
    (resetFilter (requestState rest t s)).line.txq.length < 4 ∧
      (∀ x, x.cls ≠ .change → (x ∈ (resetFilter (requestState rest t s)).line.txq ↔ x ∈ s.line.txq)) := by
  have before : (resetFilterBlocks (requestState rest t s)).line.txq = s.line.txq := by
    rw [resetFilterBlocks_line, requestState_line]
  rw [resetFilter_line]
  have queue := recomputeCeil_queue (s := resetFilterBlocks (requestState rest t s)) (by rw [before]; omega)
  rw [before] at queue
  exact ⟨by omega, queue.2⟩

theorem resetFilter_lineFields : (resetFilter (requestState rest t s)).line.faultCount = s.line.faultCount ∧
    (resetFilter (requestState rest t s)).line.rxq = rest := by
  obtain ⟨count, rxq⟩ := recomputeCeil_lineFields (resetFilterBlocks (requestState rest t s))
  rw [resetFilter_line, count, rxq, resetFilterBlocks_line, requestState_line]
  exact ⟨rfl, rfl⟩

theorem resetReplied_rxq : (resetReplied rest t s f index).line.rxq = rest := by
  rw [resetReplied, reply_eq, queueNotice_rxq]
  exact (resetFilter_lineFields rest t s).2

/-- The reply DONE stands where the line is OPEN and the queue has room for it and a CHANGE (R182). -/
theorem resetReplied_answers (hopen : s.line.faultCount < 32)
    (room : (resetFilter (requestState rest t s)).line.txq.length < 4)
    (same : ∀ x ∈ (resetFilter (requestState rest t s)).line.txq, x.cls ≠ .reply) :
    ∃ e ∈ (resetReplied rest t s f index).line.txq, e.cls = .reply ∧ e.node = s.own.node ∧
      e.payload = replyBytes f.node .filterReset .done index 0 0 0 0 := by
  obtain ⟨count, -⟩ := resetFilter_lineFields rest t s
  have own : (resetFilter (requestState rest t s)).own.node = s.own.node := by
    rw [resetFilter_own, requestState_own]
  have line := reply_line (f := f) (kind := .filterReset) (status := .done) (index := index) (d := zeroPage)
    (s := resetFilter (requestState rest t s)) (by rw [count]; exact hopen) same room
  rw [own] at line
  exact reply_stands (congrArg LineControl.txq line) rfl

/-- The CHANGE of the restored ceiling, seen after the reply (R110, R174). -/
theorem resetReplied_change (run : s.mode.mode = .run) (h : s.line.faultCount < 64) (room : s.line.txq.length < 3)
    (fresh : ∀ x ∈ s.line.txq, x.cls ≠ .change) :
    (restoredCeil s < s.own.ceil ∧ s.fan.ceilRef.any (fun r => decide (restoredCeil s + 10 ≤ r)) = true →
      newEntry .change false s.own.node false [] ∈ (resetReplied rest t s f index).line.txq) ∧
    (s.own.ceil ≤ restoredCeil s ∨ s.fan.ceilRef.any (fun r => decide (restoredCeil s + 10 ≤ r)) = false →
      ∀ x ∈ (resetReplied rest t s f index).line.txq, x.cls ≠ .change) := by
  obtain ⟨length, -⟩ := resetFilter_queue rest t s room
  have replied {x : TxEntry} (hx : x.cls = .change) : x ∈ (resetReplied rest t s f index).line.txq ↔
      x ∈ (resetFilter (requestState rest t s)).line.txq :=
    queueNotice_mem_other length (by rw [hx]; exact (by decide : NoticeClass.change ≠ .reply))
  have before : (resetFilterBlocks (requestState rest t s)).line = { s.line with rxq := rest } := by
    rw [resetFilterBlocks_line, requestState_line]
  have change := recomputeCeil_change (s := resetFilterBlocks (requestState rest t s))
    (by rw [resetFilterBlocks_mode, requestState_mode]; exact run) (by rw [before]; exact h)
    (by rw [before]; exact Nat.lt_of_lt_of_le room (by decide)) (by rw [before]; exact fresh)
  rw [resetFilterBlocks_ceil, restoredCeil_requestState, resetFilterBlocks_own, requestState_own, resetFilterBlocks_fan,
    requestState_fan, ← resetFilter_line] at change
  refine ⟨fun falls => (replied rfl).mpr (change.1 falls), fun stays x hx hc => ?_⟩
  exact change.2 stays x ((replied hc).mp hx) hc

end

theorem resetReplied_bounded (rest : List RxFrame) (t : Count) (s : State) (f : RxFrame) (index : Byte)
    (h : flowBounded s.own) : flowBounded (resetReplied rest t s f index).own := by
  have bounded := recomputeCeil_bounded (s := resetFilterBlocks (requestState rest t s))
    (by rw [resetFilterBlocks_own, requestState_own]; exact h)
  rw [resetReplied_frame rest t s f index .own (by decide), resetFilter_write _ .own (by decide)]
  exact bounded

theorem applyFilterReset_of {f : RxFrame} {index value : Byte} {rest : List RxFrame} {t : Count} {s : State}
    (mode : s.mode.mode ≠ .start) (hsetup : s.mode.setupFlush = none ∨ s.mode.mode = .run)
    (hrest : s.demand.flush = none ∨ s.mode.mode = .run) :
    applyFilterReset f (.request .filterReset index value) (noticeState rest t s) = resetReplied rest t s f index := by
  have mode' := resetReplied_mode rest t s f index
  have demand := resetReplied_demand rest t s f index
  have unfolded : applyFilterReset f (.request .filterReset index value) (noticeState rest t s) =
      settleFlush (resetReplied rest t s f index) := by
    rw [applyFilterReset, serve, if_neg (by simpa using mode)]
    rfl
  rw [unfolded]
  generalize resetReplied rest t s f index = u at *
  by_cases run : s.mode.mode = .run
  · exact settleFlush_of_run u (by rw [mode', requestState_mode]; exact run)
  · refine settleFlush_of_no_flush u ?_ ?_
    · rw [mode', requestState_mode]
      exact hsetup.resolve_right run
    · rw [demand]
      exact hrest.resolve_right run

/-- Settles O43. -/
theorem filterResetStartsLearning : Obligations.FilterResetStartsLearning := by
  refine ⟨?outside, ?run, ?start⟩
  case outside =>
    intro t s f rest index value free front decoded mode notRun hopen fresh room hsetup hrest
    refine ⟨finish (takeNotice .request (isRequest .filterReset) applyFilterReset (advanceTo t s)), rfl, ?_⟩
    rw [takeNotice_at .request free front decoded rfl rfl rfl, applyFilterReset_of mode (.inl hsetup) (.inl hrest)]
    have silent : (resetFilter (requestState rest t s)).line.txq = s.line.txq := by
      have still : ¬ fallAnnounced (resetFilterBlocks (requestState rest t s)) := fun ⟨run, _⟩ => by
        rw [resetFilterBlocks_mode, requestState_mode] at run
        exact notRun run
      rw [resetFilter_line, recomputeCeil_silent _ still, resetFilterBlocks_line, requestState_line]
    have answers := resetReplied_answers rest t s f index hopen (by rw [silent]; exact room)
      (by rw [silent]; exact fresh)
    obtain ⟨pass, unit⟩ := resetReplied_asked rest t s f index (again := false) (by simp [notRun])
    have filt := resetReplied_filt rest t s f index
    have time := resetReplied_time rest t s f index
    have own := resetReplied_own rest t s f index
    obtain ⟨writing, further, params⟩ := resetReplied_svc rest t s f index
    have within := resetReplied_within rest t s f index
    generalize resetReplied rest t s f index = u at *
    have frame : othersKept [.mode, .own, .line, .time, .unit, .filt, .svc] s u := by
      intro b hb
      by_cases hp : b = .pass
      · subst hp
        exact pass
      · exact within b (by simp_all)
    refine ⟨filt, time, congrArg CalcUnit.waitFilter unit, ?_, writing, further, params, answers, fun ⟨halt, zero⟩ => ?_,
      ?_, ?_, finish_within frame⟩
    · rw [finish_unit, unit]
      cases s.unit.engine <;> rfl
    · have zero' : restoredCeil s = s.own.ceil := by rw [zero, restoredCeil, halt]; rfl
      rw [finish_own, own, flowUnder, if_pos zero', zero']
    · rw [finish_own, own]
    · rw [finish_own, own]
      exact restoredCeil_eq s
  case run =>
    intro t s f rest index value free front decoded mode
    refine ⟨finish (takeNotice .request (isRequest .filterReset) applyFilterReset (advanceTo t s)), rfl, ?_⟩
    rw [takeNotice_at .request free front decoded rfl rfl rfl, applyFilterReset_of (by simp [mode]) (.inr mode) (.inr mode)]
    have change := resetReplied_change rest t s f index mode
    have bounded := resetReplied_bounded rest t s f index
    have own := resetReplied_own rest t s f index
    obtain ⟨pass, unit⟩ := resetReplied_asked rest t s f index
      (again := decide (s.mode.mode = .run ∧ s.rev.gather = none ∧ restoredCeil s ≠ s.own.ceil)) decide_eq_true_iff
    have filt := resetReplied_filt rest t s f index
    have time := resetReplied_time rest t s f index
    obtain ⟨writing, further, params⟩ := resetReplied_svc rest t s f index
    have rxq := resetReplied_rxq rest t s f index
    have within := resetReplied_within rest t s f index
    have mode' := resetReplied_mode rest t s f index
    have answers : s.line.faultCount < 32 ∧ (∀ x ∈ s.line.txq, x.cls ≠ .reply) ∧ s.line.txq.length < 3 → _ :=
      fun ⟨hopen, fresh, room⟩ =>
        have ⟨length, others⟩ := resetFilter_queue rest t s room
        resetReplied_answers rest t s f index hopen length fun x hx hc =>
          fresh x ((others x (by rw [hc]; decide)).mp hx) hc
    generalize resetReplied rest t s f index = u at *
    have ceil : (finish u).own.ceil = restoredCeil s := by rw [finish_own, own]
    rw [ceil]
    refine ⟨filt, restoredCeil_eq s, fun ⟨h, room, fresh⟩ => change h room fresh, bounded, ?_, ⟨?_, ?_⟩, ?_, ?_, ?_, time,
      writing, further, params, rxq, answers, ?_⟩
    · rw [finish_own, own]
      rfl
    · rw [finish_pass, pass]
      cases s.pass.state <;> rfl
    · rw [finish_unit, unit]
    · rw [finish_own, own]
    · rw [finish_unit, unit]
    · rw [finish_unit, unit]
      cases s.unit.engine <;> rfl
    · have frame : othersKept [.own, .line, .time, .unit, .pass, .filt, .svc] s u := by
        intro b hb
        by_cases hm : b = .mode
        · subst hm
          exact mode'.trans (by rw [requestState_mode, if_neg (by simp [mode])])
        · exact within b (by simp_all)
      exact finish_within frame
  case start =>
    intro t s f rest index value free front decoded mode
    refine ⟨finish (takeNotice .request (isRequest .filterReset) applyFilterReset (advanceTo t s)), rfl, ?_⟩
    rw [takeNotice_at .request free front decoded rfl rfl rfl, applyFilterReset, serve_start (by simpa using mode)]
    exact ⟨noticeState_line rest t s, finish_within (noticeState_frame rest t s)⟩

end Sys2Proof.Laws
end

section
/-! ## The entry to JOIN, block by block (R2, R18, R69, R76, R95, R117, R124, R145, R173, R180) -/

namespace Sys2Proof.Laws

open Sys2Proof.Machine Sys2Proof.Safety

/-! ### No REST purpose is left (R124, R164) -/

/-- No conversion is under way or waits for REST sampling. -/
def noRest (c : ClimateSensing) : Prop :=
  (∀ x ∈ c.converting.toList, Purpose.rest ∉ x.purposes) ∧ ∀ src, Purpose.rest ∉ waitingFor c src

theorem noRest_waiting {c : ClimateSensing} (h : noRest c) :
    ∀ p ∈ c.waitOuter ++ c.waitInner ++ c.waitRh, p ≠ Purpose.rest := by
  rintro p hp rfl
  rcases List.mem_append.mp hp with hp | hp
  · rcases List.mem_append.mp hp with hp | hp
    · exact h.2 .outer hp
    · exact h.2 .inner hp
  · exact h.2 .rh hp

theorem addRequest_noRest {c : ClimateSensing} {src : Source} {p : Purpose} (hp : p ≠ .rest) (h : noRest c) :
    noRest (addRequest src p c) := by
  refine ⟨by rw [addRequest_converting]; exact h.1, fun src' => ?_⟩
  unfold addRequest
  split
  · exact h.2 src'
  · by_cases hs : src' = src
    · subst hs
      simpa using ⟨h.2 src', fun e => hp e.symm⟩
    · rw [waitingFor_withWaiting_ne _ hs]
      exact h.2 src'

theorem addRequests_noRest {rs : List (Source × Purpose)} {c : ClimateSensing} (hp : ∀ r ∈ rs, r.2 ≠ .rest)
    (h : noRest c) : noRest (rs.foldl (fun c r => addRequest r.1 r.2 c) c) := by
  induction rs generalizing c with
  | nil => exact h
  | cons r rs ih =>
    exact ih (fun x hx => hp x (List.mem_cons_of_mem _ hx)) (addRequest_noRest (hp r List.mem_cons_self) h)

theorem startConversion_noRest {c : ClimateSensing} (h : noRest c) : noRest (startConversion c) := by
  unfold startConversion
  split
  next src _ _ =>
    refine ⟨fun x hx => ?_, fun src' => ?_⟩
    · obtain rfl : x = _ := by simpa using hx
      exact h.2 src
    · by_cases hs : src' = src
      · subst hs
        have gone := waitingFor_withWaiting c src' []
        cases src' <;> exact gone ▸ List.not_mem_nil
      · have other := waitingFor_withWaiting_ne (c := c) [] hs
        cases src' <;> exact other ▸ h.2 _
  next => exact h

/-- An idle converter that has looked at its requests has nothing more to start (R114). -/
theorem startConversion_idem (c : ClimateSensing) : startConversion (startConversion c) = startConversion c := by
  cases hc : c.converting with
  | some x => simp [startConversion, hc]
  | none =>
    cases hw : firstWaiting c with
    | some src => simp [startConversion, hc, hw]
    | none => simp [startConversion, hc, hw]

/-- Climate sensing as an entry to JOIN finds it, before the marked CLEAR checks are asked. -/
def climAtJoin (c : ClimateSensing) : ClimateSensing :=
  emptySets { forgetRestReading (withdrawPurposes (fun p => p = .rest) c) with restSampling := none }

theorem climAtJoin_noRest (c : ClimateSensing) : noRest (climAtJoin c) := by
  refine ⟨fun x hx => ?_, fun src => ?_⟩
  · have hx : x ∈ ((c.converting.map fun x => { x with purposes := x.purposes.filter fun p => p ≠ Purpose.rest }).map
        fun x => { x with purposes := x.purposes.map gonePurpose }).toList := hx
    cases hc : c.converting with
    | none => simp [hc] at hx
    | some y =>
      obtain rfl : x = _ := by simpa [hc] using hx
      simp only [List.mem_map, List.mem_filter, not_exists, not_and, and_imp]
      intro p _ hp
      cases p <;> simp_all [gonePurpose]
  · cases src <;> simp [waitingFor, climAtJoin, emptySets, forgetRestReading, withdrawPurposes]

/-- Marked CLEAR checks bring no REST purpose. -/
theorem requestMarkedChecks_noRest {s : State} (h : noRest s.clim) : noRest (requestMarkedChecks s).clim := by
  refine startConversion_noRest (addRequests_noRest (fun r hr => ?_) h)
  obtain ⟨src, -, rfl⟩ := List.mem_map.mp hr
  exact nofun

/-! ### The blocks that an entry to JOIN writes -/

section
variable (s : State)

/-- An entry to JOIN up to the emptying of the peer table. -/
def joinEarly : State := joinOwn (startListening (joinMode s))

/-- An entry to JOIN from the pass on. -/
def joinLate : State :=
  dropHeldSample (joinDemand (joinFrost (joinClim (fanModeEntry (setWanted .halt (joinPass s))))))

theorem joinBlocks_eq : joinBlocks s = joinLate (emptyPeers (joinEarly s)) := rfl

/-- The engine after the balance pass has been given up (R87). -/
def passDiscarded : Engine → Engine
  | .pass a ms _ => .pass a ms true
  | e => e

theorem cutPass_unit : (cutPass s).unit =
    { s.unit with waitPass := false, engine := passDiscarded s.unit.engine } := by
  cases h : s.unit.engine <;> simp [cutPass, passDiscarded, h]

section
variable (x : State)

/-- The fan drive's part in an entry to JOIN (R95). -/
def fanAtJoin : State := fanModeEntry (setWanted .halt x)

theorem joinPass_frame : othersKept [.unit, .pass] x (joinPass x) :=
  othersKept_trans (cutPass_frame x) (othersKept_mono (withPass_frame _ _) (by decide))

theorem fanAtJoin_frame : othersKept [.fan] x (fanAtJoin x) := othersKept_trans (withFan_frame x _) (withFan_frame _ _)

theorem joinClim_frame : othersKept [.clim] x (joinClim x) := othersKept_trans (stopRestSampling_frame x) (withClim_frame _ _)

/-- What an entry to JOIN writes in the frost guard, the demand unit and the filter supervisor. -/
def workDropped : State := dropHeldSample (joinDemand (joinFrost x))

theorem workDropped_frame : othersKept [.frost, .demand, .filt] x (workDropped x) :=
  othersKept_append (withFrost_frame x _) (othersKept_append (withDemand_frame _ _) (withFilt_frame _ _))

theorem joinLate_eq : joinLate x = workDropped (joinClim (fanAtJoin (joinPass x))) := rfl

theorem joinLate_frame : othersKept [.unit, .pass, .fan, .clim, .frost, .demand, .filt] x (joinLate x) :=
  othersKept_append (joinPass_frame x) (othersKept_append (fanAtJoin_frame _) (othersKept_append (joinClim_frame _)
    (workDropped_frame _)))

/-- What the fan, climate, frost, demand and filter parts leave of the pass and the calculation unit. -/
theorem joinLate_pass_unit : (joinLate x).pass = (joinPass x).pass ∧ (joinLate x).unit = (joinPass x).unit := by
  have after := othersKept_append (fanAtJoin_frame (joinPass x)) (othersKept_append (joinClim_frame _)
    (workDropped_frame _))
  exact ⟨after .pass (by decide), after .unit (by decide)⟩

theorem joinLate_pass : (joinLate x).pass =
    { state := .idle, snapshot := [], record := { nodes := [], n := 0, thaws := 0 }, current := false } :=
  (joinLate_pass_unit x).1

theorem joinLate_unit : (joinLate x).unit = (cutPass x).unit := (joinLate_pass_unit x).2

theorem joinLate_fan : (joinLate x).fan =
    { x.fan with wanted := .halt, cap := none, ceilRef := none, window := [] } := by
  have before : (joinPass x).fan = x.fan := joinPass_frame x .fan (by decide)
  have after := othersKept_append (joinClim_frame (fanAtJoin (joinPass x))) (workDropped_frame _)
  have fan : (joinLate x).fan = (fanAtJoin (joinPass x)).fan := after .fan (by decide)
  rw [fan, fanAtJoin, fanModeEntry, State.withFan_fan, setWanted, State.withFan_fan, before]

/-- The climate block that the parts of the frost guard, the demand unit and the filter supervisor leave. -/
theorem joinLate_clim : (joinLate x).clim = climAtJoin x.clim := by
  have before : (fanAtJoin (joinPass x)).clim = x.clim :=
    (fanAtJoin_frame _ .clim (by decide)).trans (joinPass_frame x .clim (by decide))
  have clim : (joinLate x).clim = (joinClim (fanAtJoin (joinPass x))).clim := workDropped_frame _ .clim (by decide)
  rw [clim, joinClim, State.withClim_clim, stopRestSampling, State.withClim_clim, before]
  rfl

theorem joinLate_kept : othersKept [.unit, .pass, .fan, .clim] x (joinClim (fanAtJoin (joinPass x))) :=
  othersKept_append (joinPass_frame x) (othersKept_append (fanAtJoin_frame _) (joinClim_frame _))

theorem joinLate_frost : (joinLate x).frost = { x.frost with claims := [], granted := false, ownClaim := .idle } := by
  rw [joinLate_eq, workDropped, dropHeldSample, State.withFilt_frost, joinDemand, State.withDemand_frost, joinFrost,
    State.withFrost_frost, joinLate_kept x .frost (by decide)]

theorem joinLate_demand : (joinLate x).demand =
    { x.demand with restTimer := none, heldWake := none, flush := none } := by
  rw [joinLate_eq, workDropped, dropHeldSample, State.withFilt_demand, joinDemand, State.withDemand_demand, joinFrost,
    State.withFrost_demand, joinLate_kept x .demand (by decide)]

theorem joinLate_filt : (joinLate x).filt = { x.filt with held := none } := by
  rw [joinLate_eq, workDropped, dropHeldSample, State.withFilt_filt, joinDemand, State.withDemand_filt, joinFrost,
    State.withFrost_filt, joinLate_kept x .filt (by decide)]

end

/-- A block that an entry to JOIN has not written before it empties the peer table. -/
theorem joinEarly_frame : othersKept [.mode, .rev, .own] s (joinEarly s) :=
  othersKept_mono (othersKept_append (withMode_frame s _) (othersKept_append (withRev_frame _ _)
    (othersKept_append (withRev_frame _ _) (othersKept_append (withOwn_frame _ _) (withOwn_frame _ _))))) (by decide)

theorem joinEmptied_frame : othersKept [.mode, .rev, .own, .peers] s (emptyPeers (joinEarly s)) :=
  othersKept_append (joinEarly_frame s) (emptyPeers_frame _)

/-- The blocks of an entry to JOIN that the marked checks and the comparison of the hours leave alone. -/
theorem joinEntry_frame : othersKept [.clim, .filt, .svc] (joinBlocks s) (joinEntry s) := by
  rw [joinEntry_eq]
  refine othersKept_append (requestMarkedChecks_frame _) ?_
  unfold compareHours
  split
  · exact othersKept_append (withFilt_frame _ _) (requestWrite_frame _)
  · exact othersKept_refl _ _

theorem joinEntry_mode : (joinEntry s).mode = { s.mode with
    mode := .join, setupWindow := none, inactivity := none, setupFlush := none, leaveAsked := false } := by
  rw [joinEntry_frame s .mode (by decide), joinBlocks_eq, joinLate_frame _ .mode (by decide), emptyPeers_frame _ .mode (by decide)]
  rfl

theorem joinEntry_own : (joinEntry s).own = { s.own with
    direction := .halt, want := 0, ceil := 0, flow := 0, k := none, instant := none, leaving := false } := by
  rw [joinEntry_frame s .own (by decide), joinBlocks_eq, joinLate_frame _ .own (by decide), emptyPeers_frame _ .own (by decide)]
  rfl

theorem joinEntry_time : (joinEntry s).time = s.time := by
  rw [joinEntry_frame s .time (by decide), joinBlocks_eq, joinLate_frame _ .time (by decide), joinEmptied_frame s .time (by decide)]

theorem joinEntry_rev : (joinEntry s).rev = { (stopReversals s).rev with
    listening := some (Count.later s.time.now (2 * (paramNat s 0 * 10240) + 3072)) } := by
  rw [joinEntry_frame s .rev (by decide), joinBlocks_eq, joinLate_frame _ .rev (by decide), emptyPeers_frame _ .rev (by decide)]
  rfl

theorem joinEntry_peers : (joinEntry s).peers =
    if tableHeld s then { s.peers with owedEmptying := true } else { s.peers with records := [] } := by
  rw [joinEntry_frame s .peers (by decide), joinBlocks_eq, joinLate_frame _ .peers (by decide)]
  have held : tableHeld (joinEarly s) = tableHeld s := rfl
  unfold emptyPeers
  rw [held]
  split <;> rfl

theorem joinEntry_pass : (joinEntry s).pass =
    { state := .idle, snapshot := [], record := { nodes := [], n := 0, thaws := 0 }, current := false } := by
  rw [joinEntry_frame s .pass (by decide), joinBlocks_eq, joinLate_pass]

theorem joinEntry_unit : (joinEntry s).unit =
    { s.unit with waitPass := false, engine := passDiscarded s.unit.engine } := by
  rw [joinEntry_frame s .unit (by decide), joinBlocks_eq, joinLate_unit, cutPass_unit,
    joinEmptied_frame s .unit (by decide)]

theorem joinEntry_fan : (joinEntry s).fan =
    { s.fan with wanted := .halt, cap := none, ceilRef := none, window := [] } := by
  rw [joinEntry_frame s .fan (by decide), joinBlocks_eq, joinLate_fan, joinEmptied_frame s .fan (by decide)]

theorem joinEntry_frost : (joinEntry s).frost = { s.frost with claims := [], granted := false, ownClaim := .idle } := by
  rw [joinEntry_frame s .frost (by decide), joinBlocks_eq, joinLate_frost, joinEmptied_frame s .frost (by decide)]

theorem joinEntry_demand : (joinEntry s).demand =
    { s.demand with restTimer := none, heldWake := none, flush := none } := by
  rw [joinEntry_frame s .demand (by decide), joinBlocks_eq, joinLate_demand, joinEmptied_frame s .demand (by decide)]

theorem joinBlocks_clim : (joinBlocks s).clim = climAtJoin s.clim := by
  rw [joinBlocks_eq, joinLate_clim, joinEmptied_frame s .clim (by decide)]

/-! ### The CLEAR checks and the service interval at an entry to JOIN (R116, R173) -/

theorem compareHours_clim : (compareHours s).clim = s.clim := by
  unfold compareHours
  split
  · rw [requestWrite_frame _ .clim (by decide)]
    rfl
  · rfl

theorem joinEntry_clim : (joinEntry s).clim = withRequestsOf (unmarked (climAtJoin s.clim)) (joinEntry s).clim := by
  rw [joinEntry_eq, compareHours_clim, ← joinBlocks_clim]
  exact requestMarkedChecks_clim (joinBlocks s)

theorem joinEntry_noRest : noRest (joinEntry s).clim := by
  rw [joinEntry_eq, compareHours_clim]
  exact requestMarkedChecks_noRest (by rw [joinBlocks_clim]; exact climAtJoin_noRest _)

theorem joinEntry_checks {src : Source} (h : (sensorOf s.clim src).clearMark = true) :
    checkAsked (joinEntry s).clim src = true := by
  rw [joinEntry_eq, compareHours_clim]
  refine requestMarkedChecks_asked ?_
  rw [joinBlocks_clim]
  cases src <;> exact h

/-- The service interval has passed with the filter CLEAN or LOADED (R173). -/
def hoursDue : Prop := paramNat s 8 * 100 ≤ s.filt.hours ∧ (s.filt.state = .clean ∨ s.filt.state = .loaded)

theorem compareHours_due (h : hoursDue s) : compareHours s =
    requestWrite (s.withFilt { s.filt with state := .change, runLoaded := 0, runChange := 0 }) := if_pos h

theorem compareHours_notDue (h : ¬ hoursDue s) : compareHours s = s := if_neg h

/-- The state that an entry to JOIN compares the hours of. -/
theorem joinChecked_filt : (requestMarkedChecks (joinBlocks s)).filt = { s.filt with held := none } := by
  rw [requestMarkedChecks_frame _ .filt (by decide), joinBlocks_eq, joinLate_filt, joinEmptied_frame s .filt (by decide)]

theorem joinChecked_svc : (requestMarkedChecks (joinBlocks s)).svc = s.svc := by
  rw [requestMarkedChecks_frame _ .svc (by decide), joinBlocks_eq, joinLate_frame _ .svc (by decide), joinEmptied_frame s .svc (by decide)]

theorem joinChecked_due : hoursDue (requestMarkedChecks (joinBlocks s)) ↔ hoursDue s := by
  unfold hoursDue paramNat param
  rw [joinChecked_filt, joinChecked_svc]

theorem joinEntry_due (h : hoursDue s) :
    (joinEntry s).filt = { s.filt with held := none, state := .change, runLoaded := 0, runChange := 0 } ∧
      (joinEntry s).svc.writing.isSome = true ∧
      (s.svc.writing.isSome = true → (joinEntry s).svc.further = true) ∧ (joinEntry s).svc.params = s.svc.params := by
  have svc := joinChecked_svc s
  rw [joinEntry_eq, compareHours_due _ ((joinChecked_due s).mpr h)]
  refine ⟨?_, requestWrite_writing _, fun writing => ?_, ?_⟩
  · rw [requestWrite_frame _ .filt (by decide), State.withFilt_filt, joinChecked_filt]
  · rw [requestWrite_of_some (by rw [State.withFilt_svc, svc]; exact writing)]
    rfl
  · rw [requestWrite_params, State.withFilt_svc, svc]

theorem joinEntry_notDue (h : ¬ hoursDue s) :
    (joinEntry s).filt = { s.filt with held := none } ∧ (joinEntry s).svc = s.svc := by
  rw [joinEntry_eq, compareHours_notDue _ fun due => h ((joinChecked_due s).mp due)]
  exact ⟨joinChecked_filt s, joinChecked_svc s⟩

end

end Sys2Proof.Laws
end

section
/-! ## What an entry to JOIN clears and what it keeps (R2, R69, R116, R145, R147, R166, R173, R180) -/

namespace Sys2Proof.Laws

open Sys2Proof.Machine Sys2Proof.Safety

/-- What an entry to JOIN from `s`, made in the state `v`, takes over of `s`. -/
structure JoinFrom (s v : State) : Prop where
  frost : v.frost = s.frost
  fan : v.fan = s.fan
  filt : v.filt = s.filt
  slot : v.demand.slot = s.demand.slot
  buttonBoost : v.demand.buttonBoost = s.demand.buttonBoost
  dryGuard : v.demand.dryGuard = s.demand.dryGuard
  ratios : v.clim.ratios = s.clim.ratios
  outer : v.clim.outer = s.clim.outer
  inner : v.clim.inner = s.clim.inner
  rhMark : v.clim.rhSensor.clearMark = s.clim.rhSensor.clearMark
  lastRh : v.clim.lastRh = s.clim.lastRh
  node : v.own.node = s.own.node
  lead : v.own.lead = s.own.lead
  level : v.own.level = s.own.level
  outdoor : v.own.outdoor = s.own.outdoor
  engine : v.unit.engine = s.unit.engine
  peers : v.peers = s.peers
  params : v.svc.params = s.svc.params
  writing : s.svc.writing.isSome = true → v.svc.writing.isSome = true

/-- The entry is made from a state that differs in other blocks alone, or in the store write and the rest of the
demand unit. -/
theorem JoinFrom.of_frame {s v : State} (h : othersKept [.time, .mode, .line, .svc, .demand, .rev] s v)
    (demand : v.demand.slot = s.demand.slot ∧ v.demand.buttonBoost = s.demand.buttonBoost ∧
      v.demand.dryGuard = s.demand.dryGuard) (params : v.svc.params = s.svc.params)
    (writing : s.svc.writing.isSome = true → v.svc.writing.isSome = true) : JoinFrom s v := by
  have clim : v.clim = s.clim := h .clim (by decide)
  have own : v.own = s.own := h .own (by decide)
  have unit : v.unit = s.unit := h .unit (by decide)
  exact {
    frost := h .frost (by decide), fan := h .fan (by decide), filt := h .filt (by decide), peers := h .peers (by decide)
    slot := demand.1, buttonBoost := demand.2.1, dryGuard := demand.2.2, params := params, writing := writing
    ratios := by rw [clim], outer := by rw [clim], inner := by rw [clim], rhMark := by rw [clim], lastRh := by rw [clim]
    node := by rw [own], lead := by rw [own], level := by rw [own], outdoor := by rw [own], engine := by rw [unit] }

theorem paramNat_congr {s v : State} (h : v.svc.params = s.svc.params) (i : Fin 21) : paramNat v i = paramNat s i := by
  rw [paramNat, param, h]
  rfl

theorem tableHeld_congr {s v : State} (h : v.unit.engine = s.unit.engine) : tableHeld v = tableHeld s := by
  rw [tableHeld, h]
  rfl

theorem JoinFrom.hoursDue {s v : State} (h : JoinFrom s v) : Laws.hoursDue v ↔ Laws.hoursDue s := by
  rw [Laws.hoursDue, paramNat_congr h.params, h.filt]
  rfl

/-- An entry to JOIN, whatever was written in the line block after it (R2, R18, R69, R76, R95, R117, R124, R145). -/
theorem joinEntered_at {s v u : State} (params : v.svc.params = s.svc.params) (engine : v.unit.engine = s.unit.engine)
    (records : v.peers = s.peers) (hu : othersKept [.line, .cond] (joinEntry v) u) : joinEntered s u := by
  have mode := (hu .mode (by decide)).trans (joinEntry_mode v)
  have own := (hu .own (by decide)).trans (joinEntry_own v)
  have rev := (hu .rev (by decide)).trans (joinEntry_rev v)
  have time := (hu .time (by decide)).trans (joinEntry_time v)
  have pass := (hu .pass (by decide)).trans (joinEntry_pass v)
  have fan := (hu .fan (by decide)).trans (joinEntry_fan v)
  have clim : u.clim = withRequestsOf (unmarked (climAtJoin v.clim)) (joinEntry v).clim :=
    (hu .clim (by decide)).trans (joinEntry_clim v)
  have frost := (hu .frost (by decide)).trans (joinEntry_frost v)
  have demand := (hu .demand (by decide)).trans (joinEntry_demand v)
  have peers := (hu .peers (by decide)).trans (joinEntry_peers v)
  have held : u.filt.held = none := by
    have filt : u.filt = _ := hu .filt (by decide)
    rw [filt]
    by_cases due : Laws.hoursDue v
    · rw [(joinEntry_due v due).1]
    · rw [(joinEntry_notDue v due).1]
  rw [paramNat_congr params] at rev
  rw [tableHeld_congr engine, records] at peers
  clear hu
  unfold joinEntered
  rw [mode, own, rev, time, pass, fan, frost, demand, held, peers, clim]
  refine ⟨rfl, rfl, rfl, rfl, rfl, rfl, rfl, rfl, rfl, rfl, rfl, rfl, rfl, rfl, rfl, rfl, rfl, rfl, rfl, rfl, rfl, rfl, rfl,
    rfl, rfl, rfl, rfl, rfl, rfl, rfl, rfl, rfl, rfl, rfl, fun yes => ?_, fun no => ?_⟩
  · rw [if_pos yes]
    exact ⟨rfl, rfl⟩
  · rw [if_neg (by simp [no])]

theorem joinEntered_of {s v u : State} (h : JoinFrom s v) (hu : othersKept [.line, .cond] (joinEntry v) u) :
    joinEntered s u :=
  joinEntered_at h.params h.engine h.peers hu

/-- What an entry to JOIN keeps of `s`, and the checks and the service interval that it looks at; `others` is what a
statement adds. -/
def joinKeeps (s u : State) (others : Prop) : Prop :=
  u.frost = { s.frost with claims := [], granted := false, ownClaim := .idle } ∧
    u.fan = { s.fan with wanted := .halt, cap := none, ceilRef := none, window := [] } ∧
    u.filt.refIn = s.filt.refIn ∧ u.filt.refOut = s.filt.refOut ∧ u.filt.hours = s.filt.hours ∧
    u.demand.slot = s.demand.slot ∧
    u.demand.buttonBoost = s.demand.buttonBoost ∧ u.demand.dryGuard = s.demand.dryGuard ∧
    u.clim.ratios = s.clim.ratios ∧ u.clim.outer.held = s.clim.outer.held ∧
    u.clim.inner.held = s.clim.inner.held ∧ u.own.node = s.own.node ∧ u.own.lead = s.own.lead ∧
    u.own.level = s.own.level ∧ u.own.outdoor = s.own.outdoor ∧ u.svc.params = s.svc.params ∧
    u.clim.lastRh = s.clim.lastRh ∧ u.unit.waitPass = false ∧ u.unit.engine = passDiscarded s.unit.engine ∧
    (s.clim.outer.clearMark = true → checkAsked u.clim .outer = true) ∧
    (s.clim.inner.clearMark = true → checkAsked u.clim .inner = true) ∧
    (s.clim.rhSensor.clearMark = true → checkAsked u.clim .rh = true) ∧
    u.clim.outer.clearMark = false ∧ u.clim.inner.clearMark = false ∧ u.clim.rhSensor.clearMark = false ∧
    (hoursDue s →
      u.filt.state = .change ∧ u.filt.runLoaded = 0 ∧ u.filt.runChange = 0 ∧
      u.filt.runBlocked = s.filt.runBlocked ∧ u.svc.writing.isSome = true ∧
      (s.svc.writing.isSome = true → u.svc.further = true)) ∧
    (s.filt.hours < paramNat s 8 * 100 ∨ s.filt.state = .change ∨ s.filt.state = .blocked →
      u.filt.state = s.filt.state ∧ u.filt.runLoaded = s.filt.runLoaded ∧
      u.filt.runChange = s.filt.runChange ∧ u.filt.runBlocked = s.filt.runBlocked) ∧
    (∀ x ∈ u.clim.converting.toList, Purpose.rest ∉ x.purposes) ∧ others

theorem joinEntry_filtRefs (v : State) : (joinEntry v).filt.refIn = v.filt.refIn ∧
    (joinEntry v).filt.refOut = v.filt.refOut ∧ (joinEntry v).filt.hours = v.filt.hours := by
  by_cases due : hoursDue v
  · rw [(joinEntry_due v due).1]
    exact ⟨rfl, rfl, rfl⟩
  · rw [(joinEntry_notDue v due).1]
    exact ⟨rfl, rfl, rfl⟩

theorem joinEntry_params (v : State) : (joinEntry v).svc.params = v.svc.params := by
  by_cases due : hoursDue v
  · exact (joinEntry_due v due).2.2.2
  · rw [(joinEntry_notDue v due).2]

theorem joinEntry_writing {v : State} (h : v.svc.writing.isSome = true) : (joinEntry v).svc.writing.isSome = true := by
  by_cases due : hoursDue v
  · exact (joinEntry_due v due).2.1
  · rw [(joinEntry_notDue v due).2]
    exact h

/-- No REST purpose waits after an entry to JOIN (R124, R164). -/
def restForgotten (u : State) : Prop :=
  ∀ p ∈ u.clim.waitOuter ++ u.clim.waitInner ++ u.clim.waitRh, p ≠ Purpose.rest

theorem restForgotten_of {v u : State} (hu : othersKept [.line, .cond] (joinEntry v) u) : restForgotten u := by
  have clim : u.clim = (joinEntry v).clim := hu .clim (by decide)
  rw [restForgotten, clim]
  exact noRest_waiting (joinEntry_noRest v)

theorem joinKeeps_of {s v u : State} {others : Prop} (h : JoinFrom s v) (hu : othersKept [.line, .cond] (joinEntry v) u)
    (ho : others) : joinKeeps s u others := by
  have own := (hu .own (by decide)).trans (joinEntry_own v)
  have unit := (hu .unit (by decide)).trans (joinEntry_unit v)
  have fan := (hu .fan (by decide)).trans (joinEntry_fan v)
  have clim : u.clim = (joinEntry v).clim := hu .clim (by decide)
  have fields := joinEntry_clim v
  have frost := (hu .frost (by decide)).trans (joinEntry_frost v)
  have demand := (hu .demand (by decide)).trans (joinEntry_demand v)
  have filt : u.filt = (joinEntry v).filt := hu .filt (by decide)
  have svc : u.svc = (joinEntry v).svc := hu .svc (by decide)
  obtain ⟨refIn, refOut, hours⟩ := joinEntry_filtRefs v
  have params := joinEntry_params v
  have none_ := joinEntry_noRest v
  have checks {src : Source} := joinEntry_checks v (src := src)
  have due := joinEntry_due v
  have notDue := joinEntry_notDue v
  clear hu
  rw [← clim] at fields none_ checks
  rw [← filt] at refIn refOut hours due notDue
  rw [← svc] at params due notDue
  clear filt svc clim
  generalize hd : (joinEntry v).clim = d at fields
  unfold joinKeeps
  rw [frost, fan, own, unit, demand, refIn, refOut, hours, params, h.frost, h.fan, h.filt, h.params]
  refine ⟨rfl, rfl, rfl, rfl, rfl, h.slot, h.buttonBoost, h.dryGuard, ?_, ?_, ?_, h.node, h.lead, h.level, h.outdoor, rfl,
    ?_, rfl, congrArg passDiscarded h.engine, fun mark => checks (src := .outer) ?_, fun mark => checks (src := .inner) ?_,
    fun mark => checks (src := .rh) ?_, ?_, ?_, ?_, fun yes => ?_, fun no => ?_, none_.1, ho⟩
  · rw [fields]
    exact h.ratios
  · rw [fields]
    change v.clim.outer.held = s.clim.outer.held
    rw [h.outer]
  · rw [fields]
    change v.clim.inner.held = s.clim.inner.held
    rw [h.inner]
  · rw [fields]
    exact h.lastRh
  · rw [sensorOf, h.outer]
    exact mark
  · rw [sensorOf, h.inner]
    exact mark
  · rw [sensorOf, h.rhMark]
    exact mark
  iterate 3
    · rw [fields]
      rfl
  · obtain ⟨filt, writing, further, -⟩ := due (h.hoursDue.mpr yes)
    rw [filt, h.filt]
    exact ⟨rfl, rfl, rfl, rfl, writing, fun was => further (h.writing was)⟩
  · have none_ : ¬ hoursDue v := fun yes => by
      obtain ⟨interval, early⟩ := h.hoursDue.mp yes
      rcases no with below | late | late
      · omega
      · rcases early with early | early <;> simp [late] at early
      · rcases early with early | early <;> simp [late] at early
    rw [(notDue none_).1, h.filt]
    exact ⟨rfl, rfl, rfl, rfl⟩

end Sys2Proof.Laws
end

section
/-! ## JOIN from SETUP, from REST and from START (R69, R163, R178, R180) -/

namespace Sys2Proof.Laws

open Sys2Proof.Machine Sys2Proof.Safety

/-! ### What a conversion delivers (R115, R118, R119) -/

/-- Delivered readings go into the two sample sets alone (R118). -/
theorem deliverSets_fields (src : Source) (r : Reading) (ps : List Purpose) (c : ClimateSensing) :
    ps.foldl (deliverSet src r) c = { c with
      current := (ps.foldl (deliverSet src r) c).current, previous := (ps.foldl (deliverSet src r) c).previous } := by
  induction ps generalizing c with
  | nil => rfl
  | cons p ps ih =>
    have one : deliverSet src r c p =
        { c with current := (deliverSet src r c p).current, previous := (deliverSet src r c p).previous } := by
      unfold deliverSet
      split <;> rfl
    rw [List.foldl_cons]
    refine (ih _).trans ?_
    generalize ps.foldl (deliverSet src r) (deliverSet src r c p) = d
    rw [one]

theorem settleAwaiting_frame (src : Source) (ps : List Purpose) (s : State) :
    othersKept [.clim, .unit] s (settleAwaiting src ps s) := by
  unfold settleAwaiting
  split
  · split
    · dsimp only
      split
      · exact othersKept_append (withClim_frame _ _) (requestClimate_frame _ _)
      · exact othersKept_mono (withClim_frame s _) (by decide)
    · exact othersKept_refl _ s
  · exact othersKept_refl _ s

/-- The end of a conversion moves the due evaluation and the climate request alone (R119). -/
theorem settleAwaiting_fields (src : Source) (ps : List Purpose) (s : State) :
    (settleAwaiting src ps s).clim = { s.clim with awaiting := (settleAwaiting src ps s).clim.awaiting } ∧
      (settleAwaiting src ps s).unit = { s.unit with waitClimate := (settleAwaiting src ps s).unit.waitClimate } := by
  unfold settleAwaiting
  split
  · split
    · dsimp only
      split <;> exact ⟨rfl, rfl⟩
    · exact ⟨rfl, rfl⟩
  · exact ⟨rfl, rfl⟩

theorem deliver_frame (src : Source) (ps : List Purpose) (valid : Option Int) (s : State) :
    othersKept [.own, .clim] s (deliver src ps valid s) :=
  othersKept_append (withOwn_frame s _) (withClim_frame _ _)

/-- The sensor of a conversion after its result has been judged (R115, R116). -/
def judgedSensor (x : Conversion) (result : Int) (s : State) : Sensor :=
  judgeSensor (judgeResult x.source result) (x.purposes.contains .clearCheck) (sensorOf s.clim x.source)

/-- The own record after a conversion (R7, R115, R118). -/
def convertedOwn (x : Conversion) (result : Int) (s : State) : OwnRecord :=
  writeClimatePart x.source (judgeResult x.source result) (judgedSensor x result s).latched
    (endsOutHalf s.clim x.purposes) s.own

section
variable (s : State) (x : Conversion) (result : Int)

theorem delivered_frame : othersKept [.own, .clim, .unit] s (delivered s x result) :=
  othersKept_mono (othersKept_append (deliver_frame _ _ _ s) (settleAwaiting_frame _ _ _)) (by decide)

theorem delivered_own : (delivered s x result).own = convertedOwn x result s :=
  settleAwaiting_frame _ _ _ .own (by decide)

theorem delivered_unit : (delivered s x result).unit =
    { s.unit with waitClimate := (delivered s x result).unit.waitClimate } :=
  (settleAwaiting_fields x.source x.purposes (deliver x.source x.purposes (judgeResult x.source result) s)).2

/-- A conversion writes its sensor, the two sets and the due evaluation (R115, R118, R119). -/
theorem delivered_clim : (delivered s x result).clim =
    { withSensor { s.clim with converting := none } x.source (judgedSensor x result s) with
      current := (delivered s x result).clim.current, previous := (delivered s x result).clim.previous
      awaiting := (delivered s x result).clim.awaiting } := by
  have settled : (delivered s x result).clim = _ :=
    (settleAwaiting_fields x.source x.purposes (deliver x.source x.purposes (judgeResult x.source result) s)).1
  have sets := deliverSets_fields x.source (readingOf (judgeResult x.source result) (judgedSensor x result s)) x.purposes
    (withSensor { s.clim with converting := none } x.source (judgedSensor x result s))
  rw [settled]
  have clim : (deliver x.source x.purposes (judgeResult x.source result) s).clim = _ := sets
  rw [clim]
end

theorem sensorOf_withSensor (c : ClimateSensing) (src : Source) (x : Sensor) :
    sensorOf (withSensor c src x) src = x := by cases src <;> rfl

/-! ### The queued WAKE (R31, R163) -/

theorem queueNotice_stands {s : State} {e : TxEntry} (hopen : s.line.faultCount < 32) (room : s.line.txq.length < 4)
    (fresh : ∀ x ∈ s.line.txq, x.cls ≠ e.cls) : e ∈ (queueNotice e s).line.txq := by
  rw [queueNotice_open e hopen, State.withLine_line, acceptNotice_free (entryOf_eq_none.mpr fresh) room]
  exact mem_placeEntry e _

theorem queueWake_frame (s : State) : othersKept [.line] s (queueWake s) := queueNotice_frame _ s

/-- A wake that is carried out with its mark queues a WAKE after the entry to JOIN (R163). -/
theorem wakeStation_marked (s : State) : wakeStation true s = queueWake (joinEntry s) := rfl

theorem wakeStation_unmarked (s : State) : wakeStation false s = joinEntry s := rfl

theorem wakeStation_within (mark : Bool) (s : State) : othersKept [.line] (joinEntry s) (wakeStation mark s) := by
  cases mark
  · exact othersKept_refl _ _
  · exact queueWake_frame _

theorem wakeStation_stands {s : State} (hopen : s.line.faultCount < 32) (room : s.line.txq.length < 4)
    (fresh : ∀ x ∈ s.line.txq, x.cls ≠ .house) :
    newEntry .house false s.own.node false [0, 3, 0, 0] ∈ (wakeStation true s).line.txq := by
  have node : (joinEntry s).own.node = s.own.node := by rw [joinEntry_own]
  have line := joinEntry_line s
  rw [wakeStation_marked, queueWake, node]
  exact queueNotice_stands (by rw [line]; exact hopen) (by rw [line]; exact room) (by rw [line]; exact fresh)

theorem takeWake_awake {s : State} (cause : WakeCause) (mark : Bool) (h : s.demand.flush = none) :
    takeWake cause mark s = wakeStation mark s := by
  simp [takeWake, h]

/-! ### The store asked for at the end of SETUP (R180, R183) -/

/-- The state at the end of SETUP with its store write asked for. -/
def storeAsked (s : State) : State := if s.svc.changed then requestWrite s else s

theorem joinFromSetup_eq (s : State) : joinFromSetup s = joinEntry (storeAsked s) := by
  unfold joinFromSetup storeAsked
  split <;> rfl

theorem storeAsked_frame (s : State) : othersKept [.svc] s (storeAsked s) := by
  unfold storeAsked
  split
  · exact requestWrite_frame s
  · exact othersKept_refl _ s

theorem storeAsked_params (s : State) : (storeAsked s).svc.params = s.svc.params := by
  unfold storeAsked
  split
  · exact requestWrite_params s
  · rfl

theorem storeAsked_writing {s : State} (h : s.svc.changed = true ∨ s.svc.writing.isSome = true) :
    (storeAsked s).svc.writing.isSome = true := by
  unfold storeAsked
  split
  · exact requestWrite_writing s
  next unchanged => exact h.resolve_left unchanged

/-- An entry to JOIN at the end of SETUP, from a state that differs from `s` in other blocks alone. -/
theorem JoinFrom.ofSetup {s v : State} (h : othersKept [.time, .mode, .line] s v) : JoinFrom s (storeAsked v) := by
  have svc : v.svc = s.svc := h .svc (by decide)
  have frame := othersKept_append h (storeAsked_frame v)
  have demand : (storeAsked v).demand = s.demand := frame .demand (by decide)
  refine .of_frame (othersKept_mono frame (by decide)) ?_ ?_ fun writing => ?_
  · rw [demand]
    exact ⟨rfl, rfl, rfl⟩
  · rw [storeAsked_params, svc]
  · exact storeAsked_writing (.inr (by rw [svc]; exact writing))

/-- An entry to JOIN from another mode, from a state that differs from `s` in other blocks, and in the demand unit
where a wake is taken. -/
theorem JoinFrom.ofWake {s v : State} (h : othersKept [.time, .line, .demand] s v)
    (demand : v.demand.slot = s.demand.slot ∧ v.demand.buttonBoost = s.demand.buttonBoost ∧
      v.demand.dryGuard = s.demand.dryGuard) : JoinFrom s v := by
  have svc : v.svc = s.svc := h .svc (by decide)
  exact .of_frame (othersKept_mono h (by decide)) demand (by rw [svc]) fun writing => by rw [svc]; exact writing

theorem joinedFromSetup_writing {s v : State} (h : v.svc = s.svc) (changed : s.svc.changed = true) :
    (joinFromSetup v).svc.writing.isSome = true := by
  rw [joinFromSetup_eq]
  exact joinEntry_writing (storeAsked_writing (.inl (by rw [h]; exact changed)))

/-! ### The commands that enter JOIN -/

theorem setupWindowEnds_of {s : State} {i : Count} (hm : s.mode.mode = .start) (hi : s.mode.setupWindow = some i) :
    setupWindowEnds s = joinEntry (advanceTo i s) := by
  simp [setupWindowEnds, hi, hm]

theorem inactivityEnds_of {s : State} {i : Count} (hm : s.mode.mode = .setup) (hi : s.mode.inactivity = some i) :
    inactivityEnds s = joinFromSetup (advanceTo i s) := by
  simp [inactivityEnds, hi, hm]

theorem restTimerEnds_of {s : State} {i : Count} (hm : s.mode.mode = .rest) (hi : s.demand.restTimer = some i) :
    restTimerEnds s = takeWake .restTimer false ((advanceTo i s).withDemand { s.demand with restTimer := none }) := by
  simp [restTimerEnds, hi, hm]

/-- The press of a station that rests is taken as a wake, and not timed (R155, R163). -/
def pressTaken (s : State) : State :=
  s.withDemand { s.demand with button := some { since := s.time.now, timed := false } }

theorem pressButton_resting {s : State} (hm : s.mode.mode = .rest) (hb : s.demand.button = none) :
    pressButton s = takeWake .press true (pressTaken s) := by
  simp [pressButton, hb, hm, pressTaken]

/-- The line with its LEAVEs withdrawn (R34, R160, R179). -/
def leavesWithdrawn (s u : State) : Prop :=
  (∀ e ∈ u.line.txq, isLeave e = true → e.onLine = true ∧ e.withdrawn = true) ∧
    (u.line.txq.filter fun e => !isLeave e) = (s.line.txq.filter fun e => !isLeave e) ∧
    u.line.replacement = (s.line.replacement.filter fun e => !isLeave e) ∧
    u.line = { s.line with txq := u.line.txq, replacement := u.line.replacement }

/-- The withdrawal of the LEAVEs leaves the other entries as they are (R34). -/
theorem withdrawLeave_others (q : List TxEntry) :
    ((withdrawEntries isLeave q).filter fun e => !isLeave e) = (q.filter fun e => !isLeave e) := by
  induction q with
  | nil => rfl
  | cons y ys ih =>
    unfold withdrawEntries at ih ⊢
    cases hyl : isLeave y <;> cases hon : y.onLine
    case true.true =>
      have marked : isLeave { y with withdrawn := true } = true := hyl
      rw [List.filter_cons, if_pos (by simp [hon]), List.map_cons, if_pos hyl, List.filter_cons, if_neg (by simp [marked]),
        List.filter_cons, if_neg (by simp [hyl])]
      exact ih
    all_goals simp [hyl, hon, ih]

theorem withdrawLeave_withdrawn {s v u : State} (h : v.line = s.line) (hu : u.line = (withdraw isLeave v).line) :
    leavesWithdrawn s u := by
  have line : u.line = { s.line with
      txq := withdrawEntries isLeave s.line.txq, replacement := s.line.replacement.filter fun e => !isLeave e } := by
    rw [hu, withdraw, State.withLine_line, h]
  rw [leavesWithdrawn, line]
  refine ⟨fun e he hl => ?_, ?_, rfl, rfl⟩
  · obtain ⟨y, hy, rfl⟩ := List.mem_map.mp he
    obtain ⟨-, hkeep⟩ := List.mem_filter.mp hy
    by_cases hyl : isLeave y = true
    · rw [if_pos hyl]
      exact ⟨by simpa [hyl] using hkeep, rfl⟩
    · rw [if_neg hyl] at hl
      exact absurd hl hyl
  · exact withdrawLeave_others s.line.txq

theorem noLeave_withdrawn {s u : State} (h : leaveQueued s = false) (hu : u.line = s.line) : leavesWithdrawn s u := by
  have none_ : ∀ e ∈ s.line.txq, isLeave e = false := by
    unfold leaveQueued at h
    simp only [Bool.or_eq_false_iff, List.any_eq_false, Bool.not_eq_true] at h
    exact h.1
  have repl : s.line.replacement = s.line.replacement.filter fun e => !isLeave e := by
    unfold leaveQueued at h
    cases hr : s.line.replacement with
    | none => rfl
    | some e =>
      rw [hr] at h
      have other : isLeave e = false := (Bool.or_eq_false_iff.mp h).2
      simp [Option.filter, other]
  rw [leavesWithdrawn, hu]
  exact ⟨fun e he hl => by simp [none_ e he] at hl, rfl, repl, rfl⟩

/-- The state in which the SETUP flush ends at its end instant: its LEAVE withdrawn, its end written (R179). -/
def setupFlushOver (i : Count) (s : State) : State := if leaveQueued s then withdraw isLeave (advanceTo i s) else s

theorem setupFlushEnds_of {s : State} {i : Count} (hm : s.mode.mode = .setup) (hi : s.mode.setupFlush = some i) :
    setupFlushEnds s = endSetupFlush (setupFlushOver i s) := by
  simp only [setupFlushEnds, hi, if_pos hm, setupFlushOver]
  split <;> rfl

theorem setupFlushOver_frame (i : Count) (s : State) : othersKept [.time, .line] s (setupFlushOver i s) := by
  unfold setupFlushOver
  split
  · exact othersKept_append (advanceTo_frame i s) (withdraw_frame _ _)
  · exact othersKept_refl _ s

theorem setupFlushOver_line {s u : State} {i : Count} (hu : u.line = (setupFlushOver i s).line) : leavesWithdrawn s u := by
  unfold setupFlushOver at hu
  cases h : leaveQueued s with
  | true =>
    rw [if_pos h] at hu
    exact withdrawLeave_withdrawn (advanceTo_line i s) hu
  | false =>
    rw [if_neg (by simp [h])] at hu
    exact noLeave_withdrawn h hu

/-- The mode block with the SETUP flush over. -/
def flushOver (s : State) : State := s.withMode { s.mode with setupFlush := none, leaveAsked := false }

theorem endSetupFlush_asked {s : State} (h : s.mode.leaveAsked = true) : endSetupFlush s = joinFromSetup (flushOver s) := by
  simp only [endSetupFlush, h, if_true]
  rfl

theorem endSetupFlush_notAsked {s : State} (h : s.mode.leaveAsked = false) : endSetupFlush s = flushOver s := by
  simp [endSetupFlush, h, flushOver]

end Sys2Proof.Laws
end

section
/-! ## JOIN is entered alike (R69, R116, R163, R173, R178, R180) -/

namespace Sys2Proof.Laws

open Sys2Proof.Machine Sys2Proof.Safety

/-- The state in which a SETUP LEAVE outside the flush enters JOIN: its reply queued (R180). -/
def leaveReplied (f : RxFrame) (index : Byte) (rest : List RxFrame) (t : Count) (s : State) : State :=
  reply f .setupLeave .done index zeroPage (requestState rest t s)

theorem leaveReplied_frame (f : RxFrame) (index : Byte) (rest : List RxFrame) (t : Count) (s : State) :
    othersKept [.time, .mode, .line] s (leaveReplied f index rest t s) :=
  othersKept_mono (othersKept_append (advanceTo_frame t s) (othersKept_append (requestState_frame rest t s)
    (reply_frame _ _ _ _ _ _))) (by decide)

theorem settleFlush_of_join {s : State} (h : s.mode.mode = .join) : settleFlush s = s := by
  simp [settleFlush, h]

theorem joinFromSetup_mode (s : State) : (joinFromSetup s).mode.mode = .join := by
  rw [joinFromSetup_eq, joinEntry_mode]

theorem applySetupLeave_joins {f : RxFrame} {index value : Byte} {rest : List RxFrame} {t : Count} {s : State}
    (mode : s.mode.mode = .setup) (flushDone : s.mode.setupFlush = none) :
    applySetupLeave f (.request .setupLeave index value) (noticeState rest t s) =
      joinFromSetup (leaveReplied f index rest t s) := by
  have still : (requestState rest t s).mode.mode = .setup := by rw [requestState_mode]; exact mode
  have replied : (leaveReplied f index rest t s).mode = (requestState rest t s).mode :=
    reply_frame _ _ _ _ _ _ .mode (by decide)
  have noFlush : (leaveReplied f index rest t s).mode.setupFlush.isSome = false := by
    rw [replied, requestState_mode, flushDone]
    rfl
  have answered : answerLeave f index (requestState rest t s) = joinFromSetup (leaveReplied f index rest t s) := by
    rw [answerLeave, if_pos still]
    exact if_neg (by rw [← leaveReplied, noFlush]; decide)
  rw [applySetupLeave, serve, if_neg (by rw [noticeState_mode, mode]; decide), ← requestState, answered]
  exact settleFlush_of_join (joinFromSetup_mode _)

/-- The state that a humid REST reading wakes: its result delivered and the humidity boost ACTIVE (R163). -/
def humidReading (x : Conversion) (result : Int) (s : State) : State :=
  (delivered s x result).withDemand { s.demand with humidity := .active }

/-- A humid RH reading: valid and at 85 or more, or invalid with such a held value (R115, R124). -/
def humidResult (s : State) (result : Int) : Prop :=
  85 ≤ result ∨ (result < 0 ∧ s.clim.rhSensor.invalid < 2 ∧
    s.clim.rhSensor.held.any (fun v => decide (85 ≤ v)) = true)

section
variable {s : State} {x : Conversion} {result : Int}

theorem judgedRh (source : x.source = .rh) (result : Int) (s : State) : judgedSensor x result s =
    judgeSensor (if result < 0 then none else some (min result 100)) (x.purposes.contains .clearCheck)
      s.clim.rhSensor := by
  rw [judgedSensor, source]
  rfl

/-- A valid RH result is written to the own record (R115). -/
theorem convertedOwn_rh (source : x.source = .rh) : convertedOwn x result s =
    { s.own with rh := if result < 0 then s.own.rh else (min result 100).toNat } := by
  rw [convertedOwn, source]
  by_cases invalid : result < 0 <;> simp [writeClimatePart, judgeResult, invalid]

theorem judgedRh_fields (source : x.source = .rh) (unlatched : s.clim.rhSensor.latched = false)
    (humid : humidResult s result) : (judgedSensor x result s).held =
        (if result < 0 then s.clim.rhSensor.held else some (min result 100)) ∧
      (judgedSensor x result s).latched = false ∧
      (judgedSensor x result s).clearMark = s.clim.rhSensor.clearMark := by
  rw [judgedRh source]
  rcases humid with high | ⟨low, invalid, -⟩
  · have valid : ¬ result < 0 := by omega
    simp [valid, judgeSensor, unlatched]
  · have again : s.clim.rhSensor.invalid + 1 < 3 := by omega
    simp [low, judgeSensor, unlatched, again]

/-- The reading of a humid result wakes a WET or KITCHEN station in REST after the flush (R124, R163). -/
theorem humidityWakes_of (source : x.source = .rh) (purpose : Purpose.rest ∈ x.purposes) (mode : s.mode.mode = .rest)
    (flushDone : s.demand.flush = none) (room : s.own.room = .wet ∨ s.own.room = .kitchen)
    (unlatched : s.clim.rhSensor.latched = false) (humid : humidResult s result) :
    humidityWakes (delivered s x result) x.source x.purposes
      (readingOf (judgeResult x.source result) (sensorOf (delivered s x result).clim x.source)) = true := by
  have sensor : sensorOf (delivered s x result).clim x.source = judgedSensor x result s := by
    rw [delivered_clim, source]
    rfl
  have mode' : (delivered s x result).mode = s.mode := delivered_frame s x result .mode (by decide)
  have demand : (delivered s x result).demand = s.demand := delivered_frame s x result .demand (by decide)
  have room' : (delivered s x result).own.room = s.own.room := by rw [delivered_own, convertedOwn_rh source]
  obtain ⟨held, latch, -⟩ := judgedRh_fields source unlatched humid
  have reading : ∃ v, 85 ≤ v ∧ (readingOf (judgeResult x.source result) (judgedSensor x result s) = .fresh v ∨
      readingOf (judgeResult x.source result) (judgedSensor x result s) = .held v) := by
    rw [source]
    rcases humid with high | ⟨low, -, before⟩
    · have valid : judgeResult .rh result = some (min result 100) := if_neg (by omega)
      exact ⟨min result 100, by omega, .inl (by simp [readingOf, latch, valid])⟩
    · have invalid : judgeResult .rh result = none := if_pos low
      rw [if_pos low] at held
      cases hv : s.clim.rhSensor.held with
      | none => simp [hv] at before
      | some v =>
        rw [hv] at before held
        exact ⟨v, of_decide_eq_true before, .inr (by simp [readingOf, latch, invalid, held])⟩
  obtain ⟨v, high, reading⟩ := reading
  rw [sensor]
  unfold humidityWakes
  rw [mode', demand, room']
  rcases reading with reading | reading
  · rw [reading]
    simp [high, mode, flushDone, source, purpose, room]
  · rw [reading]
    simp [high, mode, flushDone, source, purpose, room]

theorem humidReading_joinFrom (source : x.source = .rh) (unlatched : s.clim.rhSensor.latched = false)
    (humid : humidResult s result) : JoinFrom s (humidReading x result s) := by
  have frame := othersKept_append (delivered_frame s x result)
    (withDemand_frame (delivered s x result) { s.demand with humidity := .active })
  have clim : (humidReading x result s).clim = _ := delivered_clim s x result
  have own : (humidReading x result s).own = _ := (delivered_own s x result).trans (convertedOwn_rh source)
  have unit : (humidReading x result s).unit = _ := delivered_unit s x result
  have demand : (humidReading x result s).demand = { s.demand with humidity := .active } := rfl
  have mark := (judgedRh_fields source unlatched humid).2.2
  rw [source] at clim
  rw [← humidReading] at frame
  have svc : (humidReading x result s).svc = s.svc := frame .svc (by decide)
  exact {
    frost := frame .frost (by decide), fan := frame .fan (by decide), filt := frame .filt (by decide)
    peers := frame .peers (by decide)
    slot := by rw [demand], buttonBoost := by rw [demand], dryGuard := by rw [demand]
    ratios := by rw [clim]; rfl, outer := by rw [clim]; rfl, inner := by rw [clim]; rfl
    rhMark := by rw [clim]; exact mark
    lastRh := by rw [clim]; rfl
    node := by rw [own]
    lead := by rw [own]
    level := by rw [own]
    outdoor := by rw [own]
    engine := by rw [unit]
    params := by rw [svc], writing := fun writing => by rw [svc]; exact writing }

/-- The converter has nothing left to start after an entry to JOIN (R114). -/
theorem converterGoesOn_joined (mark : Bool) (v : State) : converterGoesOn (wakeStation mark v) = wakeStation mark v := by
  have clim : (wakeStation mark v).clim = (requestMarkedChecks (joinBlocks v)).clim := by
    rw [wakeStation_within mark v .clim (by decide), joinEntry_eq, compareHours_clim]
  have started : startConversion (wakeStation mark v).clim = (wakeStation mark v).clim := by
    rw [clim]
    exact startConversion_idem _
  rw [converterGoesOn, started]
  rfl

end

theorem pressTaken_frame (s : State) : othersKept [.demand] s (pressTaken s) := withDemand_frame s _

/-- The humidity boost, the held RH reading and the RH value stay (R145, R147). -/
def humidityStays (s u : State) : Prop :=
  u.demand.humidity = s.demand.humidity ∧ u.clim.rhSensor.held = s.clim.rhSensor.held ∧ u.own.rh = s.own.rh

theorem joinEntry_humidity {s v u : State} (hu : othersKept [.line, .cond] (joinEntry v) u) (h : humidityStays s v) :
    humidityStays s u := by
  have demand := (hu .demand (by decide)).trans (joinEntry_demand v)
  have clim : u.clim = withRequestsOf (unmarked (climAtJoin v.clim)) (joinEntry v).clim :=
    (hu .clim (by decide)).trans (joinEntry_clim v)
  have own := (hu .own (by decide)).trans (joinEntry_own v)
  rw [humidityStays, demand, clim, own]
  exact h

/-- An entry to JOIN from a state that differs from `s` in other blocks, a store write and other demands alone. -/
theorem joins_of_frame {s v u : State} (source : JoinFrom s v)
    (frame : othersKept [.time, .mode, .line, .svc, .demand] s v) (humidity : v.demand.humidity = s.demand.humidity)
    (hu : othersKept [.line] (joinEntry v) u) :
    joinEntered s (finish u) ∧ joinKeeps s (finish u) (restForgotten (finish u) ∧ humidityStays s (finish u)) := by
  have joined := othersKept_append hu (finish_frame u)
  have clim : v.clim = s.clim := frame .clim (by decide)
  have own : v.own = s.own := frame .own (by decide)
  exact ⟨joinEntered_of source joined,
    joinKeeps_of source joined
      ⟨restForgotten_of joined, joinEntry_humidity joined ⟨humidity, by rw [clim], by rw [own]⟩⟩⟩

/-- JOIN entered at the end of SETUP. -/
theorem joins_of_setup {s v : State} (h : othersKept [.time, .mode, .line] s v) :
    joinEntered s (finish (joinFromSetup v)) ∧
      joinKeeps s (finish (joinFromSetup v)) (restForgotten (finish (joinFromSetup v)) ∧
        humidityStays s (finish (joinFromSetup v))) := by
  have frame := othersKept_append h (storeAsked_frame v)
  have demand : (storeAsked v).demand = s.demand := frame .demand (by decide)
  rw [joinFromSetup_eq]
  exact joins_of_frame (JoinFrom.ofSetup h) (othersKept_mono frame (by decide)) (by rw [demand]) (othersKept_refl _ _)

theorem joinFromSetup_line (s : State) : (joinFromSetup s).line = s.line := by
  rw [joinFromSetup_eq, joinEntry_line, storeAsked_frame _ .line (by decide)]

/-- JOIN entered by a wake that is carried out (R163). -/
theorem joins_of_wake {s v : State} (mark : Bool) (h : othersKept [.time, .line, .demand] s v)
    (demand : v.demand.slot = s.demand.slot ∧ v.demand.buttonBoost = s.demand.buttonBoost ∧
      v.demand.dryGuard = s.demand.dryGuard) (humidity : v.demand.humidity = s.demand.humidity) :
    joinEntered s (finish (wakeStation mark v)) ∧
      joinKeeps s (finish (wakeStation mark v)) (restForgotten (finish (wakeStation mark v)) ∧
        humidityStays s (finish (wakeStation mark v))) :=
  joins_of_frame (JoinFrom.ofWake h demand) (othersKept_mono h (by decide)) humidity (wakeStation_within mark v)

theorem wakeStation_line (s : State) : (wakeStation false s).line = s.line := joinEntry_line s

theorem JoinFrom.trans {s t v : State} (h : JoinFrom s t) (h' : JoinFrom t v) : JoinFrom s v where
  frost := h'.frost.trans h.frost
  fan := h'.fan.trans h.fan
  filt := h'.filt.trans h.filt
  slot := h'.slot.trans h.slot
  buttonBoost := h'.buttonBoost.trans h.buttonBoost
  dryGuard := h'.dryGuard.trans h.dryGuard
  ratios := h'.ratios.trans h.ratios
  outer := h'.outer.trans h.outer
  inner := h'.inner.trans h.inner
  rhMark := h'.rhMark.trans h.rhMark
  lastRh := h'.lastRh.trans h.lastRh
  node := h'.node.trans h.node
  lead := h'.lead.trans h.lead
  level := h'.level.trans h.level
  outdoor := h'.outdoor.trans h.outdoor
  engine := h'.engine.trans h.engine
  peers := h'.peers.trans h.peers
  params := h'.params.trans h.params
  writing := fun writing => h'.writing (h.writing writing)

theorem JoinFrom.at_instant (t : Count) (s : State) : JoinFrom s (advanceTo t s) :=
  .ofWake (othersKept_mono (advanceTo_frame t s) (by decide)) (by simp)

/-- Settles O40. -/
theorem joinIsEnteredAlike : Obligations.JoinIsEnteredAlike := by
  refine ⟨?window, ?inactivity, ?leave, ?flush, ?timer, ?resume, ?wake, ?press, ?humid⟩
  case window =>
    intro s i hm hi
    refine ⟨finish (setupWindowEnds s), rfl, ?_⟩
    rw [setupWindowEnds_of hm hi, ← wakeStation_unmarked]
    obtain ⟨entered, keeps⟩ := joins_of_wake (s := s) (v := advanceTo i s) false
      (othersKept_mono (advanceTo_frame i s) (by decide)) (by simp) (by simp)
    have line := (wakeStation_line (advanceTo i s)).trans (advanceTo_line i s)
    generalize wakeStation false (advanceTo i s) = u at *
    exact ⟨entered, line, keeps⟩
  case inactivity =>
    intro s i hm hi
    refine ⟨finish (inactivityEnds s), rfl, ?_⟩
    rw [inactivityEnds_of hm hi]
    obtain ⟨entered, keeps⟩ := joins_of_setup (s := s) (v := advanceTo i s)
      (othersKept_mono (advanceTo_frame i s) (by decide))
    have line := (joinFromSetup_line (advanceTo i s)).trans (advanceTo_line i s)
    have writing := joinedFromSetup_writing (advanceTo_svc i s)
    generalize joinFromSetup (advanceTo i s) = u at *
    exact ⟨entered, line, writing, keeps⟩
  case leave =>
    intro t s f rest index value free front decoded mode flushDone
    refine ⟨finish (takeNotice .request (isRequest .setupLeave) applySetupLeave (advanceTo t s)), rfl, ?_⟩
    rw [takeNotice_at .request free front decoded rfl rfl rfl, applySetupLeave_joins mode flushDone]
    have frame := leaveReplied_frame f index rest t s
    have rxq : (leaveReplied f index rest t s).line.rxq = rest := by
      rw [leaveReplied, reply_eq, queueNotice_rxq, requestState_line]
    generalize leaveReplied f index rest t s = v at *
    obtain ⟨entered, keeps⟩ := joins_of_setup frame
    have line := joinFromSetup_line v
    have writing := joinedFromSetup_writing (v := v) (s := s) (frame .svc (by decide))
    generalize joinFromSetup v = u at *
    exact ⟨entered, (congrArg LineControl.rxq line).trans rxq, writing, keeps⟩
  case flush =>
    intro s i hm hi asked
    refine ⟨finish (setupFlushEnds s), rfl, ?_⟩
    have before := setupFlushOver_frame i s
    rw [setupFlushEnds_of hm hi, endSetupFlush_asked (by rw [before .mode (by decide)]; exact asked)]
    have frame := othersKept_append before
      (withMode_frame (setupFlushOver i s) { (setupFlushOver i s).mode with setupFlush := none, leaveAsked := false })
    rw [← flushOver] at frame
    obtain ⟨entered, keeps⟩ := joins_of_setup (othersKept_mono frame (cs := [.time, .mode, .line]) (by decide))
    have line : (joinFromSetup (flushOver (setupFlushOver i s))).line = (setupFlushOver i s).line := joinFromSetup_line _
    generalize joinFromSetup (flushOver (setupFlushOver i s)) = u at *
    obtain ⟨leaves, others, replacement, -⟩ := setupFlushOver_line line
    exact ⟨entered, leaves, others, replacement, keeps⟩
  case timer =>
    intro s i hm hi flushDone
    refine ⟨finish (restTimerEnds s), rfl, ?_⟩
    rw [restTimerEnds_of hm hi]
    have frame := othersKept_append (advanceTo_frame i s) (withDemand_frame (advanceTo i s) { s.demand with restTimer := none })
    have demand : ((advanceTo i s).withDemand { s.demand with restTimer := none }).demand =
        { s.demand with restTimer := none } := rfl
    generalize (advanceTo i s).withDemand { s.demand with restTimer := none } = v at *
    rw [takeWake_awake .restTimer false (by rw [demand]; exact flushDone)]
    obtain ⟨entered, keeps⟩ := joins_of_wake (s := s) false (othersKept_mono frame (by decide))
      (by rw [demand]; exact ⟨rfl, rfl, rfl⟩) (by rw [demand])
    have line := (wakeStation_line v).trans (frame .line (by decide))
    generalize wakeStation false v = u at *
    exact ⟨entered, line, keeps⟩
  case resume =>
    intro t s f rest free front decoded mode flushDone
    refine ⟨finish (takeNotice .house isHouseResume applyHouseResume (advanceTo t s)), rfl, ?_⟩
    rw [takeNotice_at .house free front decoded rfl rfl rfl, applyHouseResume,
      applyResume_resting _ (by simpa using mode), takeWake_awake .resume false (by simpa using flushDone)]
    have frame := othersKept_append (advanceTo_frame t s) (noticeState_frame rest t s)
    have queue := noticeState_line rest t s
    generalize noticeState rest t s = v at *
    have demand : v.demand = s.demand := frame .demand (by decide)
    obtain ⟨entered, keeps⟩ := joins_of_wake (s := s) false (othersKept_mono frame (by decide))
      (by rw [demand]; exact ⟨rfl, rfl, rfl⟩) (by rw [demand])
    have line := (wakeStation_line v).trans queue
    generalize wakeStation false v = u at *
    exact ⟨entered, line, keeps⟩
  case wake =>
    intro t s f rest free front decoded mode flushDone
    refine ⟨finish (takeNotice .house isHouseWake applyHouseWake (advanceTo t s)), rfl, ?_⟩
    rw [takeNotice_at .house free front decoded rfl rfl rfl, applyHouseWake, applyWake, if_pos (by simpa using mode),
      takeWake_awake .wake false (by simpa using flushDone)]
    have frame := othersKept_append (advanceTo_frame t s) (noticeState_frame rest t s)
    have queue := noticeState_line rest t s
    generalize noticeState rest t s = v at *
    have demand : v.demand = s.demand := frame .demand (by decide)
    obtain ⟨entered, keeps⟩ := joins_of_wake (s := s) false (othersKept_mono frame (by decide))
      (by rw [demand]; exact ⟨rfl, rfl, rfl⟩) (by rw [demand])
    have line := (wakeStation_line v).trans queue
    generalize wakeStation false v = u at *
    exact ⟨entered, line, keeps⟩
  case press =>
    intro t s mode flushDone free
    refine ⟨finish (pressButton (advanceTo t s)), rfl, ?_⟩
    rw [pressButton_resting (by simpa using mode) (by simpa using free)]
    have frame := othersKept_append (advanceTo_frame t s) (pressTaken_frame (advanceTo t s))
    have demand : (pressTaken (advanceTo t s)).demand =
        { s.demand with button := some { since := (advanceTo t s).time.now, timed := false } } := by simp [pressTaken]
    generalize pressTaken (advanceTo t s) = v at *
    rw [takeWake_awake .press true (by rw [demand]; exact flushDone)]
    obtain ⟨entered, keeps⟩ := joins_of_wake (s := s) true (othersKept_mono frame (by decide))
      (by rw [demand]; exact ⟨rfl, rfl, rfl⟩) (by rw [demand])
    have stands := wakeStation_stands (s := v)
    rw [frame .line (by decide), frame .own (by decide)] at stands
    have button := congrArg DemandUnit.button ((wakeStation_within true v .demand (by decide)).trans (joinEntry_demand v))
    rw [demand] at button
    generalize wakeStation true v = u at *
    exact ⟨entered, fun ⟨hopen, room, fresh⟩ => stands hopen room fresh, button, keeps⟩
  case humid =>
    intro t s x result converting source purpose mode flushDone room unlatched humid
    refine ⟨finish (completeConversion result (advanceTo t s)), rfl, ?_⟩
    have humid' : humidResult (advanceTo t s) result := by simpa [humidResult] using humid
    have wakes := humidityWakes_of (s := advanceTo t s) source purpose (by simpa using mode) (by simpa using flushDone)
      (by simpa using room) (by simpa using unlatched) humid'
    have source' := JoinFrom.trans (.at_instant t s)
      (humidReading_joinFrom (s := advanceTo t s) (x := x) source (by simpa using unlatched) humid')
    obtain ⟨held, -, -⟩ := judgedRh_fields (s := advanceTo t s) (x := x) source (by simpa using unlatched) humid'
    have own : (humidReading x result (advanceTo t s)).own = _ :=
      (delivered_own (advanceTo t s) x result).trans (convertedOwn_rh source)
    have clim : (humidReading x result (advanceTo t s)).clim = _ := delivered_clim (advanceTo t s) x result
    have sensor : (humidReading x result (advanceTo t s)).clim.rhSensor = judgedSensor x result (advanceTo t s) := by
      rw [clim, source]
      rfl
    have line : (humidReading x result (advanceTo t s)).line = s.line :=
      (delivered_frame (advanceTo t s) x result .line (by decide)).trans (advanceTo_line t s)
    have active : (humidReading x result (advanceTo t s)).demand.humidity = .active := rfl
    have demand : (delivered (advanceTo t s) x result).demand = (advanceTo t s).demand :=
      delivered_frame (advanceTo t s) x result .demand (by decide)
    rw [completeConversion_of_some _ result (by simpa using converting), if_pos wakes, demand, ← humidReading,
      converterGoesOn_joined]
    rw [advanceTo_own] at own
    rw [← sensor, advanceTo_clim] at held
    clear clim sensor demand wakes
    generalize humidReading x result (advanceTo t s) = v at *
    have within := wakeStation_within true v
    have joined := othersKept_append within (finish_frame _)
    have entered := joinEntered_of source' joined
    have keeps := joinKeeps_of source' joined (restForgotten_of joined)
    have stands := wakeStation_stands (s := v)
    rw [line, source'.node] at stands
    have demand := (within .demand (by decide)).trans (joinEntry_demand v)
    have own' := (within .own (by decide)).trans (joinEntry_own v)
    have clim : (wakeStation true v).clim = withRequestsOf (unmarked (climAtJoin v.clim)) (joinEntry v).clim :=
      (within .clim (by decide)).trans (joinEntry_clim v)
    clear within joined
    generalize wakeStation true v = u at *
    refine ⟨entered, ?_, fun ⟨hopen, room, fresh⟩ => stands hopen room fresh, ?_, ?_, keeps⟩
    · rw [finish_demand, demand]
      exact active
    · rw [finish_clim, clim]
      exact held
    · rw [finish_own, own', own]

end Sys2Proof.Laws
end

section
/-! ## The ends of the SETUP and the REST flush (R31, R33, R34, R160, R163, R179; log 31) -/

namespace Sys2Proof.Laws

open Sys2Proof.Machine Sys2Proof.Safety

/-! ### The end of the REST flush (R160, R163) -/

/-- The state with the REST flush over and the stop request made, before a held wake is carried out. -/
def flushStopped (s : State) : State := modeStop (s.withDemand { s.demand with flush := none, heldWake := none })

theorem flushStopped_frame (s : State) : othersKept [.own, .fan, .demand] s (flushStopped s) :=
  othersKept_mono (othersKept_append (withDemand_frame s _) (modeStop_frame _)) (by decide)

theorem flushStopped_demand (s : State) : (flushStopped s).demand = { s.demand with flush := none, heldWake := none } :=
  modeStop_frame _ .demand (by decide)

theorem flushStopped_node (s : State) : (flushStopped s).own.node = s.own.node := by
  rcases modeStop_own (s.withDemand { s.demand with flush := none, heldWake := none }) with h | h <;>
    rw [flushStopped, h] <;> rfl

theorem endRestFlush_with_wake {s : State} {w : HeldWake} (h : s.demand.heldWake = some w) :
    endRestFlush s = wakeStation w.mark (flushStopped s) := by
  simp [endRestFlush, h, flushStopped]

/-- The stop request at the end of the REST flush of `s`, as it shows in `u` (R160). -/
def flushStops (s u : State) : Prop :=
  u.mode = s.mode ∧ u.demand = { s.demand with flush := none } ∧ u.fan.wanted = .halt ∧
    (s.fan.state = .stopped →
      u.own = { s.own with direction := .halt, want := 0, ceil := 0, flow := 0 } ∧ u.fan.state = .stopped) ∧
    (s.fan.state = .running → u.fan.state = .rampDown ∧ u.fan.target = some .halt ∧ u.own = s.own)

/-- The REST flush of `s` ends in a state that differs from it in other blocks alone, with no wake held. -/
theorem flushStops_of {s v : State} (h : othersKept [.time, .line, .frost] s v) (resting : s.mode.mode = .rest)
    (hw : s.demand.heldWake = none) :
    endRestFlush v = flushStopped v ∧ flushStops s (finish (flushStopped v)) := by
  have mode : v.mode = s.mode := h .mode (by decide)
  have demand : v.demand = s.demand := h .demand (by decide)
  have own : v.own = s.own := h .own (by decide)
  have fan : v.fan = s.fan := h .fan (by decide)
  have emptied : { s.demand with flush := none, heldWake := none } = { s.demand with flush := none } := by simp [hw]
  refine ⟨endRestFlush_without_wake (by rw [demand]; exact hw), ?_⟩
  have mode' := (flushStopped_frame v .mode (by decide)).trans mode
  have demand' := flushStopped_demand v
  have wanted : (flushStopped v).fan.wanted = .halt := (modeStop_wanted _).1
  have stopped (hs : v.fan.state = .stopped) := modeStop_stopped
    (s := v.withDemand { v.demand with flush := none, heldWake := none }) hs (by rw [State.withDemand_mode, mode, resting]; decide)
  have running (hs : v.fan.state = .running) := modeStop_running
    (s := v.withDemand { v.demand with flush := none, heldWake := none }) hs
  rw [← flushStopped, State.withDemand_own, fan, own] at stopped running
  rw [demand, emptied] at demand'
  generalize flushStopped v = u at *
  exact ⟨mode', demand', wanted, fun hs => ⟨(stopped hs).2, (stopped hs).1⟩, running⟩

/-- The line after a wake that is carried out: a WAKE queued by its mark (R31, R163). -/
theorem wakeStation_queued (mark : Bool) (s : State) : (wakeStation mark s).line =
    (if mark then (queueNotice (newEntry .house false s.own.node false [0, 3, 0, 0]) s).line else s.line) := by
  cases mark with
  | false => exact joinEntry_line s
  | true =>
    have node : (joinEntry s).own.node = s.own.node := by rw [joinEntry_own]
    rw [wakeStation_marked, queueWake, node]
    exact queueNotice_line_congr _ (joinEntry_line s)

/-- In an empty queue a WAKE stands in OPEN alone (R31, R40, R41). -/
theorem queueWake_empty {s : State} {e : TxEntry} (house : e.cls = .house) (hq : s.line.txq = []) :
    (queueNotice e s).line.txq = if s.line.faultCount < 32 then [e] else [] := by
  split
  next hopen =>
    rw [queueNotice_open e hopen, State.withLine_line,
      acceptNotice_free (by rw [hq]; rfl) (by rw [hq]; exact Nat.zero_lt_succ _), hq]
    rfl
  next closed =>
    by_cases cut : 64 ≤ s.line.faultCount
    · rw [queueNotice_cutOff e cut, hq]
    · rw [queueNotice_muted (by omega) (by omega) (.inr (.inl house))]
      exact hq

/-- The REST flush of `s` ends in a state that differs from it in other blocks alone, with a wake held: JOIN is
entered. -/
theorem flushWakes_of {s v : State} {w : HeldWake} (h : othersKept [.time, .line, .frost] s v)
    (hw : s.demand.heldWake = some w) :
    joinEntered s (finish (endRestFlush v)) ∧ (endRestFlush v).line =
      (if w.mark then (queueNotice (newEntry .house false s.own.node false [0, 3, 0, 0]) (flushStopped v)).line
        else v.line) ∧ (flushStopped v).line = v.line := by
  have frame := othersKept_append h (flushStopped_frame v)
  have svc : (flushStopped v).svc = s.svc := frame .svc (by decide)
  have unit : (flushStopped v).unit = s.unit := frame .unit (by decide)
  have peers : (flushStopped v).peers = s.peers := frame .peers (by decide)
  have line : (flushStopped v).line = v.line := flushStopped_frame v .line (by decide)
  have node : (flushStopped v).own.node = s.own.node := (flushStopped_node v).trans (by rw [h .own (by decide)])
  rw [endRestFlush_with_wake (by rw [h .demand (by decide)]; exact hw)]
  generalize flushStopped v = x at *
  refine ⟨joinEntered_at (by rw [svc]) (by rw [unit]) peers
    (othersKept_append (wakeStation_within w.mark x) (finish_frame _)), ?_, line⟩
  rw [wakeStation_queued, line, node]

/-- Such an end with an empty queue: the WAKE of the held press is all that is queued. -/
theorem flushWakes_empty {s v : State} {w : HeldWake} (h : othersKept [.time, .line, .frost] s v)
    (hw : s.demand.heldWake = some w) (hq : v.line.txq = []) :
    joinEntered s (finish (endRestFlush v)) ∧ (endRestFlush v).line.faultCount = v.line.faultCount ∧
      (endRestFlush v).line.txq = (if w.mark = true ∧ v.line.faultCount < 32
        then [newEntry .house false s.own.node false [0, 3, 0, 0]] else []) := by
  obtain ⟨entered, line, stopped⟩ := flushWakes_of h hw
  refine ⟨entered, endRestFlush_faultCount v, ?_⟩
  rw [line]
  cases w.mark with
  | false => simpa using hq
  | true =>
    rw [if_pos rfl, queueWake_empty rfl (by rw [stopped]; exact hq), stopped]
    simp

/-- The state in which the REST flush ends at its end instant: its LEAVE withdrawn (R160). -/
def restFlushOver (i : Count) (s : State) : State := if queueEmpty s then s else withdraw isLeave (advanceTo i s)

theorem restFlushEnds_of {s : State} {i : Count} (hm : s.mode.mode = .rest) (hi : s.demand.flush = some i) :
    restFlushEnds s = endRestFlush (restFlushOver i s) := by
  simp only [restFlushEnds, hi, if_pos hm, restFlushOver]
  split <;> rfl

theorem restFlushOver_frame (i : Count) (s : State) : othersKept [.time, .line] s (restFlushOver i s) := by
  unfold restFlushOver
  split
  · exact othersKept_refl _ s
  · exact othersKept_append (advanceTo_frame i s) (withdraw_frame _ _)

theorem restFlushOver_line {s u : State} {i : Count} (hu : u.line = (restFlushOver i s).line) : leavesWithdrawn s u := by
  unfold restFlushOver at hu
  cases h : queueEmpty s with
  | true =>
    rw [if_pos h] at hu
    refine noLeave_withdrawn (Bool.eq_false_iff.mpr fun leave => ?_) hu
    rw [queueEmpty_of_leave leave] at h
    exact absurd h (by decide)
  | false =>
    rw [if_neg (by simp [h])] at hu
    exact withdrawLeave_withdrawn (advanceTo_line i s) hu

theorem restFlushOver_length (i : Count) (s : State) : (restFlushOver i s).line.txq.length ≤ s.line.txq.length := by
  unfold restFlushOver
  split
  · exact Nat.le_refl _
  · rw [withdraw, State.withLine_line, advanceTo_line]
    exact withdrawEntries_length _ _

/-! ### The sends that end a flush (R29, R31, R33) -/

/-- Outside RUN a clean send is reported to the frost guard alone (R110, R142). -/
theorem reportSend_outside {e : TxEntry} {s : State} (stamp : Count) (h : s.mode.mode ≠ .run) :
    othersKept [.frost] s (reportSend e stamp s) := by
  by_cases hc : e.cls = .claim
  · exact reportSend_of_claim stamp hc
  · have same : reportSend e stamp s = s := by
      unfold reportSend
      split <;> simp_all
    rw [same]
    exact othersKept_refl _ s

/-- Outside RUN a PHASE that was sent is reported to no one. -/
theorem reportSend_phase {e : TxEntry} {s : State} (stamp : Count) (hc : e.cls = .phase) (h : s.mode.mode ≠ .run) :
    reportSend e stamp s = s := by
  unfold reportSend
  split <;> simp_all

/-- A send of the only class in the queue leaves it empty. -/
theorem withoutClass_only {c : NoticeClass} {q : List TxEntry} (h : ∀ x ∈ q, x.cls = c) : withoutClass c q = [] :=
  List.eq_nil_iff_forall_not_mem.mpr fun x hx => (mem_withoutClass.mp hx).2 (h x (mem_withoutClass.mp hx).1)

theorem queueEmpty_of {s : State} (hq : s.line.txq = []) (hr : s.line.replacement = none) : queueEmpty s = true := by
  simp [queueEmpty, hq, hr]

theorem leaveQueued_eq_false {s : State} (hq : ∀ x ∈ s.line.txq, isLeave x = false)
    (hr : s.line.replacement.any isLeave = false) : leaveQueued s = false := by
  unfold leaveQueued
  rw [List.any_eq_false.mpr fun x hx => by simp [hq x hx]]
  cases h : s.line.replacement with
  | none => rfl
  | some r => simpa [h] using hr

/-- A replacement that is no LEAVE brings none into the queue (R31). -/
theorem takeReplacement_noLeave {s : State} (hq : ∀ x ∈ s.line.txq, isLeave x = false)
    (hr : s.line.replacement.any isLeave = false) : leaveQueued (takeReplacement s) = false := by
  refine leaveQueued_eq_false ?_ (by rw [takeReplacement_line]; rfl)
  rw [takeReplacement_line]
  dsimp only
  unfold replacedBy
  split
  next r h =>
    intro x hx
    rcases (mem_insertOrd _).mp hx with rfl | hx
    · simpa [h] using hr
    · exact hq x (mem_withoutClass.mp hx).1
  · exact hq

theorem isLeave_cls {e : TxEntry} (h : isLeave e = true) : e.cls = .phase := by
  simp only [isLeave, Bool.and_eq_true, decide_eq_true_eq] at h
  exact h.1

/-- A queue without an entry of class PHASE holds no LEAVE. -/
theorem noLeave_without {q : List TxEntry} (h : ∀ x ∈ q, x.cls ≠ .phase) (x : TxEntry) (hx : x ∈ q) :
    isLeave x = false :=
  Bool.eq_false_iff.mpr fun leave => h x hx (isLeave_cls leave)

/-- The REST flush ends with the entry that empties the queue, reported or lost (log 31). -/
theorem settleFlush_emptied {s v : State} (h : othersKept [.time, .line, .frost] s v) (resting : s.mode.mode = .rest)
    (flushing : s.demand.flush.isSome = true) (hq : v.line.txq = []) (hr : v.line.replacement = none) :
    settleFlush (takeReplacement v) = endRestFlush v := by
  rw [takeReplacement_of_none _ hr]
  exact settleFlush_ends (by rw [h .mode (by decide)]; exact resting) (by rw [h .demand (by decide)]; exact flushing)
    (queueEmpty_of hq hr)

/-- What is left of `s` when a SETUP flush ends with its LEAVE gone, in a state that differs in other blocks alone. -/
theorem setupFlush_settled {s v : State} (h : othersKept [.time, .line] s v) (mode : s.mode.mode = .setup)
    (flushing : s.mode.setupFlush.isSome = true) (gone : leaveQueued v = false) :
    leaveQueued (finish (settleFlush v)) = false ∧ (settleFlush v).line = v.line ∧
      (s.mode.leaveAsked = false → (settleFlush v).mode = { s.mode with setupFlush := none } ∧
        othersKept [.mode] v (settleFlush v)) ∧
      (s.mode.leaveAsked = true → joinEntered s (finish (settleFlush v)) ∧
        (s.svc.changed = true → (finish (settleFlush v)).svc.writing.isSome = true)) := by
  have mode' : v.mode = s.mode := h .mode (by decide)
  have resting : v.mode.mode ≠ .rest := by rw [mode', mode]; decide
  have settled : settleFlush v = endSetupFlush v := by
    rw [settleFlush, if_neg fun ⟨h, _⟩ => resting h, if_pos ⟨by rw [mode', mode], by rw [mode', flushing], by simp [gone]⟩]
  rw [settled]
  have line := endSetupFlush_line v
  have gone' : leaveQueued (finish (endSetupFlush v)) = false := by
    rw [← gone]
    unfold leaveQueued
    rw [finish_line, line]
  refine ⟨gone', line, fun quiet => ?_, fun asked => ?_⟩
  · rw [endSetupFlush_notAsked (by rw [mode']; exact quiet)]
    refine ⟨?_, withMode_frame _ _⟩
    rw [flushOver, State.withMode_mode, mode']
    simp [quiet]
  · have frame := othersKept_append h (withMode_frame v { v.mode with setupFlush := none, leaveAsked := false })
    rw [← flushOver] at frame
    rw [endSetupFlush_asked (by rw [mode']; exact asked)]
    exact ⟨(joins_of_setup (othersKept_mono frame (by decide))).1,
      joinedFromSetup_writing (frame .svc (by decide))⟩

end Sys2Proof.Laws
end

section
/-! ## The sends that end a flush (R29, R33, R34, R39 to R41, R160, R179; log 31) -/

namespace Sys2Proof.Laws

open Sys2Proof.Machine Sys2Proof.Safety

/-! ### The entry lost at an error (R33, R34, R40, R41) -/

theorem keepAfterError_frame (e : TxEntry) (s : State) : othersKept [.line] s (keepAfterError e s) := by
  unfold keepAfterError
  split
  · exact othersKept_refl _ _
  · split
    · exact othersKept_trans (withLine_frame s _) (withLine_frame _ _)
    · exact withLine_frame s _

/-- The entry on the line is lost at an error when it is withdrawn, or at its third error (R33, R34). -/
def lostAtError (e : TxEntry) : Prop := e.withdrawn = true ∨ 2 ≤ e.attempts

section
variable {e : TxEntry} {s : State}

theorem failEntry_of_withdrawn (h : e.withdrawn = true) :
    failEntry e s = chargeLine (claimGone e (removeEntry e.cls s)) := by rw [failEntry, if_pos h]

theorem failEntry_of_kept (h : e.withdrawn = false) : failEntry e s = keepAfterError e (chargeLine s) := by
  rw [failEntry, if_neg (by simp [h])]

theorem failEntry_frame (e : TxEntry) (s : State) : othersKept [.line, .frost] s (failEntry e s) := by
  cases h : e.withdrawn with
  | true =>
    rw [failEntry_of_withdrawn h]
    exact othersKept_within (withLine_frame s _) (othersKept_append (claimGone_frame e _) (chargeLine_frame _))
  | false =>
    rw [failEntry_of_kept h]
    exact othersKept_within (chargeLine_frame s) (keepAfterError_frame e _)

/-- The frost guard hears of a lost CLAIM alone (R140). -/
theorem failEntry_phase (hc : e.cls = .phase) : othersKept [.line] s (failEntry e s) := by
  have claim (x : State) : claimGone e x = x := by simp [claimGone, hc]
  cases h : e.withdrawn with
  | true =>
    rw [failEntry_of_withdrawn h, claim]
    exact othersKept_trans (withLine_frame s _) (chargeLine_frame _)
  | false =>
    rw [failEntry_of_kept h]
    exact othersKept_trans (chargeLine_frame s) (keepAfterError_frame e _)

/-- A lost entry leaves of the queue at most the entries of the other classes. -/
theorem failEntry_lost_mem (lost : lostAtError e) {x : TxEntry} (hx : x ∈ (failEntry e s).line.txq) :
    x ∈ s.line.txq ∧ x.cls ≠ e.cls := by
  cases h : e.withdrawn with
  | true =>
    rw [failEntry_of_withdrawn h] at hx
    have left := mem_of_mem_chargeLine _ hx
    rw [claimGone_line] at left
    exact mem_withoutClass.mp left
  | false =>
    have third : 2 ≤ e.attempts := lost.resolve_left (by simp [h])
    rw [failEntry_of_kept h, keepAfterError_of_third third] at hx
    split at hx
    next gone => exact ⟨mem_of_mem_chargeLine _ hx, entryOf_eq_none.mp gone x hx⟩
    · exact ⟨mem_of_mem_chargeLine _ (mem_withoutClass.mp hx).1, (mem_withoutClass.mp hx).2⟩

theorem chargeLine_replacement_of {r : TxEntry} (h : (chargeLine s).line.replacement = some r) :
    s.line.replacement = some r := by
  obtain hc | hc | hc := chargeLine_cases s <;> rw [hc] at h
  · exact h
  · rw [enterMuted_line] at h
    exact (Option.filter_eq_some_iff.mp h).1
  · rw [enterCutOff_line] at h
    exact absurd h (by simp)

/-- An error brings in no replacement. -/
theorem failEntry_replacement_of {r : TxEntry} (h : (failEntry e s).line.replacement = some r) :
    s.line.replacement = some r := by
  cases hw : e.withdrawn with
  | true =>
    rw [failEntry_of_withdrawn hw] at h
    have left := chargeLine_replacement_of h
    rwa [claimGone_line] at left
  | false =>
    rw [failEntry_of_kept hw, keepAfterError_replacement] at h
    exact chargeLine_replacement_of h

/-- A charge on an empty queue counts no drop (R40, R41). -/
theorem chargeLine_empty_drops (hq : s.line.txq = []) (hr : s.line.replacement = none) (hd : s.line.drops ≤ 255) :
    (chargeLine s).line.drops = s.line.drops := by
  obtain hc | hc | hc := chargeLine_cases s <;> rw [hc]
  · rfl
  · rw [enterMuted_line, addCharge_line]
    simp [hq, hr, hd]
  · rw [enterCutOff_line, addCharge_line]
    simp [hq, hr, hd]

/-- The one entry of the queue, lost at its third error, is one drop, by the error or by CUT OFF (R33, R41). -/
theorem failEntry_only_drops (kept : e.withdrawn = false) (third : 2 ≤ e.attempts) (on : e.onLine = true)
    (hq : s.line.txq = [e]) (hr : s.line.replacement = none) (hd : s.line.drops ≤ 255) :
    (failEntry e s).line.drops = min (s.line.drops + 1) 255 := by
  rw [failEntry_of_kept kept, keepAfterError_of_third third]
  obtain hc | hc | hc := chargeLine_cases s <;> rw [hc]
  · rw [if_neg (by rw [addCharge_line, hq]; simp [entryOf])]
    rfl
  · have left : (enterMuted (addCharge s)).line.txq = [e] := by
      rw [enterMuted_line, addCharge_line, hq]
      simp [mutedOff, on]
    have drops : (enterMuted (addCharge s)).line.drops = s.line.drops := by
      rw [enterMuted_line, addCharge_line]
      simp [hq, hr, mutedOff, on, hd]
    rw [if_neg (by rw [left]; simp [entryOf]), countDrops, State.withLine_line, removeEntry, State.withLine_line, drops]
  · rw [if_pos (by rw [enterCutOff_line]; rfl), enterCutOff_line, addCharge_line]
    simp [hq, hr]

end

/-- A queue of distinct classes with all entries of one class holds that entry alone. -/
theorem only_entry {e : TxEntry} {q : List TxEntry} (mem : e ∈ q) (one : ∀ x ∈ q, x.cls = e.cls)
    (distinct : (q.map fun x => x.cls).Nodup) : q = [e] := by
  cases q with
  | nil => exact absurd mem List.not_mem_nil
  | cons y ys =>
    cases ys with
    | nil => rw [List.mem_singleton.mp mem]
    | cons z zs =>
      have same : y.cls = z.cls := (one y (by simp)).trans (one z (by simp)).symm
      exact absurd distinct (by simp [same])

/-! ### A send that empties the REST queue (R160; log 31) -/

/-- The line after a clean send is reported, before the replacement and the flush. -/
def cleanReported (e : TxEntry) (s : State) : State := reportSend e s.time.now (sendEnded e s)

theorem endCleanSend_settles {e : TxEntry} {s : State} (hp : s.line.phase = .sending)
    (he : onLineEntry s.line.txq = some e) :
    endCleanSend s = settleFlush (takeReplacement (cleanReported e s)) := by
  simp only [endCleanSend, he, hp, if_true]
  rfl

section
variable (e : TxEntry) (s : State)

theorem cleanReported_line : (cleanReported e s).line = { s.line with
    phase := .busy, txq := withoutClass e.cls s.line.txq, faultCount := s.line.faultCount - 1 } := by
  rw [cleanReported, reportSend_frame _ _ _ .line (by decide)]
  rfl

theorem cleanReported_frame {e : TxEntry} {s : State} (h : s.mode.mode ≠ .run) :
    othersKept [.line, .frost] s (cleanReported e s) := by
  have ended := sendEnded_frame e s
  exact othersKept_append ended (reportSend_outside _ (by rw [ended .mode (by decide)]; exact h))

theorem cleanReported_phase {e : TxEntry} {s : State} (hc : e.cls = .phase) (h : s.mode.mode ≠ .run) :
    othersKept [.line] s (cleanReported e s) := by
  have ended := sendEnded_frame e s
  rw [cleanReported, reportSend_phase _ hc (by rw [ended .mode (by decide)]; exact h)]
  exact ended

end

/-- The REST flush of `s` that ends at the instant `t` in the state `v`, its queue empty. -/
theorem sendStopsFlush {t : Count} {s v : State} (h : othersKept [.line, .frost] (advanceTo t s) v)
    (resting : s.mode.mode = .rest) (flushing : s.demand.flush.isSome = true) (hw : s.demand.heldWake = none)
    (hq : v.line.txq = []) (hr : v.line.replacement = none) :
    flushStops s (finish (settleFlush (takeReplacement v))) ∧ (settleFlush (takeReplacement v)).line = v.line ∧
      othersKept [.own, .line, .fan, .frost, .demand, .cond] (advanceTo t s) (finish (settleFlush (takeReplacement v))) := by
  have h' : othersKept [.time, .line, .frost] s v := othersKept_mono (othersKept_append (advanceTo_frame t s) h) (by decide)
  obtain ⟨ended, stops⟩ := flushStops_of h' resting hw
  have frame := flushStopped_frame v
  rw [settleFlush_emptied h' resting flushing hq hr, ended]
  exact ⟨stops, frame .line (by decide), finish_within (othersKept_append h frame)⟩

theorem sendWakesFlush {t : Count} {s v : State} {w : HeldWake} (h : othersKept [.line, .frost] (advanceTo t s) v)
    (resting : s.mode.mode = .rest) (flushing : s.demand.flush.isSome = true) (hw : s.demand.heldWake = some w)
    (hq : v.line.txq = []) (hr : v.line.replacement = none) :
    joinEntered s (finish (settleFlush (takeReplacement v))) ∧
      (settleFlush (takeReplacement v)).line.faultCount = v.line.faultCount ∧
      (settleFlush (takeReplacement v)).line.txq = (if w.mark = true ∧ v.line.faultCount < 32
        then [newEntry .house false s.own.node false [0, 3, 0, 0]] else []) := by
  have h' : othersKept [.time, .line, .frost] s v := othersKept_mono (othersKept_append (advanceTo_frame t s) h) (by decide)
  rw [settleFlush_emptied h' resting flushing hq hr]
  exact flushWakes_empty h' hw hq

/-- The SETUP flush of `s` that ends at the instant `t` with the send of its LEAVE. -/
theorem sendEndsSetupFlush {t : Count} {s v : State} (h : othersKept [.line] (advanceTo t s) v)
    (mode : s.mode.mode = .setup) (flushing : s.mode.setupFlush.isSome = true)
    (hq : ∀ x ∈ v.line.txq, isLeave x = false) (hr : v.line.replacement.any isLeave = false) :
    leaveQueued (finish (settleFlush (takeReplacement v))) = false ∧
      (settleFlush (takeReplacement v)).line.faultCount = v.line.faultCount ∧
      (s.mode.leaveAsked = false → (settleFlush (takeReplacement v)).mode = { s.mode with setupFlush := none } ∧
        othersKept [.mode, .line, .cond] (advanceTo t s) (finish (settleFlush (takeReplacement v)))) ∧
      (s.mode.leaveAsked = true → joinEntered s (finish (settleFlush (takeReplacement v))) ∧
        (s.svc.changed = true → (finish (settleFlush (takeReplacement v))).svc.writing.isSome = true)) := by
  have taken := othersKept_append h (takeReplacement_frame v)
  obtain ⟨gone, -, quiet, asked⟩ := setupFlush_settled
    (othersKept_mono (othersKept_append (advanceTo_frame t s) taken) (cs := [.time, .line]) (by decide)) mode flushing
    (takeReplacement_noLeave hq hr)
  refine ⟨gone, by rw [settleFlush_faultCount, takeReplacement_faultCount], fun no => ?_, asked⟩
  obtain ⟨mode', frame⟩ := quiet no
  exact ⟨mode', finish_within (othersKept_append taken frame)⟩

end Sys2Proof.Laws
end

section
/-! ## The SETUP and the REST flush end (R31, R33, R34, R160, R163, R179, R180; log 31) -/

namespace Sys2Proof.Laws

open Sys2Proof.Machine Sys2Proof.Safety

/-- The state in which an error has charged the line, before the replacement and the flush. -/
def errorCharged (e : TxEntry) (t : Count) (s : State) : State := failEntry e (withPhase .busy (advanceTo t s))

section
variable {e : TxEntry} {t : Count} {s : State}

theorem errorCharged_frame (e : TxEntry) (t : Count) (s : State) :
    othersKept [.line, .frost] (advanceTo t s) (errorCharged e t s) :=
  othersKept_within (withPhase_frame .busy _) (failEntry_frame e _)

theorem errorCharged_phase (hc : e.cls = .phase) : othersKept [.line] (advanceTo t s) (errorCharged e t s) :=
  othersKept_trans (withPhase_frame .busy _) (failEntry_phase hc)

theorem busy_line : (withPhase .busy (advanceTo t s)).line = { s.line with phase := .busy } := by simp [withPhase]

theorem errorCharged_faultCount : (errorCharged e t s).line.faultCount = min (s.line.faultCount + 4) 64 := by
  rw [errorCharged, failEntry_faultCount, busy_line]

theorem errorCharged_mem (lost : lostAtError e) {x : TxEntry} (hx : x ∈ (errorCharged e t s).line.txq) :
    x ∈ s.line.txq ∧ x.cls ≠ e.cls := by
  have left := failEntry_lost_mem lost hx
  rwa [busy_line] at left

theorem errorCharged_emptied (lost : lostAtError e) (one : ∀ x ∈ s.line.txq, x.cls = e.cls) :
    (errorCharged e t s).line.txq = [] :=
  List.eq_nil_iff_forall_not_mem.mpr fun _ hx => (errorCharged_mem lost hx).2 (one _ (errorCharged_mem lost hx).1)

theorem errorCharged_replacement (h : s.line.replacement = none) : (errorCharged e t s).line.replacement = none :=
  failEntry_replacement _ _ (by rw [busy_line]; exact h)

theorem errorCharged_noLeave (h : s.line.replacement.any isLeave = false) :
    (errorCharged e t s).line.replacement.any isLeave = false := by
  cases hr : (errorCharged e t s).line.replacement with
  | none => rfl
  | some r =>
    have before := failEntry_replacement_of hr
    rw [busy_line] at before
    rwa [before] at h

/-- The drops that an error counts when it takes the last entry (R33, R41). -/
theorem errorCharged_drops (mem : e ∈ s.line.txq) (on : e.onLine = true) (lost : lostAtError e)
    (one : ∀ x ∈ s.line.txq, x.cls = e.cls) (hr : s.line.replacement = none) (shaped : sendQueueShaped s.line)
    (counts : countsInRange s.line) :
    (errorCharged e t s).line.drops = if e.withdrawn = true then s.line.drops else min (s.line.drops + 1) 255 := by
  obtain ⟨-, distinct, -⟩ := shaped
  obtain ⟨-, -, -, drops, -⟩ := counts
  cases hw : e.withdrawn with
  | true =>
    rw [errorCharged, failEntry_of_withdrawn hw, chargeLine_empty_drops]
    · simp [removeEntry, busy_line]
    · simpa [removeEntry, busy_line] using withoutClass_only one
    · simpa [removeEntry, busy_line] using hr
    · simpa [removeEntry, busy_line] using drops
  | false =>
    have queue : (withPhase .busy (advanceTo t s)).line.txq = [e] := by
      rw [busy_line]
      exact only_entry mem one distinct
    have dropped := failEntry_only_drops (s := withPhase .busy (advanceTo t s)) hw (lost.resolve_left (by simp [hw])) on
      queue (by rw [busy_line]; exact hr) (by rw [busy_line]; exact drops)
    rw [busy_line] at dropped
    exact dropped

theorem failSend_settles (hp : s.line.phase = .sending) (he : onLineEntry s.line.txq = some e) :
    failSend (advanceTo t s) = settleFlush (takeReplacement (errorCharged e t s)) :=
  failSend_of_sending (by simpa using hp) (by simpa using he)

end

/-- Settles O41: each send, drop and end instant takes the last LEAVE away, and the flush of its mode ends there. -/
theorem setupAndRestFlushesEnd : Obligations.SetupAndRestFlushesEnd := by
  refine ⟨?setupEnd, ?leaveInFlush, ?leaveElsewhere, ?restEnd, ?restEndWake, ?restSent, ?restSentWake, ?setupSent,
    ?restLost, ?restLostWake, ?setupLost⟩
  case setupEnd =>
    intro s i hm hi quiet
    refine ⟨finish (setupFlushEnds s), rfl, ?_⟩
    have frame := setupFlushOver_frame i s
    have mode : (setupFlushOver i s).mode = s.mode := frame .mode (by decide)
    rw [setupFlushEnds_of hm hi, endSetupFlush_notAsked (by rw [mode]; exact quiet)]
    have over' : (flushOver (setupFlushOver i s)).mode = { s.mode with setupFlush := none } := by
      simp [flushOver, mode, quiet]
    have line : (flushOver (setupFlushOver i s)).line = (setupFlushOver i s).line := rfl
    obtain ⟨leaves, others, replacement, fields⟩ := setupFlushOver_line line
    have within := othersKept_append frame (withMode_frame (setupFlushOver i s)
      { (setupFlushOver i s).mode with setupFlush := none, leaveAsked := false })
    rw [← flushOver] at within
    generalize flushOver (setupFlushOver i s) = u at *
    exact ⟨over', leaves, others, replacement, fields, finish_within within⟩
  case leaveInFlush =>
    intro t s f rest index value free front decoded mode flushing queued hopen fresh room
    refine ⟨finish (takeNotice .request (isRequest .setupLeave) applySetupLeave (advanceTo t s)), rfl, ?_⟩
    have still : (requestState rest t s).mode.mode = .setup := by rw [requestState_mode]; exact mode
    have frame := reply_frame f .setupLeave .done index zeroPage (requestState rest t s)
    have line := serve_reply_line (f := f) (kind := .setupLeave) (status := .done) (index := index) (d := zeroPage)
      (requestState_line rest t s) (requestState_own rest t s) hopen fresh room
    have before := requestState_frame rest t s
    have mode' := (frame .mode (by decide)).trans (requestState_mode rest t s)
    rw [if_pos mode] at mode'
    have answered : answerLeave f index (requestState rest t s) =
        (leaveReplied f index rest t s).withMode { (leaveReplied f index rest t s).mode with leaveAsked := true } := by
      rw [answerLeave, if_pos still, ← leaveReplied]
      exact if_pos (by rw [leaveReplied, mode']; exact flushing)
    rw [takeNotice_at .request free front decoded rfl rfl rfl, applySetupLeave, serve,
      if_neg (by rw [noticeState_mode, mode]; decide), ← requestState, answered]
    rw [← leaveReplied] at frame line mode'
    generalize leaveReplied f index rest t s = v at *
    have waits : leaveQueued (v.withMode { v.mode with leaveAsked := true }) = true := by
      rcases Bool.or_eq_true_iff.mp queued with h | h
      · obtain ⟨x, hx, leave⟩ := List.any_eq_true.mp h
        exact leaveQueued_of leave (.inl (by rw [State.withMode_line, line]; exact (mem_insertOrd _).mpr (.inr hx)))
      · cases hr : s.line.replacement with
        | none => simp [hr] at h
        | some r =>
          rw [hr] at h
          exact leaveQueued_of h (.inr (by rw [State.withMode_line, line]; exact hr))
    rw [settleFlush_setup_waits (by rw [State.withMode_mode, mode']; exact mode) waits]
    refine ⟨reply_stands (by rw [finish_line, State.withMode_line, line]) rfl, ?_,
      finish_within (othersKept_append before (othersKept_append frame (withMode_frame v _)))⟩
    rw [finish_mode, State.withMode_mode, mode']
  case leaveElsewhere =>
    intro t s f rest index value free front decoded mode hopen fresh room hsetup hrest
    refine ⟨finish (takeNotice .request (isRequest .setupLeave) applySetupLeave (advanceTo t s)), rfl, ?_⟩
    have notStart : s.mode.mode ≠ .start := by rcases mode with h | h | h <;> simp [h]
    have notSetup : s.mode.mode ≠ .setup := by rcases mode with h | h | h <;> simp [h]
    have asked : requestState rest t s = noticeState rest t s :=
      reloadInactivity_of_ne (by rw [noticeState_mode]; exact notSetup)
    have frame := reply_frame f .setupLeave .notInSetup index zeroPage (requestState rest t s)
    have answered : answerLeave f index (requestState rest t s) =
        reply f .setupLeave .notInSetup index zeroPage (requestState rest t s) := by
      rw [answerLeave, if_neg (by rw [requestState_mode]; exact notSetup)]
    have line := serve_reply_line (f := f) (kind := .setupLeave) (status := .notInSetup) (index := index) (d := zeroPage)
      (requestState_line rest t s) (requestState_own rest t s) hopen fresh room
    rw [takeNotice_at .request free front decoded rfl rfl rfl, applySetupLeave, serve_answered (by simpa using notStart)
      (by rw [← requestState, answered, frame .mode (by decide), requestState_mode]; exact hsetup)
      (by rw [← requestState, answered, frame .demand (by decide), requestState_demand]; exact hrest),
      ← requestState, answered]
    rw [asked] at frame line ⊢
    have within := othersKept_append (noticeState_frame rest t s) frame
    generalize reply f .setupLeave .notInSetup index zeroPage (noticeState rest t s) = u at *
    exact ⟨reply_stands (by rw [finish_line, line]) rfl, by rw [finish_line, line], finish_within within⟩
  case restEnd =>
    intro s i resting hi hw
    refine ⟨finish (restFlushEnds s), rfl, ?_⟩
    have frame := restFlushOver_frame i s
    obtain ⟨ended, mode, demand, wanted, stopped, running⟩ :=
      flushStops_of (othersKept_mono frame (by decide)) resting hw
    have within := flushStopped_frame (restFlushOver i s)
    rw [restFlushEnds_of resting hi, ended]
    obtain ⟨leaves, others, replacement, fields⟩ := restFlushOver_line (i := i) (s := s) (within .line (by decide))
    have within' := othersKept_append frame within
    generalize flushStopped (restFlushOver i s) = u at *
    exact ⟨mode, demand, wanted, stopped, running, leaves, others, replacement, fields, finish_within within'⟩
  case restEndWake =>
    intro s i w resting hi hw
    refine ⟨finish (restFlushEnds s), rfl, ?_⟩
    obtain ⟨entered, line, stopped⟩ := flushWakes_of (othersKept_mono (restFlushOver_frame i s) (by decide)) hw
    rw [restFlushEnds_of resting hi]
    have flushed := restFlushOver_line (i := i) (s := s) stopped
    have length : (flushStopped (restFlushOver i s)).line.txq.length ≤ s.line.txq.length := by
      rw [stopped]
      exact restFlushOver_length i s
    generalize flushStopped (restFlushOver i s) = v at *
    rw [← stopped] at line
    clear stopped
    generalize endRestFlush (restFlushOver i s) = u at *
    have wanted : (finish u).fan.wanted = .halt := by
      obtain ⟨-, -, -, -, -, -, -, -, -, -, -, -, -, -, -, -, -, -, -, -, -, -, -, wanted, -⟩ := entered
      exact wanted
    obtain ⟨leaves, others, replacement, fields⟩ := flushed
    refine ⟨entered, wanted, fun ⟨mark, hopen, room, fresh⟩ => ?_, fun mark => ?_⟩
    · rw [finish_line, line, if_pos mark]
      have count : v.line.faultCount < 32 := by rw [fields]; exact hopen
      have none_ (x : TxEntry) (hx : x ∈ v.line.txq) : x.cls ≠ .house := by
        cases leave : isLeave x with
        | true => rw [isLeave_cls leave]; decide
        | false =>
          have other : x ∈ s.line.txq.filter fun e => !isLeave e :=
            others ▸ List.mem_filter.mpr ⟨hx, by rw [leave]; rfl⟩
          exact fresh x (List.mem_filter.mp other).1
      exact queueNotice_stands count (Nat.lt_of_le_of_lt length room) none_
    · rw [finish_line, line, if_neg (by simp [mark])]
      exact ⟨leaves, others, replacement, fields⟩
  case restSent =>
    intro t s e hp he resting flushing one hr hw
    refine ⟨finish (endCleanSend (advanceTo t s)), rfl, ?_⟩
    rw [endCleanSend_settles (e := e) (by simpa using hp) (by simpa [onLineEntry] using he)]
    have frame := cleanReported_frame (e := e) (s := advanceTo t s) (by simp [resting])
    have line := cleanReported_line e (advanceTo t s)
    rw [advanceTo_line] at line
    generalize cleanReported e (advanceTo t s) = v at *
    obtain ⟨⟨mode, demand, wanted, stopped, running⟩, line', within⟩ := sendStopsFlush frame resting flushing hw
      (by rw [line]; exact withoutClass_only one) (by rw [line]; exact hr)
    generalize settleFlush (takeReplacement v) = u at *
    rw [line] at line'
    refine ⟨mode, demand, wanted, stopped, running, ?_, ?_, within⟩
    · rw [finish_line, line']
      exact withoutClass_only one
    · rw [finish_line, line']
  case restSentWake =>
    intro t s e w hp he resting flushing one hr hw
    refine ⟨finish (endCleanSend (advanceTo t s)), rfl, ?_⟩
    rw [endCleanSend_settles (e := e) (by simpa using hp) (by simpa [onLineEntry] using he)]
    have frame := cleanReported_frame (e := e) (s := advanceTo t s) (by simp [resting])
    have line := cleanReported_line e (advanceTo t s)
    rw [advanceTo_line] at line
    generalize cleanReported e (advanceTo t s) = v at *
    obtain ⟨entered, count, queue⟩ := sendWakesFlush frame resting flushing hw
      (by rw [line]; exact withoutClass_only one) (by rw [line]; exact hr)
    rw [line] at count queue
    exact ⟨entered, count, queue⟩
  case setupSent =>
    intro t s e hp he mode flushing leave hr
    refine ⟨finish (endCleanSend (advanceTo t s)), rfl, ?_⟩
    rw [endCleanSend_settles (e := e) (by simpa using hp) (by simpa [onLineEntry] using he)]
    have cls := isLeave_cls leave
    have frame := cleanReported_phase (e := e) (s := advanceTo t s) cls (by simp [mode])
    have line := cleanReported_line e (advanceTo t s)
    rw [advanceTo_line] at line
    generalize cleanReported e (advanceTo t s) = v at *
    obtain ⟨gone, count, quiet, asked⟩ := sendEndsSetupFlush frame mode flushing
      (noLeave_without (by rw [line]; exact fun x hx => cls ▸ (mem_withoutClass.mp hx).2)) (by rw [line]; exact hr)
    rw [line] at count
    exact ⟨gone, count, quiet, asked⟩
  case restLost =>
    intro t s e hp he resting flushing one hr lost hw shaped counts
    obtain ⟨mem, on⟩ := onLineEntry_some he
    refine ⟨finish (failSend (advanceTo t s)), rfl, ?_⟩
    rw [failSend_settles hp he]
    have frame := errorCharged_frame e t s
    have queue := errorCharged_emptied (t := t) lost one
    have count := errorCharged_faultCount (e := e) (t := t) (s := s)
    have drops := errorCharged_drops (t := t) mem on lost one hr shaped counts
    obtain ⟨⟨mode, demand, wanted, stopped, running⟩, line, within⟩ := sendStopsFlush frame resting flushing hw queue
      (errorCharged_replacement hr)
    generalize settleFlush (takeReplacement (errorCharged e t s)) = u at *
    rw [← line] at queue count drops
    exact ⟨mode, demand, wanted, stopped, running, drops, queue, count, within⟩
  case restLostWake =>
    intro t s e w hp he resting flushing one hr lost hw
    refine ⟨finish (failSend (advanceTo t s)), rfl, ?_⟩
    rw [failSend_settles hp he]
    obtain ⟨entered, count, queue⟩ := sendWakesFlush (errorCharged_frame e t s) resting flushing hw
      (errorCharged_emptied lost one) (errorCharged_replacement hr)
    rw [errorCharged_faultCount] at count queue
    exact ⟨entered, count, queue⟩
  case setupLost =>
    intro t s e hp he mode flushing leave hr lost
    refine ⟨finish (failSend (advanceTo t s)), rfl, ?_⟩
    have cls := isLeave_cls leave
    rw [failSend_settles hp he]
    obtain ⟨gone, count, quiet, asked⟩ := sendEndsSetupFlush (errorCharged_phase (t := t) (s := s) cls) mode flushing
      (noLeave_without fun x hx => cls ▸ (errorCharged_mem lost hx).2) (errorCharged_noLeave hr)
    rw [errorCharged_faultCount] at count
    exact ⟨gone, count, quiet, asked⟩

end Sys2Proof.Laws
end

section
/-! ## The button and the timers of the demand unit (R153 to R155, R157, R160, R162, R163) -/

namespace Sys2Proof.Laws

open Sys2Proof.Machine Sys2Proof.Safety

/-! ### The press and the release (R154, R155) -/

/-- Outside REST a press is timed, and one while another is held has no effect (R155). -/
theorem pressButton_awake {s : State} (h : s.mode.mode ≠ .rest) : pressButton s =
    s.withDemand { s.demand with button := some (s.demand.button.getD { since := s.time.now, timed := true }) } := by
  cases hb : s.demand.button with
  | none => simp [pressButton, hb, h]
  | some p =>
    have same : { s.demand with button := some p } = s.demand := by rw [← hb]
    simp only [pressButton, hb, Option.isSome_some, if_true, Option.getD_some, same]
    rfl

/-- The press of a wake that is held (R162). -/
theorem takeWake_pressed {s : State} (h : s.demand.flush.isSome = true) :
    takeWake .press true s = s.withDemand { s.demand with
      heldWake := some { cause := (s.demand.heldWake.map fun w => w.cause).getD .press, mark := true } } := by
  rw [takeWake, if_pos h, holdWake]
  cases s.demand.heldWake <;> simp

/-- The demand unit after a release (R153, R154, R155). -/
theorem releaseButton_demand {s : State} {p : Press} (h : s.demand.button = some p) :
    (releaseButton s).demand =
      (if (p.timed = true ∧ (s.mode.mode = .run ∨ s.mode.mode = .join)) ∧ Count.since s.time.now p.since < 2048 then
        { s.demand with button := none, buttonBoost := some (Count.later s.time.now (runOnLength s)) }
      else if (p.timed = true ∧ (s.mode.mode = .run ∨ s.mode.mode = .join)) ∧
          3072 ≤ Count.since s.time.now p.since ∧ Count.since s.time.now p.since < 9216 then
        { s.demand with button := none, buttonBoost := none, humidity := .off, runOn := none }
      else { s.demand with button := none }) := by
  simp only [releaseButton, h]
  by_cases judged : p.timed = true ∧ (s.mode.mode = .run ∨ s.mode.mode = .join)
  · rw [if_pos judged, releaseEffect]
    simp only [judged, true_and]
    by_cases short : Count.since s.time.now p.since < 2048
    · rw [if_pos short, if_pos short]
      rfl
    · rw [if_neg short, if_neg short]
      split <;> rfl
  · rw [if_neg judged, if_neg fun h => judged h.1, if_neg fun h => judged h.1]
    rfl

theorem releaseButton_frame (s : State) : othersKept [.demand] s (releaseButton s) := by
  unfold releaseButton
  split
  · exact othersKept_refl _ s
  · dsimp only
    split
    · unfold releaseEffect
      split
      · exact othersKept_trans (withDemand_frame s _) (withDemand_frame _ _)
      · split
        · exact othersKept_trans (withDemand_frame s _) (withDemand_frame _ _)
        · exact withDemand_frame s _
    · exact withDemand_frame s _

theorem runOnLength_eq (s : State) :
    runOnLength s = if paramNat s 6 = 0 then 20 * 61440 else paramNat s 6 * 61440 := rfl

theorem runOnLength_advanceTo (t : Count) (s : State) : runOnLength (advanceTo t s) = runOnLength s := by
  rw [runOnLength, runOnLength, paramNat_congr (v := advanceTo t s) (s := s) (by rw [advanceTo_svc])]

/-! ### The REST flush (R160, R163) -/

/-- The end of the REST flush, with or without a wake held. -/
theorem endRestFlush_demand {s v : State} (h : othersKept [.time, .line] s v) (resting : s.mode.mode = .rest) :
    (endRestFlush v).demand.flush = none ∧ (endRestFlush v).demand.heldWake = none ∧
      (endRestFlush v).demand.slot = s.demand.slot ∧ (endRestFlush v).fan.wanted = .halt ∧
      (endRestFlush v).fan.restart = false ∧
      (endRestFlush v).mode.mode = (if s.demand.heldWake.isSome then .join else .rest) := by
  have demand : v.demand = s.demand := h .demand (by decide)
  have mode : (flushStopped v).mode = s.mode := (flushStopped_frame v .mode (by decide)).trans (h .mode (by decide))
  have stopped := flushStopped_demand v
  obtain ⟨wanted, restart⟩ := modeStop_wanted (v.withDemand { v.demand with flush := none, heldWake := none })
  rw [← flushStopped] at wanted restart
  rw [demand] at stopped
  cases hw : s.demand.heldWake with
  | none =>
    have ended : endRestFlush v = flushStopped v := endRestFlush_without_wake (by rw [demand]; exact hw)
    rw [ended, stopped, mode]
    exact ⟨rfl, rfl, rfl, wanted, restart, resting⟩
  | some w =>
    rw [endRestFlush_with_wake (by rw [demand]; exact hw)]
    have within := wakeStation_within w.mark (flushStopped v)
    have demand' := (within .demand (by decide)).trans (joinEntry_demand _)
    have fan := (within .fan (by decide)).trans (joinEntry_fan _)
    have mode' : (wakeStation w.mark (flushStopped v)).mode.mode = .join := by
      rw [within .mode (by decide), joinEntry_mode]
    generalize wakeStation w.mark (flushStopped v) = u at *
    rw [demand', fan, stopped]
    exact ⟨rfl, rfl, rfl, rfl, restart, mode'⟩

/-- Settles O59. -/
theorem buttonAndDemandTimers : Obligations.ButtonAndDemandTimers := by
  refine ⟨?press, ?pressInFlush, ?release, ?boost, ?runOn, ?hold, ?flush, ?timer⟩
  case press =>
    intro t s awake
    refine ⟨finish (pressButton (advanceTo t s)), rfl, ?_⟩
    rw [pressButton_awake (by simpa using awake)]
    exact ⟨by rw [finish_demand, State.withDemand_demand, advanceTo_demand], finish_within (withDemand_frame _ _)⟩
  case pressInFlush =>
    intro t s resting flushing free
    refine ⟨finish (pressButton (advanceTo t s)), rfl, ?_⟩
    rw [pressButton_resting (by simpa using resting) (by simpa using free),
      takeWake_pressed (by simpa [pressTaken] using flushing)]
    exact ⟨by simp [pressTaken], finish_within (othersKept_append (pressTaken_frame _) (withDemand_frame _ _))⟩
  case release =>
    intro t s p held
    refine ⟨finish (releaseButton (advanceTo t s)), rfl, ?_, finish_within (releaseButton_frame _)⟩
    rw [finish_demand, releaseButton_demand (by simpa using held), runOnLength_advanceTo, advanceTo_demand, advanceTo_mode]
    rfl
  case boost =>
    intro s i h
    have ends : endButtonBoost s = (advanceTo i s).withDemand { s.demand with buttonBoost := none } := by
      simp [endButtonBoost, h]
    refine ⟨finish (endButtonBoost s), rfl, ?_⟩
    rw [ends]
    exact ⟨rfl, finish_within (withDemand_frame _ _)⟩
  case runOn =>
    intro s i h
    have ends : endRunOn s = (advanceTo i s).withDemand { s.demand with runOn := none, humidity := .off } := by
      simp [endRunOn, h]
    refine ⟨finish (endRunOn s), rfl, ?_⟩
    rw [ends]
    exact ⟨rfl, finish_within (withDemand_frame _ _)⟩
  case hold =>
    intro s x i h hi
    have ends : endHold s = (advanceTo i s).withDemand { s.demand with slot := none } := by simp [endHold, h, hi]
    refine ⟨finish (endHold s), rfl, ?_⟩
    rw [ends]
    exact ⟨rfl, finish_within (withDemand_frame _ _)⟩
  case flush =>
    intro s i resting hi
    refine ⟨finish (restFlushEnds s), rfl, ?_⟩
    rw [restFlushEnds_of resting hi]
    exact endRestFlush_demand (restFlushOver_frame i s) resting
  case timer =>
    intro s i resting hi flushing
    refine ⟨finish (restTimerEnds s), rfl, ?_⟩
    rw [restTimerEnds_of resting hi, takeWake_flushing _ (by simpa using flushing)]
    exact ⟨rfl, finish_within (othersKept_append (withDemand_frame _ _) (withDemand_frame _ _))⟩

end Sys2Proof.Laws
end

section
/-! ## The filter evaluation and the filter hours (R84 to R86, R108 to R110, R169 to R173) -/

namespace Sys2Proof.Laws

open Sys2Proof.Machine Sys2Proof.Safety

/-! ### The filter state (R172) -/

/-- A run count that is not kept is 0, so the highest state with a count of 30 needs no look at the state in force. -/
theorem risenState_eq {st : FilterState} {loaded change blocked : Nat} (hl : above .loaded st = false → loaded = 0)
    (hc : above .change st = false → change = 0) (hb : above .blocked st = false → blocked = 0) :
    risenState st loaded change blocked =
      if blocked = 30 then .blocked else if change = 30 then .change else if loaded = 30 then .loaded else st := by
  have kept {a : Bool} {n : Nat} (h : a = false → n = 0) : (a = true ∧ n = 30) ↔ n = 30 :=
    ⟨fun h => h.2, fun hn => ⟨by cases a <;> simp_all, hn⟩⟩
  simp only [risenState, kept hl, kept hc, kept hb]

theorem runCount_not_kept {kept : Bool} {l t n : Nat} (h : kept = false) : runCount kept l t n = 0 := by
  simp [runCount, h]

theorem risenState_ge (st : FilterState) (loaded change blocked : Nat) :
    filterCode st ≤ filterCode (risenState st loaded change blocked) := by
  unfold risenState above
  split
  next h => exact Nat.le_of_lt (of_decide_eq_true h.1)
  · split
    next h => exact Nat.le_of_lt (of_decide_eq_true h.1)
    · split
      next h => exact Nat.le_of_lt (of_decide_eq_true h.1)
      · exact Nat.le_refl _

theorem thresholds_of {s : State} (h : param s 7 = 0 ∨ param s 7 = 1) : thresholds s =
    (if param s 7 = 0 then 200 else 150, if param s 7 = 0 then 450 else 350, if param s 7 = 0 then 700 else 600) := by
  have class_ : paramNat s 7 = 0 ↔ param s 7 = 0 := by
    rw [paramNat]
    omega
  unfold thresholds
  simp only [class_]
  split <;> rfl

theorem above_loaded (st : FilterState) : above .loaded st = decide (st = .clean) := by cases st <;> rfl
theorem above_change (st : FilterState) : above .change st = decide (st = .clean ∨ st = .loaded) := by cases st <;> rfl
theorem above_blocked (st : FilterState) : above .blocked st = decide (st ≠ .blocked) := by cases st <;> rfl

/-! ### The evaluation applied (R169 to R171) -/

section
variable (x : FilterPair) (s : State)

/-- The engine freed, and the loadings and ceilings of the pair written; while learning all loadings are 0. -/
def filterLoaded : State :=
  match s.filt.learning with
  | some _ => writeLoadings 0 0 (s.withUnit { s.unit with engine := .free })
  | none => writeLoadings (loadingOf x.ratioIn s.filt.refIn) (loadingOf x.ratioOut s.filt.refOut)
      (s.withUnit { s.unit with engine := .free })

/-- The filter block learns the pair while it is learning (R170). -/
def pairLearned (x : FilterPair) (s : State) : State :=
  match s.filt.learning with
  | some n => learnPair n x s
  | none => s

/-- The evaluation applied as far as it does not touch C. -/
def filterWritten : State := pairLearned x (judgeFilter (filterLoaded x s))

theorem filterLoaded_frame : othersKept [.unit, .filt] s (filterLoaded x s) := by
  unfold filterLoaded
  split <;> exact othersKept_append (withUnit_frame s _) (withFilt_frame _ _)

theorem filterLoaded_unit : (filterLoaded x s).unit = { s.unit with engine := .free } := by
  unfold filterLoaded
  split <;> rfl

/-- What the loadings leave of the filter block. -/
theorem filterLoaded_filt : (filterLoaded x s).filt = { s.filt with
    loadIn := (filterLoaded x s).filt.loadIn, loadOut := (filterLoaded x s).filt.loadOut
    loading := (filterLoaded x s).filt.loading, wind := (filterLoaded x s).filt.wind
    ceilIn := (filterLoaded x s).filt.ceilIn, ceilOut := (filterLoaded x s).filt.ceilOut } := by
  unfold filterLoaded
  split <;> rfl

theorem judgeFilter_filt : (judgeFilter s).filt = judgedFilter s := by
  rw [judgeFilter_eq]
  split
  · rfl
  · rw [requestWrite_frame _ .filt (by decide)]
    rfl

theorem judgeFilter_frame : othersKept [.filt, .svc] s (judgeFilter s) := by
  rw [judgeFilter_eq]
  split
  · exact othersKept_mono (withFilt_frame s _) (by decide)
  · exact othersKept_append (withFilt_frame s _) (requestWrite_frame _)

/-- A rise of the filter state asks for a store write (R172). -/
theorem judgeFilter_writing (h : (judgedFilter s).state ≠ s.filt.state) :
    (judgeFilter s).svc.writing.isSome = true ∧ (judgeFilter s).svc.params = s.svc.params := by
  rw [judgeFilter_eq, if_neg h]
  exact ⟨requestWrite_writing _, requestWrite_params _⟩

theorem judgeFilter_params : (judgeFilter s).svc.params = s.svc.params := by
  rw [judgeFilter_eq]
  split
  · rfl
  · exact requestWrite_params _

theorem pairLearned_frame : othersKept [.filt] s (pairLearned x s) := by
  unfold pairLearned learnPair
  split
  · split <;> exact withFilt_frame s _
  · exact othersKept_refl _ s

/-- Learning moves its count, the sums and the references alone (R170). -/
theorem pairLearned_filt : (pairLearned x s).filt = { s.filt with
    learning := (pairLearned x s).filt.learning, refIn := (pairLearned x s).filt.refIn
    refOut := (pairLearned x s).filt.refOut, sumIn := (pairLearned x s).filt.sumIn
    sumOut := (pairLearned x s).filt.sumOut } := by
  unfold pairLearned learnPair
  split
  · split <;> rfl
  · rfl

theorem judgedFilter_learning : (judgedFilter s).learning = s.filt.learning ∧
    (judgedFilter s).refIn = s.filt.refIn ∧ (judgedFilter s).refOut = s.filt.refOut ∧
    (judgedFilter s).sumIn = s.filt.sumIn ∧ (judgedFilter s).sumOut = s.filt.sumOut ∧
    (judgedFilter s).loadIn = s.filt.loadIn ∧ (judgedFilter s).loadOut = s.filt.loadOut ∧
    (judgedFilter s).loading = s.filt.loading ∧ (judgedFilter s).wind = s.filt.wind ∧
    (judgedFilter s).ceilIn = s.filt.ceilIn ∧ (judgedFilter s).ceilOut = s.filt.ceilOut ∧
    (judgedFilter s).hours = s.filt.hours := ⟨rfl, rfl, rfl, rfl, rfl, rfl, rfl, rfl, rfl, rfl, rfl, rfl⟩

theorem filterWritten_frame : othersKept [.unit, .filt, .svc] s (filterWritten x s) :=
  othersKept_mono (othersKept_append (filterLoaded_frame x s) (othersKept_append (judgeFilter_frame _)
    (pairLearned_frame x _))) (by decide)

theorem filterWritten_unit : (filterWritten x s).unit = { s.unit with engine := .free } :=
  (pairLearned_frame x _ .unit (by decide)).trans ((judgeFilter_frame _ .unit (by decide)).trans (filterLoaded_unit x s))

theorem filterWritten_params : (filterWritten x s).svc.params = s.svc.params := by
  rw [filterWritten, pairLearned_frame _ _ .svc (by decide), judgeFilter_params, filterLoaded_frame _ _ .svc (by decide)]

variable {x s}

theorem completeFilter_applies {a : Count} {ms : Nat} (h : s.unit.engine = .filter x a ms false) :
    completeFilter s = recomputeCeil (filterWritten x s) := by
  have same : (judgeFilter (filterLoaded x s)).filt.learning = s.filt.learning := by
    rw [judgeFilter_filt, (judgedFilter_learning _).1, filterLoaded_filt]
  rw [completeFilter_of h, if_neg Bool.false_ne_true, applyFilter, filterWritten, pairLearned, same, filterLoaded]
  cases hl : s.filt.learning <;> simp only [State.withUnit_filt, hl]

/-- With the learning over the pair is judged against the references (R169, R171). -/
theorem filterWritten_judged (h : s.filt.learning = none) :
    (filterWritten x s).filt = judgedFilter (filterLoaded x s) ∧
      filterLoaded x s = writeLoadings (loadingOf x.ratioIn s.filt.refIn) (loadingOf x.ratioOut s.filt.refOut)
        (s.withUnit { s.unit with engine := .free }) := by
  have same : (judgeFilter (filterLoaded x s)).filt.learning = none := by
    rw [judgeFilter_filt, (judgedFilter_learning _).1, filterLoaded_filt]
    exact h
  refine ⟨?_, by rw [filterLoaded, h]⟩
  rw [filterWritten, pairLearned, same]
  exact judgeFilter_filt _

/-- While learning the pair goes into the sums (R170). -/
theorem filterWritten_learns {n : Nat} (h : s.filt.learning = some n) :
    (filterWritten x s).filt = (learnPair n x (judgeFilter (filterLoaded x s))).filt ∧
      filterLoaded x s = writeLoadings 0 0 (s.withUnit { s.unit with engine := .free }) := by
  have same : (judgeFilter (filterLoaded x s)).filt.learning = some n := by
    rw [judgeFilter_filt, (judgedFilter_learning _).1, filterLoaded_filt]
    exact h
  refine ⟨?_, by rw [filterLoaded, h]⟩
  rw [filterWritten, pairLearned, same]

/-- Of the judged filter block learning leaves the state, the counts, the loadings and the ceilings. -/
theorem filterWritten_state : (filterWritten x s).filt.state = (judgedFilter (filterLoaded x s)).state ∧
    (filterWritten x s).filt.runLoaded = (judgedFilter (filterLoaded x s)).runLoaded ∧
    (filterWritten x s).filt.runChange = (judgedFilter (filterLoaded x s)).runChange ∧
    (filterWritten x s).filt.runBlocked = (judgedFilter (filterLoaded x s)).runBlocked ∧
    (filterWritten x s).filt.loading = (filterLoaded x s).filt.loading := by
  rw [filterWritten, pairLearned_filt, judgeFilter_filt]
  exact ⟨rfl, rfl, rfl, rfl, rfl⟩

end

/-! ### The hours (R173) -/

/-- The state with the time block `b` and an hour more. -/
def hourCounted (b : TimeBase) (s : State) : State :=
  (s.withTime b).withFilt { (s.withTime b).filt with hours := bump16 (s.withTime b).filt.hours }

theorem hourCounted_filt (b : TimeBase) (s : State) :
    (hourCounted b s).filt = { s.filt with hours := min (s.filt.hours + 1) 65535 } := rfl

theorem hourCounted_time (b : TimeBase) (s : State) : (hourCounted b s).time = b := rfl

theorem hourCounted_frame (b : TimeBase) (s : State) : othersKept [.time, .filt] s (hourCounted b s) :=
  othersKept_append (withTime_frame s b) (withFilt_frame _ _)

theorem addFilterHour_of {s : State} (h : hourCounts ≤ s.time.fanTime) : addFilterHour s =
    compareHours (hourCounted { s.time with fanTime := s.time.fanTime - hourCounts } s) :=
  if_pos h

theorem compareHours_frame (s : State) : othersKept [.filt, .svc] s (compareHours s) := by
  by_cases h : hoursDue s
  · rw [compareHours_due s h]
    exact othersKept_append (withFilt_frame s _) (requestWrite_frame _)
  · rw [compareHours_notDue s h]
    exact othersKept_refl _ s

theorem compareHours_filt (s : State) : (compareHours s).filt =
    if paramNat s 8 * 100 ≤ s.filt.hours ∧ (s.filt.state = .clean ∨ s.filt.state = .loaded) then
      { s.filt with state := .change, runLoaded := 0, runChange := 0 } else s.filt := by
  by_cases h : hoursDue s
  · rw [compareHours_due s h, if_pos (show _ ∧ _ from h), requestWrite_frame _ .filt (by decide)]
    rfl
  · rw [compareHours_notDue s h, if_neg (show ¬ (_ ∧ _) from h)]

theorem compareHours_writing {s : State} (h : (compareHours s).filt.state ≠ s.filt.state) :
    (compareHours s).svc.writing.isSome = true := by
  by_cases due : hoursDue s
  · rw [compareHours_due s due]
    exact requestWrite_writing _
  · rw [compareHours_notDue s due] at h
    exact absurd rfl h

/-! ### C after the evaluation (R84, R85, R108 to R110) -/

theorem capped_eq (cap : Option Nat) (c : Nat) : capped cap c = min (cap.getD c) c := by
  cases cap with
  | none => exact (Nat.min_self c).symm
  | some x => rfl

theorem trimmed_iff (st : FrostStage) : trimmed st = true ↔ st = .trim ∨ st = .claiming := by
  simp [trimmed]

end Sys2Proof.Laws
end

section
/-! ## The filter supervisor's evaluation and hours settle their statement (R84 to R86, R108 to R110, R169 to R173) -/

namespace Sys2Proof.Laws

open Sys2Proof.Machine Sys2Proof.Safety

section
variable {x : FilterPair} {s : State}

theorem param_congr {s v : State} (h : v.svc.params = s.svc.params) (i : Fin 21) : param v i = param s i := by
  rw [param, param, h]

/-- The ceiling of the direction of `s` under its cap, from the filter ceilings of `v` in a frost stage (R4, R108). -/
def ceilingIn (s v : State) (st : FrostStage) : Nat :=
  match s.own.direction with
  | .halt => 0
  | .inward =>
    let n := if st = .trim ∨ st = .claiming then v.filt.ceilIn * paramNat s 9 / 100 else v.filt.ceilIn
    min (s.fan.cap.getD n) n
  | .outward => min (s.fan.cap.getD v.filt.ceilOut) v.filt.ceilOut

theorem ceilNow_of {s v : State} (direction : v.own.direction = s.own.direction) (fan : v.fan = s.fan)
    (params : v.svc.params = s.svc.params) : ceilNow v = ceilingIn s v v.frost.stage := by
  unfold ceilNow ceilingFor trimmedCeil ceilingIn
  rw [direction, fan, paramNat_congr params]
  cases s.own.direction
  · simp only [sideOf, capped_eq, trimmed_iff]
  · simp only [sideOf, capped_eq]
  · rfl

end

/-- Settles O58: the evaluation is the loadings, the judged filter state and the learning, with C recomputed after. -/
theorem filterEvaluationAndHours : Obligations.FilterEvaluationAndHours := by
  refine ⟨?judged, ?learns, ?state, ?ceiling, ?hours⟩
  case judged =>
    intro t s x a ms busy learned refIn refOut
    refine ⟨finish (completeFilter (advanceTo t s)), rfl, ?_⟩
    rw [completeFilter_applies (by simpa using busy)]
    obtain ⟨filt, loaded⟩ := filterWritten_judged (x := x) (s := advanceTo t s) (by simpa using learned)
    have frame := filterWritten_frame x (advanceTo t s)
    have unit := filterWritten_unit x (advanceTo t s)
    have ge := risenState_ge (filterLoaded x (advanceTo t s)).filt.state
    generalize filterWritten x (advanceTo t s) = v at *
    have after := recomputeCeil_frame v
    have base := (recomputeCeil_handsOn (s := v)).unit
    generalize recomputeCeil v = u at *
    have filt' : (finish u).filt = _ := (after .filt (by decide)).trans filt
    have engine : (finish u).unit.engine = .free := by
      have e := congrArg CalcUnit.engine base
      rw [unit] at e
      exact e
    rw [loaded] at ge filt'
    have zero {r : Nat} (h : 0 < r) : ¬ r = 0 := Nat.pos_iff_ne_zero.mp h
    have loadIn : loadingOf x.ratioIn s.filt.refIn = min ((x.ratioIn - s.filt.refIn) * 1000 / s.filt.refIn) 1000 :=
      if_neg (zero refIn)
    have loadOut : loadingOf x.ratioOut s.filt.refOut = min ((x.ratioOut - s.filt.refOut) * 1000 / s.filt.refOut) 1000 :=
      if_neg (zero refOut)
    rw [advanceTo_filt, loadIn, loadOut] at filt' ge
    rw [filt']
    exact ⟨rfl, rfl, rfl, rfl, rfl, rfl, by simp [judgedFilter, writeLoadings], by simp [judgedFilter, writeLoadings],
      by simp [judgedFilter, writeLoadings], by simpa [judgedFilter, writeLoadings] using ge _ _ _, engine,
      finish_within (othersKept_append frame after)⟩
  case learns =>
    intro t s x a ms n busy learning
    refine ⟨finish (completeFilter (advanceTo t s)), rfl, ?_⟩
    rw [completeFilter_applies (by simpa using busy)]
    obtain ⟨filt, loaded⟩ := filterWritten_learns (x := x) (s := advanceTo t s) (n := n) (by simpa using learning)
    have unit := filterWritten_unit x (advanceTo t s)
    have judged : (judgeFilter (filterLoaded x (advanceTo t s))).filt = judgedFilter (filterLoaded x (advanceTo t s)) :=
      judgeFilter_filt _
    have sums := judgedFilter_learning (filterLoaded x (advanceTo t s))
    rw [← judged, loaded] at sums
    rw [loaded] at filt
    generalize judgeFilter (writeLoadings 0 0 _) = w at filt sums
    generalize filterWritten x (advanceTo t s) = v at *
    have after := recomputeCeil_frame v
    have base := (recomputeCeil_handsOn (s := v)).unit
    generalize recomputeCeil v = u at *
    have filt' : (finish u).filt = _ := (after .filt (by decide)).trans filt
    have engine : (finish u).unit.engine = .free := by
      have e := congrArg CalcUnit.engine base
      rw [unit] at e
      exact e
    obtain ⟨-, refIn, -, sumIn, sumOut, -, -, loading, wind, ceilIn, ceilOut, -⟩ := sums
    simp only [writeLoadings, State.withFilt_filt, State.withUnit_filt, advanceTo_filt] at refIn sumIn sumOut loading wind ceilIn ceilOut
    have kept : (finish u).filt.loading = 0 ∧ (finish u).filt.wind = 0 ∧ (finish u).filt.ceilIn = 120 ∧
        (finish u).filt.ceilOut = 120 := by
      rw [filt', learnPair]
      split <;> exact ⟨loading, wind, ceilIn, ceilOut⟩
    obtain ⟨loading', wind', ceilIn', ceilOut'⟩ := kept
    refine ⟨loading', wind', ceilIn', ceilOut', fun early => ?_, fun late => ?_, engine⟩
    · have more : n + 1 < 4 := by omega
      rw [filt', learnPair, if_pos more, ← refIn, ← sumIn, ← sumOut]
      exact ⟨rfl, rfl, rfl, rfl⟩
    · have last : ¬ n + 1 < 4 := by omega
      rw [filt', learnPair, if_neg last, ← sumIn, ← sumOut]
      exact ⟨rfl, rfl, rfl⟩
  case state =>
    intro t s x a ms busy class_
    refine ⟨finish (completeFilter (advanceTo t s)), rfl, ?_⟩
    rw [completeFilter_applies (by simpa using busy)]
    have loadedFrame := filterLoaded_frame x (advanceTo t s)
    have params : param (filterLoaded x (advanceTo t s)) 7 = param s 7 :=
      param_congr (by rw [loadedFrame .svc (by decide), advanceTo_svc]) 7
    have limits := thresholds_of (s := filterLoaded x (advanceTo t s)) (by rw [params]; exact class_)
    rw [params] at limits
    have before := filterLoaded_filt x (advanceTo t s)
    obtain ⟨state, runLoaded, runChange, runBlocked, loading⟩ := filterWritten_state (x := x) (s := advanceTo t s)
    have writing : (judgedFilter (filterLoaded x (advanceTo t s))).state ≠ (filterLoaded x (advanceTo t s)).filt.state →
        (filterWritten x (advanceTo t s)).svc.writing.isSome = true := fun h => by
      rw [filterWritten, pairLearned_frame _ _ .svc (by decide)]
      exact (judgeFilter_writing _ h).1
    generalize filterLoaded x (advanceTo t s) = w at *
    have st : w.filt.state = s.filt.state := by rw [before, advanceTo_filt]
    have nl : w.filt.runLoaded = s.filt.runLoaded := by rw [before, advanceTo_filt]
    have nc : w.filt.runChange = s.filt.runChange := by rw [before, advanceTo_filt]
    have nb : w.filt.runBlocked = s.filt.runBlocked := by rw [before, advanceTo_filt]
    generalize filterWritten x (advanceTo t s) = v at *
    have after := recomputeCeil_frame v
    generalize recomputeCeil v = u at *
    have filt' : (finish u).filt = v.filt := after .filt (by decide)
    have svc' : (finish u).svc = v.svc := after .svc (by decide)
    rw [filt', svc']
    clear filt' svc' before
    simp only [judgedFilter, limits, st, nl, nc, nb, ← loading] at state runLoaded runChange runBlocked writing
    intro coarse count loaded change blocked risen
    have hl : runCount (above .loaded s.filt.state) v.filt.loading (if param s 7 = 0 then 200 else 150) s.filt.runLoaded =
        loaded := by rw [above_loaded]; rfl
    have hc : runCount (above .change s.filt.state) v.filt.loading (if param s 7 = 0 then 450 else 350) s.filt.runChange =
        change := by rw [above_change]; rfl
    have hb : runCount (above .blocked s.filt.state) v.filt.loading (if param s 7 = 0 then 700 else 600) s.filt.runBlocked =
        blocked := by rw [above_blocked]; rfl
    have hr := risenState_eq (st := s.filt.state) (loaded := loaded) (change := change) (blocked := blocked)
      (fun no => by rw [← hl]; exact runCount_not_kept no) (fun no => by rw [← hc]; exact runCount_not_kept no)
      (fun no => by rw [← hb]; exact runCount_not_kept no)
    have hr : risenState s.filt.state loaded change blocked = risen := hr
    rw [hl, hc, hb, hr] at state runLoaded runChange runBlocked writing
    have zeroL : above .loaded s.filt.state = false → loaded = 0 := fun no => by rw [← hl]; exact runCount_not_kept no
    have zeroC : above .change s.filt.state = false → change = 0 := fun no => by rw [← hc]; exact runCount_not_kept no
    have zeroB : above .blocked s.filt.state = false → blocked = 0 := fun no => by rw [← hb]; exact runCount_not_kept no
    have highest := risenState_ge s.filt.state loaded change blocked
    rw [hr] at highest
    clear_value loaded change blocked risen
    clear hl hc hb hr limits count coarse
    refine ⟨state, fun same => ?_, fun rose => ?_⟩
    · rw [runLoaded, runChange, runBlocked, same]
      refine ⟨?_, ?_, ?_⟩
      · split
        · rfl
        next no => exact (zeroL (by simpa using no)).symm
      · split
        · rfl
        next no => exact (zeroC (by simpa using no)).symm
      · split
        · rfl
        next no => exact (zeroB (by simpa using no)).symm
    · rw [runLoaded, runChange, runBlocked]
      refine ⟨writing rose, ?_, ?_, ?_⟩
      · cases risen <;> rfl
      · cases risen
        case clean => cases hs : s.filt.state <;> simp [hs, filterCode] at highest rose
        all_goals rfl
      · cases risen
        case clean => cases hs : s.filt.state <;> simp [hs, filterCode] at highest rose
        all_goals rfl
  case ceiling =>
    intro t s x a ms busy run
    refine ⟨finish (completeFilter (advanceTo t s)), rfl, ?_⟩
    rw [completeFilter_applies (by simpa using busy)]
    have frame := othersKept_append (advanceTo_frame t s) (filterWritten_frame x (advanceTo t s))
    have unit := filterWritten_unit x (advanceTo t s)
    have params := filterWritten_params x (advanceTo t s)
    rw [advanceTo_svc] at params
    rw [advanceTo_unit] at unit
    have within := filterWritten_frame x (advanceTo t s)
    generalize filterWritten x (advanceTo t s) = v at *
    have own : v.own = s.own := frame .own (by decide)
    have fan : v.fan = s.fan := frame .fan (by decide)
    have line : v.line = s.line := frame .line (by decide)
    have mode : v.mode = s.mode := frame .mode (by decide)
    have rev : v.rev = s.rev := frame .rev (by decide)
    have pass : v.pass = s.pass := frame .pass (by decide)
    have ceil := ceilNow_of (s := s) (v := v) (by rw [own]) fan params
    rw [frame .frost (by decide)] at ceil
    have own' := recomputeCeil_own v
    have change := recomputeCeil_change (s := v) (by rw [mode]; exact run)
    have same : ceilNow v = v.own.ceil → (recomputeCeil v).line = v.line := fun h => by rw [recomputeCeil_of_eq v h]
    obtain ⟨asked, again⟩ := recomputeCeil_asked v
      (again := decide (s.mode.mode = .run ∧ s.rev.gather = none ∧ ceilNow v ≠ s.own.ceil))
      (by rw [mode, rev, own]; exact decide_eq_true_iff)
    have after := recomputeCeil_frame v
    rw [flowUnder, own, mode, pass] at own'
    rw [line, fan, own] at change
    rw [own, line] at same
    rw [pass] at asked again
    rw [unit] at again
    generalize recomputeCeil v = u at *
    have ceil' : (finish u).own.ceil = ceilNow v := by rw [finish_own, own']
    have filt : (finish u).filt = v.filt := after .filt (by decide)
    rw [ceil', filt]
    refine ⟨?_, ?_, fun ⟨h, room, fresh⟩ => change h room fresh, fun h => same h, ⟨?_, ?_⟩,
      finish_within (othersKept_append within after)⟩
    · rw [finish_own, own', ceil]
      rfl
    · rw [finish_own, own']
    · rw [finish_pass, asked]
      cases s.pass.state <;> rfl
    · exact again
  case hours =>
    intro t s due
    refine ⟨finish (addFilterHour (advanceTo t s)), rfl, ?_⟩
    have hour : hourCounts = 3686400 := rfl
    rw [addFilterHour_of (by rw [hour]; exact due), hour]
    have frame := othersKept_append (advanceTo_frame t s) (hourCounted_frame
      { (advanceTo t s).time with fanTime := (advanceTo t s).time.fanTime - 3686400 } (advanceTo t s))
    have time := hourCounted_time
      { (advanceTo t s).time with fanTime := (advanceTo t s).time.fanTime - 3686400 } (advanceTo t s)
    have filt := hourCounted_filt
      { (advanceTo t s).time with fanTime := (advanceTo t s).time.fanTime - 3686400 } (advanceTo t s)
    rw [advanceTo_filt] at filt
    generalize hourCounted _ (advanceTo t s) = w at *
    have params : paramNat w 8 = paramNat s 8 := paramNat_congr (by rw [frame .svc (by decide)]) 8
    have filt' := compareHours_filt w
    have writing := compareHours_writing (s := w)
    have after := compareHours_frame w
    rw [params, filt] at filt'
    rw [filt] at writing
    generalize compareHours w = u at *
    have hours : u.filt.hours = min (s.filt.hours + 1) 65535 := by
      rw [filt']
      split <;> rfl
    refine ⟨hours, ?_, ?_, fun rose => writing rose, ?_, ?_, finish_within (othersKept_append frame after)⟩
    · rw [finish_time, after .time (by decide), time]
    · rw [finish_filt, hours, filt']
      split <;> rfl
    · rw [finish_filt, filt']
      split <;> rfl
    · rw [finish_filt, filt']
      split <;> rfl

end Sys2Proof.Laws
end

section
/-! ## The frost guard stage by stage (R127 to R138) -/

namespace Sys2Proof.Laws

open Sys2Proof.Machine Sys2Proof.Safety

/-! ### A change of stage (R127, R131, R134) -/

/-- The frost block after a change of stage. -/
def movedFrost (st : FrostStage) (f : FrostGuard) : FrostGuard :=
  if f.stage = st then f
  else { f with
    ownClaim := if f.stage = .claiming then .idle else f.ownClaim
    granted := if f.stage = .claiming then false else f.granted
    stage := st, rise := 0, fall := 0, warm := 0
    failed := if st = .noFrost then 0 else f.failed }

theorem movedFrost_of_ne {st : FrostStage} {f : FrostGuard} (h : f.stage ≠ st) : movedFrost st f = { f with
    ownClaim := if f.stage = .claiming then .idle else f.ownClaim
    granted := if f.stage = .claiming then false else f.granted
    stage := st, rise := 0, fall := 0, warm := 0
    failed := if st = .noFrost then 0 else f.failed } := if_neg h

/-- What a change of stage leaves of the frost block. -/
theorem movedFrost_keeps (st : FrostStage) (f : FrostGuard) : (movedFrost st f).stage = st ∧
    (movedFrost st f).severity = f.severity ∧ (movedFrost st f).holdOff = f.holdOff ∧
    (movedFrost st f).postThaw = f.postThaw ∧ (movedFrost st f).failedTotal = f.failedTotal ∧
    (movedFrost st f).cause = f.cause ∧ (st ≠ .noFrost → (movedFrost st f).failed = f.failed) ∧
    (f.granted = false → (movedFrost st f).granted = false) := by
  by_cases h : f.stage = st
  · rw [movedFrost, if_pos h]
    exact ⟨h, rfl, rfl, rfl, rfl, rfl, fun _ => rfl, id⟩
  · rw [movedFrost_of_ne h]
    refine ⟨rfl, rfl, rfl, rfl, rfl, rfl, fun hst => if_neg hst, fun granted => ?_⟩
    rw [granted]
    split <;> rfl

/-- Of the line block the frost guard moves its CLAIM alone, so every CHANGE stays (R131). -/
def changesStay (s v : State) : Prop :=
  v.line.faultCount = s.line.faultCount ∧ v.line.txq.length ≤ s.line.txq.length ∧
    ∀ x, x.cls = .change → (x ∈ v.line.txq ↔ x ∈ s.line.txq)

theorem changesStay_of_eq {s v : State} (h : v.line = s.line) : changesStay s v := by
  rw [changesStay, h]
  exact ⟨rfl, Nat.le_refl _, fun _ _ => Iff.rfl⟩

theorem changesStay.trans {s t v : State} (h : changesStay s t) (h' : changesStay t v) : changesStay s v := by
  obtain ⟨count, length, mem⟩ := h
  obtain ⟨count', length', mem'⟩ := h'
  exact ⟨count'.trans count, Nat.le_trans length' length, fun x hx => (mem' x hx).trans (mem x hx)⟩

/-- A withdrawn class leaves the entries of the other classes as they are (R34). -/
theorem withdrawEntries_other {p : TxEntry → Bool} {q : List TxEntry} {x : TxEntry}
    (h : ∀ y, p y = true → x.cls ≠ y.cls) : x ∈ withdrawEntries p q ↔ x ∈ q := by
  have other : p x = false := Bool.eq_false_iff.mpr fun hp => h x hp rfl
  unfold withdrawEntries
  constructor
  · intro hx
    obtain ⟨y, hy, rfl⟩ := List.mem_map.mp hx
    by_cases hp : p y = true
    · rw [if_pos hp] at h
      exact absurd rfl (h y hp)
    · rw [if_neg hp]
      exact (List.mem_filter.mp hy).1
  · intro hx
    exact List.mem_map.mpr ⟨x, List.mem_filter.mpr ⟨hx, by simp [other]⟩, by simp [other]⟩

section
variable (s : State)

theorem dropClaim_changes : changesStay s (dropClaim s) := by
  rw [changesStay, dropClaim_line]
  obtain ⟨count, -, length⟩ := claimWithdrawn_facts s
  refine ⟨count, length, fun x hx => ?_⟩
  unfold claimWithdrawn
  split
  · refine withdrawEntries_other fun y hy => ?_
    have claim : y.cls = .claim := of_decide_eq_true hy
    rw [hx, claim]
    decide
  · exact Iff.rfl

theorem claimLeft_frost : (claimLeft s).frost =
    if s.frost.stage = .claiming then { s.frost with ownClaim := .idle, granted := false } else s.frost := by
  unfold claimLeft
  split
  · exact dropClaim_frost s
  · rfl

theorem moveStage_frost (st : FrostStage) : (moveStage st s).frost = movedFrost st s.frost := by
  by_cases h : s.frost.stage = st
  · rw [moveStage_of_eq s h, movedFrost, if_pos h]
  · rw [moveStage_of_ne s h, movedFrost_of_ne h, State.withFrost_frost, claimLeft_frost]
    by_cases claiming : s.frost.stage = .claiming
    · simp only [if_pos claiming]
    · simp only [if_neg claiming]

theorem moveStage_changes (st : FrostStage) : changesStay s (moveStage st s) := by
  by_cases h : s.frost.stage = st
  · rw [moveStage_of_eq s h]
    exact changesStay_of_eq rfl
  · rw [moveStage_of_ne s h]
    refine changesStay.trans (t := claimLeft s) ?_ (changesStay_of_eq rfl)
    unfold claimLeft
    split
    · exact dropClaim_changes s
    · exact changesStay_of_eq rfl

/-- Outside CLAIMING a change of stage leaves the line as it is. -/
theorem moveStage_line {st : FrostStage} (h : s.frost.stage ≠ .claiming) : (moveStage st s).line = s.line := by
  by_cases same : s.frost.stage = st
  · rw [moveStage_of_eq s same]
  · rw [moveStage_of_ne s same, State.withFrost_line, claimLeft, if_neg h]

theorem changeStage_frost (st : FrostStage) : (changeStage st s).frost = movedFrost st s.frost :=
  (recomputeCeil_frame _ .frost (by decide)).trans (moveStage_frost s st)

/-! ### The transitions by severity (R130) -/

theorem stageTransition_noFrost (h : s.frost.stage = .noFrost) : (stageTransition s).frost =
    if 1 ≤ s.frost.severity then movedFrost .watch s.frost else s.frost := by
  unfold stageTransition
  rw [h]
  dsimp only
  split
  · exact changeStage_frost s _
  · rfl

theorem stageTransition_watch (h : s.frost.stage = .watch) : (stageTransition s).frost =
    if 2 ≤ s.frost.severity then
      if s.frost.rise + 1 < 2 then { s.frost with rise := s.frost.rise + 1, fall := 0 } else movedFrost .trim s.frost
    else if s.frost.severity = 0 then
      if s.frost.fall + 1 < 2 then { s.frost with rise := 0, fall := s.frost.fall + 1 } else movedFrost .noFrost s.frost
    else { s.frost with rise := 0, fall := 0 } := by
  unfold stageTransition
  rw [h]
  dsimp only
  split
  · split
    · rfl
    · exact changeStage_frost s _
  · split
    · split
      · rfl
      · exact changeStage_frost s _
    · rfl

theorem stageTransition_trim (h : s.frost.stage = .trim) : (stageTransition s).frost =
    if 3 ≤ s.frost.severity then
      if s.frost.rise + 1 < 3 then { s.frost with rise := s.frost.rise + 1, fall := 0 }
      else if s.frost.holdOff = 0 then movedFrost .claiming s.frost
      else { s.frost with rise := 3, fall := 0 }
    else if s.frost.severity ≤ 1 then
      if s.frost.fall + 1 < 2 then { s.frost with rise := 0, fall := s.frost.fall + 1 } else movedFrost .watch s.frost
    else { s.frost with rise := 0, fall := 0 } := by
  unfold stageTransition
  rw [h]
  dsimp only
  split
  · split
    · rfl
    · split
      · exact changeStage_frost s _
      · rfl
  · split
    · split
      · rfl
      · exact changeStage_frost s _
    · rfl

theorem stageTransition_claiming (h : s.frost.stage = .claiming) : (stageTransition s).frost =
    if s.frost.severity < 3 then movedFrost .trim s.frost else s.frost := by
  unfold stageTransition
  rw [h]
  dsimp only
  split
  · exact changeStage_frost s _
  · rfl

/-- The severities at which a stage is left for NONE are below 3, and LOCKOUT is no target (R130). -/
theorem stageTransition_cases :
    (∃ st, st ≠ .lockout ∧ (st = .noFrost → s.frost.severity < 3) ∧ stageTransition s = changeStage st s) ∨
      ∃ n m, stageTransition s = s.withFrost { s.frost with rise := n, fall := m } := by
  have same : ∃ n m, s = s.withFrost { s.frost with rise := n, fall := m } := ⟨s.frost.rise, s.frost.fall, rfl⟩
  unfold stageTransition setRise setFall
  split
  · split
    · exact .inl ⟨.watch, by decide, by simp, rfl⟩
    · exact .inr same
  · split
    · split
      · exact .inr ⟨_, _, rfl⟩
      · exact .inl ⟨.trim, by decide, by simp, rfl⟩
    · split
      · split
        · exact .inr ⟨_, _, rfl⟩
        next mild _ => exact .inl ⟨.noFrost, by decide, fun _ => by omega, rfl⟩
      · exact .inr ⟨_, _, rfl⟩
  · split
    · split
      · exact .inr ⟨_, _, rfl⟩
      · split
        · exact .inl ⟨.claiming, by decide, by simp, rfl⟩
        · exact .inr ⟨_, _, rfl⟩
    · split
      · split
        · exact .inr ⟨_, _, rfl⟩
        · exact .inl ⟨.watch, by decide, by simp, rfl⟩
      · exact .inr ⟨_, _, rfl⟩
  · split
    · exact .inl ⟨.trim, by decide, by simp, rfl⟩
    · exact .inr same
  · exact .inr same
  · exact .inr same

/-- The transition keeps severity, post-thaw window and totals, and clears the failed count only below 3. -/
theorem stageTransition_fields : (stageTransition s).frost.severity = s.frost.severity ∧
    (stageTransition s).frost.postThaw = s.frost.postThaw ∧
    (stageTransition s).frost.failedTotal = s.frost.failedTotal ∧
    (3 ≤ s.frost.severity → (stageTransition s).frost.failed = s.frost.failed) ∧
    (s.frost.stage ≠ .lockout → (stageTransition s).frost.stage ≠ .lockout) ∧
    (stageTransition s).own.direction = s.own.direction := by
  obtain ⟨st, lock, mild, h⟩ | ⟨n, m, h⟩ := stageTransition_cases s
  · obtain ⟨stage, severity, -, postThaw, total, -, failed, -⟩ := movedFrost_keeps st s.frost
    have own : (changeStage st s).own.direction = s.own.direction := by
      have moved : (moveStage st s).own = s.own := moveStage_frame s st .own (by decide)
      rw [changeStage, recomputeCeil_own, ← moved]
    rw [h, changeStage_frost, stage]
    exact ⟨severity, postThaw, total, fun high => failed fun none_ => absurd (mild none_) (by omega), fun _ => lock, own⟩
  · rw [h]
    exact ⟨rfl, rfl, rfl, fun _ => rfl, id, rfl⟩

/-! ### LOCKOUT (R136, R137) -/

/-- The state in which the direction becomes HALT at an entry to LOCKOUT: the stage entered, the store asked for. -/
def lockoutEntered (cause : LockCause) : State := requestWrite (lockoutReady s cause)

theorem enterLockout_halts (cause : LockCause) : enterLockout cause s = haltInside (lockoutEntered s cause) := rfl

theorem lockoutEntered_frame (cause : LockCause) : othersKept [.line, .frost, .svc] s (lockoutEntered s cause) :=
  othersKept_append (lockoutReady_frame s cause) (requestWrite_frame _)

theorem lockoutEntered_changes (cause : LockCause) : changesStay s (lockoutEntered s cause) := by
  have moved := moveStage_changes (thawCut (dropClaim s)) .lockout
  exact ((dropClaim_changes s).trans (changesStay_of_eq rfl)).trans
    (moved.trans (changesStay_of_eq (requestWrite_frame _ .line (by decide))))

theorem lockoutReady_frost (cause : LockCause) : (lockoutReady s cause).frost =
    { movedFrost .lockout (thawCut (dropClaim s)).frost with cause := some cause, lockHalves := 0, postThaw := none } := by
  rw [lockoutReady, lockNow, State.withFrost_frost, moveStage_frost]

theorem enterLockout_frost (cause : LockCause) : (enterLockout cause s).frost.stage = .lockout ∧
    (enterLockout cause s).frost.cause = some cause ∧ (enterLockout cause s).frost.lockHalves = 0 ∧
    (enterLockout cause s).frost.postThaw = none ∧ (enterLockout cause s).frost.granted = false ∧
    (enterLockout cause s).frost.failed = s.frost.failed ∧
    (enterLockout cause s).frost.failedTotal = s.frost.failedTotal ∧
    (enterLockout cause s).frost.severity = s.frost.severity := by
  have frost : (enterLockout cause s).frost = _ := (haltInside_frame _ .frost (by decide)).trans
    ((requestWrite_frame _ .frost (by decide)).trans (lockoutReady_frost s cause))
  have cut : (thawCut (dropClaim s)).frost.granted = false ∧ (thawCut (dropClaim s)).frost.failed = s.frost.failed ∧
      (thawCut (dropClaim s)).frost.failedTotal = s.frost.failedTotal ∧
      (thawCut (dropClaim s)).frost.severity = s.frost.severity := by
    rw [thawCut, State.withFrost_frost, dropClaim_frost]
    exact ⟨rfl, rfl, rfl, rfl⟩
  obtain ⟨stage, severity, -, -, total, -, failed, granted⟩ := movedFrost_keeps .lockout (thawCut (dropClaim s)).frost
  obtain ⟨cutGranted, cutFailed, cutTotal, cutSeverity⟩ := cut
  rw [frost]
  exact ⟨stage, rfl, rfl, rfl, granted cutGranted, (failed (by decide)).trans cutFailed, total.trans cutTotal,
    severity.trans cutSeverity⟩

theorem enterLockout_writing (cause : LockCause) : (enterLockout cause s).svc.writing.isSome = true := by
  rw [enterLockout_halts, haltInside_frame _ .svc (by decide)]
  exact requestWrite_writing _

/-- The direction becomes HALT, with D, C and F at 0 and the fan stopped where it was another (R3, R136). -/
theorem enterLockout_own (cause : LockCause) : (enterLockout cause s).own.direction = .halt ∧
    (s.own.direction ≠ .halt → (enterLockout cause s).own.want = 0 ∧ (enterLockout cause s).own.ceil = 0 ∧
      (enterLockout cause s).own.flow = 0 ∧ (enterLockout cause s).fan.wanted = .halt) := by
  have own : (lockoutEntered s cause).own = s.own := lockoutEntered_frame s cause .own (by decide)
  rw [enterLockout_halts]
  by_cases halt : s.own.direction = .halt
  · rw [haltInside_of_eq (by rw [own]; exact halt), own]
    exact ⟨halt, fun h => absurd halt h⟩
  · have halt' : (lockoutEntered s cause).own.direction ≠ .halt := by rw [own]; exact halt
    rw [haltInside_own halt']
    exact ⟨rfl, fun _ => ⟨rfl, rfl, rfl, haltInside_wanted halt'⟩⟩

theorem endLockout_frost : (endLockout s).frost =
    { movedFrost .noFrost s.frost with cause := none, warm := 0, lockHalves := 0, failed := 0 } := by
  rw [endLockout]
  dsimp only
  rw [State.withFrost_frost, moveStage_frost]

theorem endLockout_frame (h : s.frost.stage ≠ .claiming) : othersKept [.frost] s (endLockout s) := by
  have moved : othersKept [.frost] s (moveStage .noFrost s) := by
    by_cases same : s.frost.stage = .noFrost
    · rw [moveStage_of_eq s same]
      exact othersKept_refl _ s
    · rw [moveStage_of_ne s same, claimLeft, if_neg h]
      exact withFrost_frame s _
  exact othersKept_trans moved (withFrost_frame _ _)

/-! ### The post-thaw judgement (R134) -/

/-- The frost block when the last of a post-thaw window's evaluations has failed it. -/
def failedOnce : State := s.withFrost { s.frost with
  postThaw := none, failed := min (s.frost.failed + 1) 3, failedTotal := min (s.frost.failedTotal + 1) 65535 }

theorem thawFailed_eq : thawFailed s =
    if min (s.frost.failed + 1) 3 = 3 then enterLockout .failed (failedOnce s) else failedOnce s := rfl

variable {s}

theorem judgeThaw_closed (h : s.frost.postThaw = none) : judgeThaw s = s := by
  simp [judgeThaw, h]

theorem judgeThaw_passed {w : PostThaw} (h : s.frost.postThaw = some w) (low : s.frost.severity < 3) :
    judgeThaw s = s.withFrost { s.frost with postThaw := none, failed := 0 } := by
  simp [judgeThaw, h, low]

theorem judgeThaw_first {w : PostThaw} (h : s.frost.postThaw = some w) (high : 3 ≤ s.frost.severity)
    (first : w.seen = 0) : judgeThaw s = s.withFrost { s.frost with postThaw := some { seen := 1, high := true } } := by
  have high' : ¬ s.frost.severity < 3 := by omega
  simp [judgeThaw, h, high', first]

theorem judgeThaw_second {w : PostThaw} (h : s.frost.postThaw = some w) (high : 3 ≤ s.frost.severity)
    (second : w.seen ≠ 0) : judgeThaw s =
      if w.high = true then thawFailed s else s.withFrost { s.frost with postThaw := none } := by
  have high' : ¬ s.frost.severity < 3 := by omega
  simp [judgeThaw, h, high', second]

/-- The judgement touches the frost block alone, without a change of stage, or locks the station out. -/
theorem judgeThaw_cases (s : State) :
    (othersKept [.frost] s (judgeThaw s) ∧ (judgeThaw s).frost.stage = s.frost.stage) ∨
      judgeThaw s = enterLockout .failed (failedOnce s) := by
  cases h : s.frost.postThaw with
  | none =>
    rw [judgeThaw_closed h]
    exact .inl ⟨othersKept_refl _ s, rfl⟩
  | some w =>
    by_cases low : s.frost.severity < 3
    · rw [judgeThaw_passed h low]
      exact .inl ⟨withFrost_frame s _, rfl⟩
    · by_cases first : w.seen = 0
      · rw [judgeThaw_first h (by omega) first]
        exact .inl ⟨withFrost_frame s _, rfl⟩
      · rw [judgeThaw_second h (by omega) first, thawFailed_eq]
        split
        · split
          · exact .inr rfl
          · exact .inl ⟨withFrost_frame s _, rfl⟩
        · exact .inl ⟨withFrost_frame s _, rfl⟩

theorem judgeThaw_severity (s : State) : (judgeThaw s).frost.severity = s.frost.severity := by
  cases h : s.frost.postThaw with
  | none => rw [judgeThaw_closed h]
  | some w =>
    by_cases low : s.frost.severity < 3
    · rw [judgeThaw_passed h low]
      rfl
    · by_cases first : w.seen = 0
      · rw [judgeThaw_first h (by omega) first]
        rfl
      · rw [judgeThaw_second h (by omega) first, thawFailed_eq]
        split
        · split
          · exact (enterLockout_frost (failedOnce s) .failed).2.2.2.2.2.2.2
          · rfl
        · rfl

end

/-! ### The parts of an application (R129, R135, R137, R138) -/

section
variable {s : State} {r : FrostResult}

theorem judgeLockout_warm (stage : s.frost.stage ≠ .lockout) (warm : ∀ v ∈ r.tOutdoor, param s 10 < v) :
    judgeLockout r s = s := by
  unfold judgeLockout
  cases h : r.tOutdoor with
  | none => rfl
  | some v =>
    have above_ : ¬ v ≤ param s 10 := by have := warm v h; omega
    dsimp only
    rw [if_neg stage, if_neg above_]

theorem judgeLockout_cold {v : Int} (stage : s.frost.stage ≠ .lockout) (h : r.tOutdoor = some v) (cold : v ≤ param s 10) :
    judgeLockout r s = enterLockout .cold s := by
  simp [judgeLockout, h, stage, cold]

/-- In LOCKOUT the judgement touches the frost block alone, and leaves the stage for NONE only (R135, R137). -/
theorem judgeLockout_inside (stage : s.frost.stage = .lockout) : othersKept [.frost] s (judgeLockout r s) ∧
    (judgeLockout r s).frost.severity = s.frost.severity ∧
    (((judgeLockout r s).frost.stage = .lockout ∧ (judgeLockout r s).frost.postThaw = s.frost.postThaw) ∨
      (judgeLockout r s).frost.stage = .noFrost) := by
  have ended : (endLockout s).frost.severity = s.frost.severity ∧ (endLockout s).frost.stage = .noFrost := by
    obtain ⟨stageNow, severity, -⟩ := movedFrost_keeps .noFrost s.frost
    rw [endLockout_frost]
    exact ⟨severity, stageNow⟩
  unfold judgeLockout judgeInLockout
  split
  · exact ⟨othersKept_refl _ s, rfl, .inl ⟨stage, rfl⟩⟩
  · rw [if_pos stage]
    split
    · exact ⟨withFrost_frame s _, rfl, .inl ⟨stage, rfl⟩⟩
    · split
      · split
        · exact ⟨withFrost_frame s _, rfl, .inl ⟨stage, rfl⟩⟩
        · exact ⟨endLockout_frame s (by rw [stage]; decide), ended.1, .inr ended.2⟩
      · exact ⟨withFrost_frame s _, rfl, .inl ⟨stage, rfl⟩⟩

theorem judgeLockout_severity : (judgeLockout r s).frost.severity = s.frost.severity := by
  by_cases stage : s.frost.stage = .lockout
  · exact (judgeLockout_inside stage).2.1
  · unfold judgeLockout
    split
    · rfl
    · rw [if_neg stage]
      split
      · exact (enterLockout_frost s .cold).2.2.2.2.2.2.2
      · rfl

theorem judgeStage_severity : (judgeStage r s).frost.severity = s.frost.severity := by
  unfold judgeStage faultHold
  split
  · dsimp only
    rw [changeStage_frost]
    exact (movedFrost_keeps _ _).2.1
  · split
    · rfl
    · rw [judgeThaw_severity, (stageTransition_fields s).1]

end

end Sys2Proof.Laws
end

section
/-! ## The result of a climate evaluation, part by part (R122, R123, R128, R129, R152, R156) -/

namespace Sys2Proof.Laws

open Sys2Proof.Machine Sys2Proof.Safety

section
variable (s : State) (x : EvalInputs)

/-! ### The frost guard's part (R129) -/

/-- The result that the frost guard receives. -/
def resultOf : FrostResult := frostResult x (s.withUnit { s.unit with engine := .free })

/-- The state with the ratio, the climate part and the severity written. -/
def severe : State := (ratioWritten s x).withFrost { s.frost with
  severity := severityAfter (resultOf s x) s.frost.severity }

theorem severe_frame : othersKept [.unit, .clim, .own, .frost] s (severe s x) :=
  othersKept_append (ratioWritten_frame s x) (withFrost_frame _ _)

theorem severe_frost : (severe s x).frost =
    { s.frost with severity := severityAfter (resultOf s x) s.frost.severity } := rfl

theorem severe_own : (severe s x).own = (ratioWritten s x).own := rfl

theorem severe_direction : (severe s x).own.direction = s.own.direction := rfl

theorem severe_param (i : Fin 21) : param (severe s x) i = param s i := rfl

/-- The application after the severity: the LOCKOUT judgement, then the stage, unless LOCKOUT was entered or left or the
evaluation is one of THAW. -/
theorem frostTaken_eq : frostTaken s x =
    if lockoutMoved (severe s x) (judgeLockout (resultOf s x) (severe s x)) ||
        thawEvaluation (resultOf s x) (ratioWritten s x)
      then judgeLockout (resultOf s x) (severe s x)
      else judgeStage (resultOf s x) (judgeLockout (resultOf s x) (severe s x)) := rfl

theorem frostTaken_severity : (frostTaken s x).frost.severity = severityAfter (resultOf s x) s.frost.severity := by
  rw [frostTaken_eq]
  split
  · exact judgeLockout_severity
  · exact judgeStage_severity.trans judgeLockout_severity

variable {s x}

theorem thawEvaluation_iff : thawEvaluation (resultOf s x) (ratioWritten s x) = true ↔
    x.stage = .thaw ∨ s.frost.stage = .thaw := by
  have stage : (ratioWritten s x).frost.stage = s.frost.stage := rfl
  simp only [thawEvaluation, stage, Bool.or_eq_true, decide_eq_true_eq]
  exact Iff.rfl

/-- T_outdoor at or below P10 locks out, and that ends the application (R129, R135). -/
theorem frostTaken_cold {v : Int} (stage : s.frost.stage ≠ .lockout) (h : x.tOutdoor = some v) (cold : v ≤ param s 10) :
    frostTaken s x = enterLockout .cold (severe s x) := by
  have judged : judgeLockout (resultOf s x) (severe s x) = enterLockout .cold (severe s x) :=
    judgeLockout_cold stage h cold
  have entered := (enterLockout_frost (severe s x) .cold).1
  have before : (severe s x).frost.stage ≠ .lockout := stage
  rw [frostTaken_eq, judged, if_pos]
  simp [lockoutMoved, entered, before]

/-- Outside LOCKOUT and above P10 the application is the stage's, or the severity alone in THAW (R129). -/
theorem frostTaken_warm (stage : s.frost.stage ≠ .lockout) (warm : ∀ v ∈ x.tOutdoor, param s 10 < v) :
    frostTaken s x = if x.stage = .thaw ∨ s.frost.stage = .thaw then severe s x
      else judgeStage (resultOf s x) (severe s x) := by
  have judged : judgeLockout (resultOf s x) (severe s x) = severe s x :=
    judgeLockout_warm (s := severe s x) (r := resultOf s x) stage warm
  have still : lockoutMoved (severe s x) (severe s x) = false := by simp [lockoutMoved]
  rw [frostTaken_eq, judged, still, Bool.false_or]
  simp only [thawEvaluation_iff]

/-- The second warm evaluation in LOCKOUT ends it, and that ends the application (R129, R137). -/
theorem frostTaken_thaws {v : Int} (stage : s.frost.stage = .lockout) (h : x.tOutdoor = some v)
    (warm : param s 10 + 30 ≤ v) (second : s.frost.warm = 1) : frostTaken s x = endLockout (severe s x) := by
  have judged : judgeLockout (resultOf s x) (severe s x) = endLockout (severe s x) := by
    have stage' : (severe s x).frost.stage = .lockout := stage
    have outdoor : (resultOf s x).tOutdoor = some v := h
    have second' : (severe s x).frost.warm = 1 := second
    have cold : ¬ v ≤ param (severe s x) 10 := by rw [severe_param]; omega
    unfold judgeLockout
    rw [outdoor]
    dsimp only
    rw [if_pos stage', judgeInLockout, if_neg cold, if_pos (by rw [severe_param]; exact warm), second']
    rfl
  have ended : (endLockout (severe s x)).frost.stage = .noFrost := by
    rw [endLockout_frost]
    exact (movedFrost_keeps .noFrost _).1
  have before : (severe s x).frost.stage = .lockout := stage
  rw [frostTaken_eq, judged, if_pos]
  simp [lockoutMoved, ended, before]

variable (s x)

/-! ### The severity (R128) -/

theorem severityAfter_of :
    severityAfter (resultOf s x) s.frost.severity = (match x.tOe with
      | none => s.frost.severity
      | some v =>
        let base := if 10 < v then 0 else min (1 + (10 - v).toNat / 15) 7
        if v ≤ 0 ∧ (computedRatio x).isSome = true ∧ s.clim.ratios.length = 8 ∧
            (computedRatio x).getD 0 + 150 ≤ s.clim.ratios.sum / 8 then min (base + 1) 7 else base) := by
  have oe : (resultOf s x).tOe = x.tOe := rfl
  unfold severityAfter
  rw [oe]
  cases x.tOe with
  | none => rfl
  | some v =>
    have base : baseSeverity v = if 10 < v then 0 else min (1 + (10 - v).toNat / 15) 7 := by
      unfold baseSeverity
      split
      · rfl
      · have div : ((10 - v) / 15).toNat = (10 - v).toNat / 15 := by omega
        rw [div]
    have fell : ratioFell (resultOf s x) v = true ↔ v ≤ 0 ∧ (computedRatio x).isSome = true ∧
        s.clim.ratios.length = 8 ∧ (computedRatio x).getD 0 + 150 ≤ s.clim.ratios.sum / 8 := by
      have mean : (resultOf s x).mean = if s.clim.ratios.length = 8 then some (s.clim.ratios.sum / 8) else none := rfl
      have computed : (resultOf s x).computed = (computedRatio x).isSome := rfl
      have ratio : (resultOf s x).ratio = (computedRatio x).getD s.own.ratio := rfl
      unfold ratioFell
      rw [mean, computed, ratio]
      by_cases full : s.clim.ratios.length = 8
      · rw [if_pos full]
        cases computedRatio x <;> simp [full]
      · rw [if_neg full]
        simp [full]
    dsimp only
    simp only [fell, base]

/-! ### The ratio and its list (R122) -/

theorem joinRatio_eq {l : List Nat} (h : l.length ≤ 8) (v : Nat) :
    joinRatio l v = (l ++ [v]).drop (l.length + 1 - 8) := by
  unfold joinRatio
  split
  next short =>
    have none_ : l.length + 1 - 8 = 0 := by omega
    rw [none_, List.drop_zero]
  next full =>
    have one : l.length + 1 - 8 = 1 := by omega
    rw [one]
    cases l with
    | nil => simp at full
    | cons a as => rfl

/-! ### The demand unit's part (R152, R156) -/

/-- The humidity boost and its run-on timer after a result (R152). -/
def humidityVerdict (limit rh prev : Option Int) (u : DemandUnit) (runOn : Count) : Humidity × Option Count :=
  match limit, rh with
  | some h, some rh =>
    if h ≤ rh ∨ prev.any (fun p => decide (p + 6 ≤ rh)) = true then (.active, none)
    else if u.humidity = .active ∧ rh < h - 5 then (.runOn, some runOn)
    else (u.humidity, u.runOn)
  | _, _ => (u.humidity, u.runOn)

theorem rhRises_eq (rh : Int) (prev : Option Int) : rhRises rh prev = prev.any fun p => decide (p + 6 ≤ rh) := by
  cases prev with
  | none => rfl
  | some p => exact decide_eq_decide.mpr (by omega)

theorem applyHumidity_demand (rh prev : Option Int) : (applyHumidity rh prev s).demand = { s.demand with
    humidity := (humidityVerdict (humidityThreshold s) rh prev s.demand (Count.later s.time.now (runOnLength s))).1
    runOn := (humidityVerdict (humidityThreshold s) rh prev s.demand (Count.later s.time.now (runOnLength s))).2 } := by
  unfold applyHumidity humidityVerdict
  cases humidityThreshold s with
  | none => rfl
  | some h =>
    cases rh with
    | none => rfl
    | some v =>
      dsimp only
      unfold judgeHumidity
      rw [rhRises_eq]
      split
      · rfl
      · split <;> rfl

theorem applyDryGuard_fields (rh out : Option Int) : (applyDryGuard rh out s).demand = { s.demand with
    dryGuard := (applyDryGuard rh out s).demand.dryGuard, dryCount := (applyDryGuard rh out s).demand.dryCount } := by
  unfold applyDryGuard
  split
  · split <;> rfl
  · split
    · split
      · split <;> rfl
      · rfl
    · rfl

theorem applyDryGuard_on {rh out : Int} (on : s.demand.dryGuard = true) :
    (applyDryGuard (some rh) (some out) s).demand.dryGuard = !(decide (35 ≤ rh) || decide (30 ≤ out)) := by
  unfold applyDryGuard guardEnds
  rw [if_pos on]
  dsimp only
  split
  next h => rw [h]; rfl
  next h => rw [Bool.eq_false_iff.mpr h, on]; rfl

theorem applyDryGuard_second {rh out : Int} (off : s.demand.dryGuard = false) (once : s.demand.dryCount = 1)
    (dry : rh ≤ 30) (cold : out ≤ 0) : (applyDryGuard (some rh) (some out) s).demand.dryGuard = true ∧
      (applyDryGuard (some rh) (some out) s).demand.dryCount = 0 := by
  simp [applyDryGuard, off, once, dry, cold]

variable {s x}

theorem frostTaken_demand : (frostTaken s x).demand = s.demand :=
  ((frostTaken_handsOn s x).frame .demand (by decide)).trans (ratioWritten_frame s x .demand (by decide))

theorem frostTaken_room : (frostTaken s x).own.room = s.own.room := by
  have base := (frostTaken_handsOn s x).own
  exact (congrArg OwnRecord.room base : _)

theorem enterLockout_params (cause : LockCause) : (enterLockout cause s).svc.params = s.svc.params := by
  rw [enterLockout_halts, haltInside_frame _ .svc (by decide), lockoutEntered, requestWrite_params,
    lockoutReady_frame _ _ .svc (by decide)]

theorem judgeLockout_params (r : FrostResult) : (judgeLockout r s).svc.params = s.svc.params := by
  by_cases stage : s.frost.stage = .lockout
  · rw [(judgeLockout_inside stage).1 .svc (by decide)]
  · unfold judgeLockout
    split
    · rfl
    · rw [if_neg stage]
      split
      · exact enterLockout_params _
      · rfl

theorem changeStage_svc (st : FrostStage) : (changeStage st s).svc = s.svc :=
  (recomputeCeil_frame _ .svc (by decide)).trans (moveStage_frame s st .svc (by decide))

theorem stageTransition_svc : (stageTransition s).svc = s.svc := by
  obtain ⟨st, -, -, h⟩ | ⟨n, m, h⟩ := stageTransition_cases s
  · rw [h, changeStage_svc]
  · rw [h]
    rfl

theorem judgeStage_params (r : FrostResult) : (judgeStage r s).svc.params = s.svc.params := by
  unfold judgeStage faultHold
  split
  · dsimp only
    rw [changeStage_svc]
    rfl
  · split
    · rfl
    · obtain ⟨frame, -⟩ | locks := judgeThaw_cases (stageTransition s)
      · rw [frame .svc (by decide), stageTransition_svc]
      · rw [locks, enterLockout_params]
        exact congrArg _ stageTransition_svc

theorem frostTaken_params : (frostTaken s x).svc.params = s.svc.params := by
  have before : (severe s x).svc = s.svc := severe_frame s x .svc (by decide)
  rw [frostTaken_eq]
  split
  · rw [judgeLockout_params, before]
  · rw [judgeStage_params, judgeLockout_params, before]

end

end Sys2Proof.Laws
end

section
/-! ## C and HALT after a climate evaluation (R84, R85, R108 to R110, R129 to R138) -/

namespace Sys2Proof.Laws

open Sys2Proof.Machine Sys2Proof.Safety

/-! ### A CHANGE that finds its place (R31, R110) -/

/-- A queue in which a CHANGE finds its place: its class is off the line, and stands there already or has room. -/
def changeWelcome (q : List TxEntry) : Prop :=
  (∀ x ∈ q, x.cls = .change → x.onLine = false) ∧ ((∃ x ∈ q, x.cls = .change) ∨ q.length < 4)

theorem changeWelcome_of_fresh {q : List TxEntry} (fresh : ∀ x ∈ q, x.cls ≠ .change) (room : q.length < 4) :
    changeWelcome q := ⟨fun x hx hc => absurd hc (fresh x hx), .inr room⟩

theorem changesStay.welcome {s v : State} (h : changesStay s v) (w : changeWelcome s.line.txq) :
    changeWelcome v.line.txq := by
  obtain ⟨-, length, mem⟩ := h
  obtain ⟨off, place⟩ := w
  refine ⟨fun x hx hc => off x ((mem x hc).mp hx) hc, ?_⟩
  rcases place with ⟨x, hx, hc⟩ | room
  · exact .inl ⟨x, (mem x hc).mpr hx, hc⟩
  · exact .inr (Nat.lt_of_le_of_lt length room)

/-- The entry of a class is one of the queue, and of that class. -/
theorem entryOf_mem {c : NoticeClass} {q : List TxEntry} {e : TxEntry} (h : entryOf c q = some e) : e ∈ q ∧ e.cls = c :=
  ⟨List.mem_of_find?_eq_some h, of_decide_eq_true (List.find?_some (p := fun x : TxEntry => decide (x.cls = c)) h)⟩

section
variable {s : State}

/-- Outside CUT OFF such a CHANGE enters the queue, and another still finds its place. -/
theorem queueChange_welcome (urgent : Bool) (node : Nat) (h : s.line.faultCount < 64) (w : changeWelcome s.line.txq) :
    newEntry .change urgent node false [] ∈ (queueNotice (newEntry .change urgent node false []) s).line.txq ∧
      changeWelcome (queueNotice (newEntry .change urgent node false []) s).line.txq := by
  obtain ⟨off, place⟩ := w
  have rest : ∀ q : List TxEntry, (∀ x ∈ q, x ∈ s.line.txq) →
      newEntry .change urgent node false [] ∈ placeEntry (newEntry .change urgent node false []) q ∧
        changeWelcome (placeEntry (newEntry .change urgent node false []) q) := fun q hq => by
    have mem := mem_placeEntry (newEntry .change urgent node false []) q
    refine ⟨mem, fun x hx hc => ?_, .inl ⟨_, mem, rfl⟩⟩
    rcases (mem_insertOrd _).mp hx with rfl | hx
    · rfl
    · exact off x (hq x hx) hc
  rw [queueNotice_accepted h rfl, State.withLine_line]
  cases hc : entryOf .change s.line.txq with
  | some old =>
    have oldMem := entryOf_mem hc
    rw [acceptNotice_supersedes hc (off old oldMem.1 oldMem.2)]
    exact rest _ fun x hx => (mem_withoutClass.mp hx).1
  | none =>
    have fresh := entryOf_eq_none.mp hc
    have room : s.line.txq.length < 4 := place.resolve_left fun ⟨x, hx, hcls⟩ => fresh x hx hcls
    rw [acceptNotice_free hc room]
    exact rest _ fun _ hx => hx

theorem recomputeCeil_welcome (w : changeWelcome s.line.txq) : changeWelcome (recomputeCeil s).line.txq := by
  by_cases falls : fallAnnounced s
  · rw [recomputeCeil_announces s falls]
    by_cases h : s.line.faultCount < 64
    · exact (queueChange_welcome _ _ h w).2
    · rw [queueNotice_cutOff _ (by omega)]
      exact w
  · rw [recomputeCeil_silent s falls]
    exact w

end

/-! ### The approach to LOCKOUT (R130, R134, R136) -/

/-- A pass asked for once more is asked for once. -/
theorem passAsked.trans {a b : Bool} {s t u : State} (h : passAsked a s t) (h' : passAsked b t u)
    (le : a = true → b = true) : passAsked b s u := by
  obtain ⟨pass, unit⟩ := h
  obtain ⟨pass', unit'⟩ := h'
  rw [pass] at pass' unit'
  rw [unit] at unit'
  rw [passAsked, pass', unit']
  cases b with
  | false =>
    obtain rfl : a = false := Bool.eq_false_iff.mpr fun ha => Bool.false_ne_true (le ha)
    simp
  | true => cases a <;> cases s.pass.state <;> simp [awaited]

/-- `v` lies between the severity and an entry to LOCKOUT: C and F may have been recomputed, and the CLAIM withdrawn. -/
structure Approaches (s v : State) : Prop where
  frame : othersKept [.own, .line, .pass, .unit, .frost] s v
  own : v.own = { s.own with ceil := v.own.ceil, flow := v.own.flow }
  count : v.line.faultCount = s.line.faultCount
  welcome : changeWelcome s.line.txq → changeWelcome v.line.txq
  asked : ∃ a, passAsked a s v ∧ (a = true → s.mode.mode = .run ∧ s.rev.gather = none)

theorem Approaches.trans {s t v : State} (h : Approaches s t) (h' : Approaches t v) : Approaches s v where
  frame := othersKept_trans h.frame h'.frame
  own := by rw [h'.own, h.own]
  count := h'.count.trans h.count
  welcome := fun w => h'.welcome (h.welcome w)
  asked := by
    obtain ⟨a, pass, due⟩ := h.asked
    obtain ⟨b, pass', due'⟩ := h'.asked
    rw [h.frame .mode (by decide), h.frame .rev (by decide)] at due'
    cases b with
    | true => exact ⟨true, pass.trans pass' fun _ => rfl, due'⟩
    | false =>
      obtain ⟨same, same'⟩ := pass'.of_false
      exact ⟨a, by rw [passAsked, same, same']; exact pass, due⟩

theorem Approaches.of_changes {s v : State} (frame : othersKept [.line, .frost] s v) (h : changesStay s v) :
    Approaches s v where
  frame := othersKept_mono frame (by decide)
  own := by rw [frame .own (by decide)]
  count := h.1
  welcome := h.welcome
  asked := by
    have pass : v.pass = s.pass := frame .pass (by decide)
    have unit : v.unit = s.unit := frame .unit (by decide)
    exact ⟨false, by simp [passAsked, pass, unit], fun h => absurd h (by decide)⟩

theorem Approaches.of_frost {s v : State} (frame : othersKept [.frost] s v) : Approaches s v :=
  .of_changes (othersKept_mono frame (by decide)) (changesStay_of_eq (frame .line (by decide)))

theorem Approaches.recompute (s : State) : Approaches s (recomputeCeil s) where
  frame := othersKept_mono (recomputeCeil_frame s) (by decide)
  own := by rw [recomputeCeil_own]
  count := (recomputeCeil_lineFields s).1
  welcome := recomputeCeil_welcome
  asked := ⟨_, recomputeCeil_asked s (again := decide (s.mode.mode = .run ∧ s.rev.gather = none ∧ ceilNow s ≠ s.own.ceil))
    decide_eq_true_iff, fun h => by
      obtain ⟨run, closed, -⟩ := of_decide_eq_true h
      exact ⟨run, closed⟩⟩

theorem Approaches.moved (st : FrostStage) (s : State) : Approaches s (moveStage st s) :=
  .of_changes (moveStage_frame s st) (moveStage_changes s st)

theorem Approaches.transition (s : State) : Approaches s (stageTransition s) := by
  obtain ⟨st, -, -, h⟩ | ⟨n, m, h⟩ := stageTransition_cases s
  · rw [h]
    exact (Approaches.moved st s).trans (.recompute _)
  · rw [h]
    exact .of_frost (withFrost_frame s _)

/-- The stage that a borrowed outdoor temperature gives (R138). -/
def borrowedStage (t : Option Int) : FrostStage :=
  match t with
  | some v => if 0 < v then .noFrost else .trim
  | none => .trim

theorem borrowedStage_cases (t : Option Int) : borrowedStage t = .noFrost ∨ borrowedStage t = .trim := by
  unfold borrowedStage
  split
  · split
    · exact .inl rfl
    · exact .inr rfl
  · exact .inr rfl

/-- The fault hold keeps LOCKOUT and THAW, and enters neither (R138). -/
theorem heldStage_eq (t : Option Int) (st : FrostStage) :
    heldStage t st = if st = .thaw ∨ st = .lockout then st else borrowedStage t := by
  cases st <;> rfl

theorem heldStage_ne_lockout {t : Option Int} {st : FrostStage} (h : st ≠ .lockout) : heldStage t st ≠ .lockout := by
  rw [heldStage_eq]
  split
  · exact h
  · rcases borrowedStage_cases t with held | held <;> rw [held] <;> decide

/-- Outside LOCKOUT an evaluation that ends in LOCKOUT enters it, from a state that lies after the severity. -/
theorem frostTaken_locks {s : State} {x : EvalInputs} (stage : s.frost.stage ≠ .lockout)
    (locked : (frostTaken s x).frost.stage = .lockout) :
    ∃ v cause, Approaches (ratioWritten s x) v ∧ frostTaken s x = enterLockout cause v := by
  have severity : Approaches (ratioWritten s x) (severe s x) := .of_frost (withFrost_frame _ _)
  have before : (severe s x).frost.stage ≠ .lockout := stage
  by_cases warm : ∀ v ∈ x.tOutdoor, param s 10 < v
  · rw [frostTaken_warm stage warm] at locked ⊢
    split at locked
    · exact absurd locked before
    next other =>
      rw [if_neg other]
      unfold judgeStage faultHold at locked ⊢
      split at locked
      · dsimp only at locked
        rw [changeStage_frost, (movedFrost_keeps _ _).1] at locked
        exact absurd locked (heldStage_ne_lockout before)
      next quiet =>
        rw [if_neg quiet]
        split at locked
        · exact absurd locked before
        next oe =>
          rw [if_neg oe]
          obtain ⟨-, same⟩ | locks := judgeThaw_cases (stageTransition (severe s x))
          · rw [same] at locked
            exact absurd locked ((stageTransition_fields (severe s x)).2.2.2.2.1 before)
          · exact ⟨_, .failed, (severity.trans (.transition _)).trans (.of_frost (withFrost_frame _ _)), locks⟩
  · obtain ⟨v, hv⟩ := Classical.not_forall.mp warm
    obtain ⟨outdoor, cold⟩ := Classical.not_imp.mp hv
    exact ⟨severe s x, .cold, severity, frostTaken_cold stage outdoor (by omega)⟩

/-! ### C after a change of stage (R108, R109, R131) -/

theorem ceilNow_trimmed {s v : State} (h : othersKept [.line, .frost] s v)
    (same : trimmed v.frost.stage = trimmed s.frost.stage) : ceilNow v = ceilNow s := by
  unfold ceilNow ceilingFor trimmedCeil paramNat param
  rw [h .own (by decide), h .fan (by decide), h .filt (by decide), h .svc (by decide), same]

/-- `u` stands where C has been recomputed for its stage, and no other change than the CLAIM's was made before. -/
def ceilSettled (s u : State) : Prop :=
  ∃ v, othersKept [.line, .frost] s v ∧ changesStay s v ∧ (s.frost.stage ≠ .claiming → v.line = s.line) ∧
    v.frost.stage = u.frost.stage ∧ othersKept [.frost] (recomputeCeil v) u

section
variable {s u : State}

/-- Where C was that of its stage already, a change of the frost block alone settles it. -/
theorem ceilSettled_quiet (frame : othersKept [.frost] s u) (same : trimmed u.frost.stage = trimmed s.frost.stage)
    (h : trimmed u.frost.stage ≠ trimmed s.frost.stage ∨ s.own.ceil = ceilNow s) : ceilSettled s u := by
  have line : u.line = s.line := frame .line (by decide)
  have frame' : othersKept [.line, .frost] s u := othersKept_mono frame (by decide)
  have kept : recomputeCeil u = u := recomputeCeil_of_eq u (by
    rw [ceilNow_trimmed frame' same, frame .own (by decide)]
    exact (h.resolve_left fun ne => ne same).symm)
  exact ⟨u, frame', changesStay_of_eq line, fun _ => line, rfl, by rw [kept]; exact othersKept_refl _ u⟩

/-- A change of stage inside the half-cycle settles it. -/
theorem ceilSettled_changed {t : State} {st : FrostStage} (before : othersKept [.frost] s t)
    (same : t.frost.stage = s.frost.stage) (after : othersKept [.frost] (changeStage st t) u)
    (stage : u.frost.stage = st) : ceilSettled s u := by
  have line : t.line = s.line := before .line (by decide)
  refine ⟨moveStage st t, othersKept_mono (othersKept_append before (moveStage_frame t st)) (by decide),
    (changesStay_of_eq line).trans (moveStage_changes t st), fun other => ?_, ?_, after⟩
  · rw [moveStage_line t (by rw [same]; exact other), line]
  · rw [moveStage_frost, stage]
    exact (movedFrost_keeps st _).1

end

theorem stageTransition_locked {s : State} (h : s.frost.stage = .lockout) : stageTransition s = s := by
  simp [stageTransition, h]

/-- In RUN the evaluation's C is settled, unless it locks the station out (R109, R129). -/
theorem frostTaken_settles {s : State} {x : EvalInputs} (closed : windowClosedInLockout s.frost)
    (open_ : (frostTaken s x).frost.stage ≠ .lockout ∨ s.frost.stage = .lockout)
    (h : trimmed (frostTaken s x).frost.stage ≠ trimmed s.frost.stage ∨
      (ratioWritten s x).own.ceil = ceilNow (ratioWritten s x)) : ceilSettled (ratioWritten s x) (frostTaken s x) := by
  have severity : othersKept [.frost] (ratioWritten s x) (severe s x) := withFrost_frame _ _
  by_cases stage : s.frost.stage = .lockout
  · obtain ⟨frame, -, stageNow⟩ := judgeLockout_inside (s := severe s x) (r := resultOf s x) stage
    have frame' := othersKept_trans severity frame
    have untrimmed : trimmed s.frost.stage = false := by rw [stage]; rfl
    have same : trimmed (judgeLockout (resultOf s x) (severe s x)).frost.stage = trimmed (ratioWritten s x).frost.stage := by
      refine Eq.trans ?_ untrimmed.symm
      rcases stageNow with ⟨stageNow, -⟩ | stageNow <;> rw [stageNow] <;> rfl
    rw [frostTaken_eq] at h ⊢
    split at h
    next ends =>
      rw [if_pos ends]
      exact ceilSettled_quiet frame' same h
    next goesOn =>
      rw [if_neg goesOn]
      have before : (severe s x).frost.stage = .lockout := stage
      have locked : (judgeLockout (resultOf s x) (severe s x)).frost.stage = .lockout := by
        rcases stageNow with ⟨stageNow, -⟩ | stageNow
        · exact stageNow
        · exact absurd (by simp [lockoutMoved, before, stageNow]) goesOn
      have window : (judgeLockout (resultOf s x) (severe s x)).frost.postThaw = none := by
        rcases stageNow with ⟨-, same⟩ | stageNow
        · rw [same]
          exact closed stage
        · rw [stageNow] at locked
          exact absurd locked (by decide)
      generalize judgeLockout (resultOf s x) (severe s x) = j at *
      unfold judgeStage faultHold at h ⊢
      split at h
      next latched =>
        rw [if_pos latched]
        dsimp only
        have held : heldStage (resultOf s x).tOutdoor (j.withFrost { j.frost with postThaw := none }).frost.stage =
            .lockout := by
          rw [State.withFrost_frost]
          dsimp only
          rw [locked]
          rfl
        rw [held]
        refine ceilSettled_changed (othersKept_trans frame' (withFrost_frame j { j.frost with postThaw := none })) ?_
          (othersKept_refl _ _) ?_
        · exact locked.trans stage.symm
        · rw [changeStage_frost]
          exact (movedFrost_keeps _ _).1
      next quiet =>
        rw [if_neg quiet]
        have rests : judgeThaw (stageTransition j) = j := by
          rw [stageTransition_locked locked, judgeThaw_closed window]
        rw [rests] at h ⊢
        split at h
        next none_ =>
          rw [if_pos none_]
          exact ceilSettled_quiet frame' same h
        next some_ =>
          rw [if_neg some_]
          exact ceilSettled_quiet frame' same h
  · have open' := open_.resolve_right stage
    by_cases warm : ∀ v ∈ x.tOutdoor, param s 10 < v
    · rw [frostTaken_warm stage warm] at h open' ⊢
      split at h
      next thaw =>
        rw [if_pos thaw]
        exact ceilSettled_quiet severity rfl h
      next other =>
        rw [if_neg other] at open' ⊢
        unfold judgeStage faultHold at h open' ⊢
        split at h
        next latched =>
          rw [if_pos latched]
          refine ceilSettled_changed (othersKept_trans severity (withFrost_frame (severe s x)
            { (severe s x).frost with postThaw := none })) rfl (othersKept_refl _ _) ?_
          rw [changeStage_frost]
          exact (movedFrost_keeps _ _).1
        next quiet =>
          rw [if_neg quiet] at open' ⊢
          split at h
          next none_ =>
            rw [if_pos none_]
            exact ceilSettled_quiet severity rfl h
          next some_ =>
            rw [if_neg some_] at open' ⊢
            obtain ⟨thawed, same⟩ | locks := judgeThaw_cases (stageTransition (severe s x))
            · obtain ⟨st, -, -, moves⟩ | ⟨n, m, counts⟩ := stageTransition_cases (severe s x)
              · rw [moves] at thawed same ⊢
                refine ceilSettled_changed severity rfl thawed (same.trans ?_)
                rw [changeStage_frost]
                exact (movedFrost_keeps _ _).1
              · rw [counts] at thawed same h ⊢
                refine ceilSettled_quiet (othersKept_trans severity (othersKept_trans (withFrost_frame _ _) thawed))
                  (congrArg trimmed same) h
            · rw [locks] at open'
              exact absurd (enterLockout_frost _ _).1 open'
    · obtain ⟨v, hv⟩ := Classical.not_forall.mp warm
      obtain ⟨outdoor, cold⟩ := Classical.not_imp.mp hv
      rw [frostTaken_cold stage outdoor (by omega)] at open'
      exact absurd (enterLockout_frost _ _).1 open'

end Sys2Proof.Laws
end

section
/-! ## What a climate evaluation does in each stage (R129 to R138) -/

namespace Sys2Proof.Laws

open Sys2Proof.Machine Sys2Proof.Safety

/-! ### The consecutive counts (R130) -/

section
variable {s : State}

theorem stageTransition_fromNoFrost (h : s.frost.stage = .noFrost) :
    (stageTransition s).frost.stage = if 1 ≤ s.frost.severity then .watch else .noFrost := by
  rw [stageTransition_noFrost s h]
  split
  · exact (movedFrost_keeps .watch s.frost).1
  · exact h

theorem stageTransition_fromWatch (h : s.frost.stage = .watch) :
    (2 ≤ s.frost.severity ∧ s.frost.rise = 0 → (stageTransition s).frost.stage = .watch ∧
      (stageTransition s).frost.rise = 1 ∧ (stageTransition s).frost.fall = 0) ∧
    (2 ≤ s.frost.severity ∧ 1 ≤ s.frost.rise → (stageTransition s).frost.stage = .trim ∧
      (stageTransition s).frost.rise = 0 ∧ (stageTransition s).frost.fall = 0) ∧
    (s.frost.severity = 0 ∧ s.frost.fall = 0 → (stageTransition s).frost.stage = .watch ∧
      (stageTransition s).frost.rise = 0 ∧ (stageTransition s).frost.fall = 1) ∧
    (s.frost.severity = 0 ∧ 1 ≤ s.frost.fall → (stageTransition s).frost.stage = .noFrost ∧
      (stageTransition s).frost.failed = 0) ∧
    (s.frost.severity = 1 → (stageTransition s).frost.stage = .watch ∧
      (stageTransition s).frost.rise = 0 ∧ (stageTransition s).frost.fall = 0) := by
  have toTrim := movedFrost_of_ne (st := .trim) (f := s.frost) (by rw [h]; decide)
  have toNone := movedFrost_of_ne (st := .noFrost) (f := s.frost) (by rw [h]; decide)
  rw [stageTransition_watch s h, toTrim, toNone]
  refine ⟨fun ⟨high, first⟩ => ?_, fun ⟨high, second⟩ => ?_, fun ⟨low, first⟩ => ?_, fun ⟨low, second⟩ => ?_,
    fun one => ?_⟩
  · rw [if_pos high, if_pos (by omega), first]
    exact ⟨h, rfl, rfl⟩
  · rw [if_pos high, if_neg (by omega)]
    exact ⟨rfl, rfl, rfl⟩
  · rw [if_neg (by omega), if_pos low, if_pos (by omega), first]
    exact ⟨h, rfl, rfl⟩
  · rw [if_neg (by omega), if_pos low, if_neg (by omega)]
    exact ⟨rfl, rfl⟩
  · rw [if_neg (by omega), if_neg (by omega)]
    exact ⟨h, rfl, rfl⟩

theorem stageTransition_fromTrim (h : s.frost.stage = .trim) :
    (3 ≤ s.frost.severity ∧ s.frost.rise < 2 → (stageTransition s).frost.stage = .trim ∧
      (stageTransition s).frost.rise = s.frost.rise + 1 ∧ (stageTransition s).frost.fall = 0) ∧
    (3 ≤ s.frost.severity ∧ 2 ≤ s.frost.rise ∧ s.frost.holdOff = 0 →
      (stageTransition s).frost.stage = .claiming ∧ (stageTransition s).frost.rise = 0) ∧
    (3 ≤ s.frost.severity ∧ 2 ≤ s.frost.rise ∧ 0 < s.frost.holdOff →
      (stageTransition s).frost.stage = .trim ∧ (stageTransition s).frost.rise = 3) ∧
    (s.frost.severity ≤ 1 ∧ s.frost.fall = 0 → (stageTransition s).frost.stage = .trim ∧
      (stageTransition s).frost.rise = 0 ∧ (stageTransition s).frost.fall = 1) ∧
    (s.frost.severity ≤ 1 ∧ 1 ≤ s.frost.fall → (stageTransition s).frost.stage = .watch ∧
      (stageTransition s).frost.fall = 0) ∧
    (s.frost.severity = 2 → (stageTransition s).frost.stage = .trim ∧
      (stageTransition s).frost.rise = 0 ∧ (stageTransition s).frost.fall = 0) := by
  have toClaiming := movedFrost_of_ne (st := .claiming) (f := s.frost) (by rw [h]; decide)
  have toWatch := movedFrost_of_ne (st := .watch) (f := s.frost) (by rw [h]; decide)
  rw [stageTransition_trim s h, toClaiming, toWatch]
  refine ⟨fun ⟨high, early⟩ => ?_, fun ⟨high, third, free⟩ => ?_, fun ⟨high, third, held⟩ => ?_, fun ⟨low, first⟩ => ?_,
    fun ⟨low, second⟩ => ?_, fun two => ?_⟩
  · rw [if_pos high, if_pos (by omega)]
    exact ⟨h, rfl, rfl⟩
  · rw [if_pos high, if_neg (by omega), if_pos free]
    exact ⟨rfl, rfl⟩
  · rw [if_pos high, if_neg (by omega), if_neg (by omega)]
    exact ⟨h, rfl⟩
  · rw [if_neg (by omega), if_pos low, if_pos (by omega), first]
    exact ⟨h, rfl, rfl⟩
  · rw [if_neg (by omega), if_pos low, if_neg (by omega)]
    exact ⟨rfl, rfl⟩
  · rw [if_neg (by omega), if_neg (by omega)]
    exact ⟨h, rfl, rfl⟩

theorem stageTransition_fromClaiming (h : s.frost.stage = .claiming) :
    (s.frost.severity < 3 → (stageTransition s).frost.stage = .trim ∧ (stageTransition s).frost.granted = false ∧
      (stageTransition s).frost.ownClaim = .idle) ∧
    (3 ≤ s.frost.severity → (stageTransition s).frost.stage = .claiming ∧
      (stageTransition s).frost.granted = s.frost.granted ∧
      (stageTransition s).frost.ownClaim = s.frost.ownClaim) := by
  have toTrim := movedFrost_of_ne (st := .trim) (f := s.frost) (by rw [h]; decide)
  rw [stageTransition_claiming s h, toTrim]
  refine ⟨fun low => ?_, fun high => ?_⟩
  · rw [if_pos low]
    simp [h]
  · rw [if_neg (by omega)]
    exact ⟨h, rfl, rfl⟩

/-- A transition keeps the hold-off, and the failed count but at an entry to NONE. -/
theorem stageTransition_holdOff : (stageTransition s).frost.holdOff = s.frost.holdOff ∧
    ((stageTransition s).frost.stage ≠ .noFrost → (stageTransition s).frost.failed = s.frost.failed) := by
  obtain ⟨st, -, -, h⟩ | ⟨n, m, h⟩ := stageTransition_cases s
  · obtain ⟨stage, -, holdOff, -, -, -, failed, -⟩ := movedFrost_keeps st s.frost
    rw [h, changeStage_frost, stage]
    exact ⟨holdOff, failed⟩
  · rw [h]
    exact ⟨rfl, fun _ => rfl⟩

end

/-! ### The evaluation outside THAW and LOCKOUT (R129, R134, R138) -/

section
variable {s : State} {x : EvalInputs}

/-- With OUTER unlatched and T_oe available the stage is judged by its severity, then the post-thaw window. -/
theorem frostTaken_judged (notThaw : x.stage ≠ .thaw) (thaw : s.frost.stage ≠ .thaw) (lock : s.frost.stage ≠ .lockout)
    (warm : ∀ v ∈ x.tOutdoor, param s 10 < v) (latched : x.outerLatched = false) (oe : x.tOe.isSome = true) :
    frostTaken s x = judgeThaw (stageTransition (severe s x)) := by
  have latched' : (resultOf s x).outerLatched = false := latched
  have oe' : (resultOf s x).tOe.isNone = false := by
    have h : (resultOf s x).tOe = x.tOe := rfl
    rw [h]
    cases hx : x.tOe <;> simp [hx] at oe ⊢
  rw [frostTaken_warm lock warm, if_neg (by simp [notThaw, thaw]), judgeStage, if_neg (by simp [latched']),
    if_neg (by simp [oe'])]

/-- With no post-thaw window the stage is all that is judged. -/
theorem frostTaken_transition (notThaw : x.stage ≠ .thaw) (thaw : s.frost.stage ≠ .thaw)
    (lock : s.frost.stage ≠ .lockout) (warm : ∀ v ∈ x.tOutdoor, param s 10 < v) (latched : x.outerLatched = false)
    (oe : x.tOe.isSome = true) (closed : s.frost.postThaw = none) :
    frostTaken s x = stageTransition (severe s x) := by
  rw [frostTaken_judged notThaw thaw lock warm latched oe, judgeThaw_closed]
  rw [(stageTransition_fields _).2.1]
  exact closed

/-- A change to another stage restarts the counts, and one from CLAIMING gives the claim up (R127, R131). -/
theorem movedFrost_moves {st : FrostStage} {f : FrostGuard} (h : f.stage ≠ st) : (movedFrost st f).rise = 0 ∧
    (movedFrost st f).fall = 0 ∧ (movedFrost st f).warm = 0 ∧
    (f.stage = .claiming → (movedFrost st f).granted = false ∧ (movedFrost st f).ownClaim = .idle) := by
  rw [movedFrost_of_ne h]
  refine ⟨rfl, rfl, rfl, fun claiming => ?_⟩
  simp [claiming]

/-- With OUTER latched the stage follows the borrowed outdoor temperature (R138). -/
theorem frostTaken_held (notThaw : x.stage ≠ .thaw) (thaw : s.frost.stage ≠ .thaw) (lock : s.frost.stage ≠ .lockout)
    (warm : ∀ v ∈ x.tOutdoor, param s 10 < v) (latched : x.outerLatched = true) :
    (frostTaken s x).frost.stage = borrowedStage x.tOutdoor ∧ (frostTaken s x).frost.postThaw = none ∧
    (frostTaken s x).own.direction = s.own.direction ∧
    ((frostTaken s x).frost.stage ≠ s.frost.stage → (frostTaken s x).frost.rise = 0 ∧
      (frostTaken s x).frost.fall = 0 ∧ (frostTaken s x).frost.warm = 0) ∧
    (s.frost.stage = .claiming → (frostTaken s x).frost.granted = false ∧ (frostTaken s x).frost.ownClaim = .idle) ∧
    (frostTaken s x).frost.holdOff = s.frost.holdOff := by
  have latched' : (resultOf s x).outerLatched = true := latched
  have outdoor : (resultOf s x).tOutdoor = x.tOutdoor := rfl
  have neither : ¬ (s.frost.stage = .thaw ∨ s.frost.stage = .lockout) := by simp [thaw, lock]
  have stage : ((severe s x).withFrost { (severe s x).frost with postThaw := none }).frost.stage = s.frost.stage := rfl
  have held : frostTaken s x = changeStage (borrowedStage x.tOutdoor)
      ((severe s x).withFrost { (severe s x).frost with postThaw := none }) := by
    rw [frostTaken_warm lock warm, if_neg (by simp [notThaw, thaw]), judgeStage, if_pos latched', faultHold]
    dsimp only
    rw [stage, outdoor, heldStage_eq, if_neg neither]
  have own (v : State) (st : FrostStage) : (changeStage st v).own.direction = v.own.direction := by
    have moved : (moveStage st v).own = v.own := moveStage_frame v st .own (by decide)
    rw [changeStage, recomputeCeil_own, ← moved]
  have direction := own ((severe s x).withFrost { (severe s x).frost with postThaw := none }) (borrowedStage x.tOutdoor)
  have frost := changeStage_frost ((severe s x).withFrost { (severe s x).frost with postThaw := none })
    (borrowedStage x.tOutdoor)
  rw [← held] at frost direction
  obtain ⟨stageNow, -, holdOff, postThaw, -⟩ := movedFrost_keeps (borrowedStage x.tOutdoor)
    ((severe s x).withFrost { (severe s x).frost with postThaw := none }).frost
  have moves := movedFrost_moves (st := borrowedStage x.tOutdoor)
    (f := ((severe s x).withFrost { (severe s x).frost with postThaw := none }).frost)
  rw [← frost] at stageNow holdOff postThaw moves
  refine ⟨stageNow, postThaw, direction, fun moved => ?_, fun claiming => ?_, holdOff⟩
  · obtain ⟨rise, fall, warm', -⟩ := moves fun same => moved (stageNow.trans same.symm)
    exact ⟨rise, fall, warm'⟩
  · refine (moves fun same => ?_).2.2.2 claiming
    have at_ : borrowedStage x.tOutdoor = .claiming := same.symm.trans claiming
    rcases borrowedStage_cases x.tOutdoor with h | h <;> rw [h] at at_ <;> exact absurd at_ (by decide)

/-- The post-thaw judgement of an evaluation (R134). -/
theorem judgeThaw_window {w : PostThaw} (h : s.frost.postThaw = some w) :
    (s.frost.severity < 3 → (judgeThaw s).frost.postThaw = none ∧ (judgeThaw s).frost.failed = 0 ∧
      (judgeThaw s).frost.failedTotal = s.frost.failedTotal) ∧
    (3 ≤ s.frost.severity ∧ w.seen = 0 →
      (judgeThaw s).frost.postThaw = some { seen := 1, high := true } ∧ (judgeThaw s).frost.failed = s.frost.failed) ∧
    (3 ≤ s.frost.severity ∧ w.seen ≠ 0 ∧ w.high = false →
      (judgeThaw s).frost.postThaw = none ∧ (judgeThaw s).frost.failed = s.frost.failed) ∧
    (3 ≤ s.frost.severity ∧ w.seen ≠ 0 ∧ w.high = true →
      (judgeThaw s).frost.postThaw = none ∧ (judgeThaw s).frost.failed = min (s.frost.failed + 1) 3 ∧
      (judgeThaw s).frost.failedTotal = min (s.frost.failedTotal + 1) 65535 ∧
      (s.frost.failed < 2 → (judgeThaw s).own.direction = s.own.direction ∧
        (judgeThaw s).frost.stage = s.frost.stage) ∧
      (2 ≤ s.frost.failed → (judgeThaw s).frost.stage = .lockout ∧
        (judgeThaw s).frost.cause = some LockCause.failed ∧ (judgeThaw s).frost.lockHalves = 0 ∧
        (judgeThaw s).own.direction = .halt ∧ (judgeThaw s).svc.writing.isSome = true)) := by
  refine ⟨fun low => ?_, fun ⟨high, first⟩ => ?_, fun ⟨high, second, no⟩ => ?_, fun ⟨high, second, yes⟩ => ?_⟩
  · rw [judgeThaw_passed h low]
    exact ⟨rfl, rfl, rfl⟩
  · rw [judgeThaw_first h high first]
    exact ⟨rfl, rfl⟩
  · rw [judgeThaw_second h high second, if_neg (by simp [no])]
    exact ⟨rfl, rfl⟩
  · rw [judgeThaw_second h high second, if_pos yes, thawFailed_eq]
    by_cases third : min (s.frost.failed + 1) 3 = 3
    · rw [if_pos third]
      obtain ⟨stage, cause, halves, window, -, failed, total, -⟩ := enterLockout_frost (failedOnce s) .failed
      exact ⟨window, failed, total, fun early => absurd third (by omega), fun _ => ⟨stage, cause, halves,
        (enterLockout_own (failedOnce s) .failed).1, enterLockout_writing (failedOnce s) .failed⟩⟩
    · rw [if_neg third]
      exact ⟨rfl, rfl, rfl, fun _ => ⟨rfl, rfl⟩, fun late => absurd third (by omega)⟩

end

end Sys2Proof.Laws
end

section
/-! ## The climate evaluation settles its statement (R84, R85, R109, R110, R122, R123, R128 to R138, R152, R156) -/

namespace Sys2Proof.Laws

open Sys2Proof.Machine Sys2Proof.Safety

section
variable {s : State} {x : EvalInputs}

/-- C and F in RUN after an evaluation, its CHANGE and its pass, where it does not lock the station out. -/
theorem evaluation_settles (run : s.mode.mode = .run) (settled : ceilSettled (ratioWritten s x) (frostTaken s x)) :
    (frostTaken s x).own = { s.own with
      ceil := ceilingIn s s (frostTaken s x).frost.stage, flow := (frostTaken s x).own.flow
      ratio := (frostTaken s x).own.ratio, outdoor := (frostTaken s x).own.outdoor } ∧
    (frostTaken s x).own.flow = (if (frostTaken s x).own.ceil = s.own.ceil then s.own.flow
      else if s.mode.mode = .run ∧ s.pass.current = false ∧ s.own.direction ≠ .halt then
        min s.own.want (frostTaken s x).own.ceil
      else min s.own.flow (frostTaken s x).own.ceil) ∧
    (s.line.faultCount < 64 ∧ s.line.txq.length < 4 ∧ (∀ y ∈ s.line.txq, y.cls ≠ .change) →
      ((frostTaken s x).own.ceil < s.own.ceil ∧
          s.fan.ceilRef.any (fun r => decide ((frostTaken s x).own.ceil + 10 ≤ r)) = true →
        newEntry .change false s.own.node false [] ∈ (frostTaken s x).line.txq) ∧
      (s.own.ceil ≤ (frostTaken s x).own.ceil ∨
          s.fan.ceilRef.any (fun r => decide ((frostTaken s x).own.ceil + 10 ≤ r)) = false →
        ∀ y ∈ (frostTaken s x).line.txq, y.cls ≠ .change)) ∧
    ((frostTaken s x).pass = { s.pass with
        state := if decide (s.mode.mode = .run ∧ s.rev.gather = none ∧ (frostTaken s x).own.ceil ≠ s.own.ceil)
          then awaited s.pass.state else s.pass.state } ∧
      (frostTaken s x).unit = { s.unit with
        engine := .free
        waitPass := s.unit.waitPass ||
          (decide (s.mode.mode = .run ∧ s.rev.gather = none ∧ (frostTaken s x).own.ceil ≠ s.own.ceil) &&
            decide (s.pass.state = .idle)) }) ∧
    (frostTaken s x).fan = s.fan ∧
    (s.frost.stage ≠ .claiming ∧ (frostTaken s x).own.ceil = s.own.ceil → (frostTaken s x).line = s.line) := by
  obtain ⟨v, frame, ⟨count, length, mem⟩, quiet, stage, after⟩ := settled
  generalize frostTaken s x = w at *
  have base := ratioWritten_frame s x
  have own : v.own = (ratioWritten s x).own := frame .own (by decide)
  have unit : v.unit = { s.unit with engine := .free } := frame .unit (by decide)
  have line : (ratioWritten s x).line = s.line := base .line (by decide)
  have fan : v.fan = s.fan := (frame .fan (by decide)).trans (base .fan (by decide))
  have mode : v.mode = s.mode := (frame .mode (by decide)).trans (base .mode (by decide))
  have rev : v.rev = s.rev := (frame .rev (by decide)).trans (base .rev (by decide))
  have pass : v.pass = s.pass := (frame .pass (by decide)).trans (base .pass (by decide))
  have filt : v.filt = s.filt := (frame .filt (by decide)).trans (base .filt (by decide))
  have svc : v.svc = s.svc := (frame .svc (by decide)).trans (base .svc (by decide))
  have frost : (ratioWritten s x).frost = s.frost := base .frost (by decide)
  rw [ratioWritten_own] at own
  rw [line] at count length mem quiet
  rw [frost] at quiet
  have ceil : ceilNow v = ceilingIn s s w.frost.stage := by
    rw [ceilNow_of (s := s) (v := v) (by rw [own]) fan (by rw [svc]), stage]
    unfold ceilingIn
    rw [filt]
  have ceil' : v.own.ceil = s.own.ceil := by rw [own]
  have own' : w.own = _ := (after .own (by decide)).trans (recomputeCeil_own v)
  have line' : w.line = (recomputeCeil v).line := after .line (by decide)
  have fan' : w.fan = s.fan := (after .fan (by decide)).trans ((recomputeCeil_frame v .fan (by decide)).trans fan)
  have newCeil : w.own.ceil = ceilNow v := by rw [own']
  obtain ⟨asked, again⟩ := recomputeCeil_asked v
    (again := decide (s.mode.mode = .run ∧ s.rev.gather = none ∧ ceilNow v ≠ s.own.ceil))
    (by rw [mode, rev, ceil']; exact decide_eq_true_iff)
  have change := recomputeCeil_change (s := v) (by rw [mode]; exact run)
  have same : ceilNow v = v.own.ceil → (recomputeCeil v).line = v.line := fun h => by rw [recomputeCeil_of_eq v h]
  rw [← after .pass (by decide), pass] at asked
  rw [← after .unit (by decide), unit, pass] at again
  rw [← line', count, fan, ceil'] at change
  rw [← line', ceil'] at same
  have node : v.own.node = s.own.node := by rw [own]
  rw [node] at change
  rw [newCeil]
  refine ⟨?_, ?_, fun ⟨h, room, fresh⟩ => change h (Nat.lt_of_le_of_lt length room) fun y hy hc => ?_,
    ⟨asked, again⟩, fan', fun ⟨other, h⟩ => (same h).trans (quiet other)⟩
  · rw [own', ceil, own]
  · rw [own']
    dsimp only
    rw [flowUnder, ceil', mode, pass, own]
  · exact fresh y ((mem y hc).mp hy) hc

/-- HALT after an evaluation that locks the station out in RUN (R3, R136). -/
theorem evaluation_locks (run : s.mode.mode = .run) (stage : s.frost.stage ≠ .lockout) (blows : s.own.direction ≠ .halt)
    (locked : (frostTaken s x).frost.stage = .lockout) :
    (frostTaken s x).own = { s.own with
      direction := .halt, want := 0, ceil := 0, flow := 0
      ratio := (frostTaken s x).own.ratio, outdoor := (frostTaken s x).own.outdoor } ∧
    (s.line.faultCount < 64 ∧ s.line.txq.length < 4 ∧ (∀ y ∈ s.line.txq, y.cls ≠ .change) →
      newEntry .change true s.own.node false [] ∈ (frostTaken s x).line.txq) ∧
    ((frostTaken s x).pass = { s.pass with
        state := if decide (s.mode.mode = .run ∧ s.rev.gather = none ∧ s.own.direction ≠ .halt)
          then awaited s.pass.state else s.pass.state } ∧
      (frostTaken s x).unit = { s.unit with
        engine := .free
        waitPass := s.unit.waitPass ||
          (decide (s.mode.mode = .run ∧ s.rev.gather = none ∧ s.own.direction ≠ .halt) &&
            decide (s.pass.state = .idle)) }) ∧
    (frostTaken s x).fan.wanted = .halt ∧ (s.fan.state = .running → (frostTaken s x).fan.state = .rampDown ∧
      (frostTaken s x).fan.target = some .halt) := by
  obtain ⟨v, cause, approaches, locks⟩ := frostTaken_locks stage locked
  rw [locks, enterLockout_halts]
  have entered := lockoutEntered_frame v cause
  have changes := lockoutEntered_changes v cause
  generalize lockoutEntered v cause = h at *
  have base := ratioWritten_frame s x
  have line : (ratioWritten s x).line = s.line := base .line (by decide)
  have welcome := approaches.welcome
  have count := changes.1.trans approaches.count
  rw [line] at welcome count
  have own : h.own = { (ratioWritten s x).own with ceil := h.own.ceil, flow := h.own.flow } := by
    have same : h.own = v.own := entered .own (by decide)
    rw [same]
    exact approaches.own
  rw [ratioWritten_own] at own
  have halt : h.own.direction ≠ .halt := by rw [own]; exact blows
  have mode : h.mode = s.mode :=
    (entered .mode (by decide)).trans ((approaches.frame .mode (by decide)).trans (base .mode (by decide)))
  have rev : h.rev = s.rev :=
    (entered .rev (by decide)).trans ((approaches.frame .rev (by decide)).trans (base .rev (by decide)))
  have fan : h.fan = s.fan :=
    (entered .fan (by decide)).trans ((approaches.frame .fan (by decide)).trans (base .fan (by decide)))
  have pass : h.pass = v.pass := entered .pass (by decide)
  have unit : h.unit = v.unit := entered .unit (by decide)
  obtain ⟨a, before, due⟩ := approaches.asked
  have halting := haltInside_asked (s := h)
    (again := decide (s.mode.mode = .run ∧ s.rev.gather = none ∧ s.own.direction ≠ .halt))
    (by rw [mode, rev, decide_eq_true_iff, own])
  have asked := before.trans (halting.of_eq pass unit) fun ha => by
    obtain ⟨run', closed⟩ := due ha
    rw [base .mode (by decide)] at run'
    rw [base .rev (by decide)] at closed
    exact decide_eq_true ⟨run', closed, blows⟩
  have own' := haltInside_own halt
  have urgent := haltInside_line (s := h) (by rw [mode]; exact run) halt
  have node : h.own.node = s.own.node := by rw [own]
  have running := haltInside_running (s := h)
  rw [fan] at running
  have wanted := haltInside_wanted halt
  have unit' : (ratioWritten s x).unit = { s.unit with engine := .free } := rfl
  have pass' : (ratioWritten s x).pass = s.pass := base .pass (by decide)
  rw [passAsked, pass', unit'] at asked
  rw [node] at urgent
  refine ⟨?_, fun ⟨open_, room, fresh⟩ => ?_, asked, wanted, fun rotates => running rotates halt⟩
  · rw [own', own]
  · rw [urgent]
    exact (queueChange_welcome true s.own.node (by rw [count]; exact open_)
      (changes.welcome (welcome (changeWelcome_of_fresh fresh room)))).1

/-! ### The demand unit (R152, R156) -/

theorem resultTaken_demand : (resultTaken s x).demand = { s.demand with
    humidity := (humidityVerdict (humidityThreshold (frostTaken s x)) x.rh x.prevRh s.demand
      (Count.later s.time.now (runOnLength (frostTaken s x)))).1
    runOn := (humidityVerdict (humidityThreshold (frostTaken s x)) x.rh x.prevRh s.demand
      (Count.later s.time.now (runOnLength (frostTaken s x)))).2
    dryGuard := (resultTaken s x).demand.dryGuard, dryCount := (resultTaken s x).demand.dryCount } := by
  have humid := applyHumidity_demand (frostTaken s x) x.rh x.prevRh
  have dry := applyDryGuard_fields (applyHumidity x.rh x.prevRh (frostTaken s x)) x.rh x.tOutdoor
  have time : (frostTaken s x).time = s.time :=
    ((frostTaken_handsOn s x).frame .time (by decide)).trans (ratioWritten_frame s x .time (by decide))
  rw [frostTaken_demand, time] at humid
  rw [← resultTaken, humid] at dry
  exact dry

theorem runOnLength_taken : runOnLength (frostTaken s x) = runOnLength s := by
  rw [runOnLength, runOnLength, paramNat_congr frostTaken_params]

/-- The humidity threshold of the room (R152). -/
def humidityLimit (s : State) : Option Int :=
  match s.own.room with
  | .wet => some (60 + 5 * param s 5)
  | .kitchen => some (65 + 5 * param s 5)
  | _ => none

theorem threshold_taken : humidityThreshold (frostTaken s x) = humidityLimit s := by
  unfold humidityThreshold humidityLimit
  rw [frostTaken_room, param_congr frostTaken_params]
  cases s.own.room <;> rfl

/-- The dry guard is judged in a demand unit whose guard is that of before (R156). -/
theorem resultTaken_guard : ∃ y, y.demand.dryGuard = s.demand.dryGuard ∧ y.demand.dryCount = s.demand.dryCount ∧
    resultTaken s x = applyDryGuard x.rh x.tOutdoor y := by
  have humid := applyHumidity_demand (frostTaken s x) x.rh x.prevRh
  rw [frostTaken_demand] at humid
  exact ⟨applyHumidity x.rh x.prevRh (frostTaken s x), by rw [humid], by rw [humid], rfl⟩

end

end Sys2Proof.Laws
end

section
/-! ## Climate evaluations apply (R109, R110, R122, R123, R128 to R138, R152, R156) -/

namespace Sys2Proof.Laws

open Sys2Proof.Machine Sys2Proof.Safety

section
variable {s : State} {x : EvalInputs} {t : Count}

theorem completeClimate_takes {a : Count} {ms : Nat} (busy : s.unit.engine = .climate x a ms false) :
    completeClimate (advanceTo t s) = resultTaken (advanceTo t s) x := by
  rw [completeClimate_of (by rw [advanceTo_unit]; exact busy), if_neg Bool.false_ne_true]

theorem taken_frost : (finish (resultTaken s x)).frost = (frostTaken s x).frost :=
  resultTaken_demandOnly s x .frost (by decide)

theorem taken_own : (finish (resultTaken s x)).own = (frostTaken s x).own :=
  resultTaken_demandOnly s x .own (by decide)

theorem taken_fan : (finish (resultTaken s x)).fan = (frostTaken s x).fan :=
  resultTaken_demandOnly s x .fan (by decide)

theorem taken_svc : (finish (resultTaken s x)).svc = (frostTaken s x).svc :=
  resultTaken_demandOnly s x .svc (by decide)

theorem taken_line : (finish (resultTaken s x)).line = (frostTaken s x).line :=
  resultTaken_demandOnly s x .line (by decide)

theorem taken_pass : (finish (resultTaken s x)).pass = (frostTaken s x).pass :=
  resultTaken_demandOnly s x .pass (by decide)

theorem taken_unit : (finish (resultTaken s x)).unit = (frostTaken s x).unit :=
  resultTaken_demandOnly s x .unit (by decide)

theorem taken_within : othersKept [.own, .line, .unit, .pass, .fan, .clim, .frost, .demand, .cond, .svc] s
    (finish (resultTaken s x)) := finish_within (resultTaken_frame s x)

theorem param_advanceTo (i : Fin 21) : param (advanceTo t s) i = param s i :=
  param_congr (by rw [advanceTo_svc]) i

theorem ceilingIn_advanceTo (st : FrostStage) :
    ceilingIn (advanceTo t s) (advanceTo t s) st = ceilingIn s s st := by
  have params : paramNat (advanceTo t s) 9 = paramNat s 9 := paramNat_congr (by rw [advanceTo_svc]) 9
  unfold ceilingIn
  rw [advanceTo_own, advanceTo_filt, advanceTo_fan, params]

theorem limit_advanceTo : humidityLimit (advanceTo t s) = humidityLimit s := by
  unfold humidityLimit
  rw [advanceTo_own, param_advanceTo]

/-- The frost block that the stage is judged in: that of `s` with the severity of the result. -/
theorem severe_at : (severe (advanceTo t s) x).frost =
    { s.frost with severity := (frostTaken (advanceTo t s) x).frost.severity } := by
  rw [frostTaken_severity, severe_frost, advanceTo_frost]

theorem taken_climatePart : (frostTaken s x).own.ratio = (ratioWritten s x).own.ratio ∧
    (frostTaken s x).own.outdoor = (ratioWritten s x).own.outdoor := by
  have base := (frostTaken_handsOn s x).own
  have ratio := congrArg OwnRecord.ratio base
  have outdoor := congrArg OwnRecord.outdoor base
  exact ⟨ratio, outdoor⟩

theorem computedRatio_eq (x : EvalInputs) : computedRatio x = (match x.tSup, x.tRoom, x.tOutdoor with
    | some sup, some room, some out =>
      if x.stage ≠ .thaw ∧ x.stage ≠ .lockout ∧ x.afterIn = true ∧ x.source = .own ∧ 30 ≤ room - out then
        some (max 0 (min (((sup - out) * 1000).tdiv (room - out)) 1000)).toNat
      else none
    | _, _, _ => none) := by
  unfold computedRatio recoveryRatio clampInt
  cases x.tSup <;> cases x.tRoom <;> cases x.tOutdoor <;> rfl

end

theorem ceilingIn_congr {s v : State} {st : FrostStage} (filt : v.filt = s.filt) :
    ceilingIn s v st = ceilingIn s s st := by
  simp only [ceilingIn, filt]

/-- Settles O57: the result goes to the own climate part, the frost guard and the demand unit in turn. -/
theorem climateEvaluationApplies : Obligations.ClimateEvaluationApplies := by
  refine ⟨?writes, ?humidity, ?demand, ?stages, ?window, ?held, ?thaw, ?ceiling, ?halt⟩
  case writes =>
    intro t s x a ms busy inRange
    refine ⟨finish (completeClimate (advanceTo t s)), rfl, ?_⟩
    rw [completeClimate_takes busy]
    obtain ⟨-, -, -, ratios⟩ := inRange
    have clim : (finish (resultTaken (advanceTo t s) x)).clim = _ :=
      (resultTaken_clim (advanceTo t s) x).trans (ratioWritten_clim (advanceTo t s) x)
    obtain ⟨ratio, outdoor⟩ := taken_climatePart (s := advanceTo t s) (x := x)
    have severity := (frostTaken_severity (advanceTo t s) x).trans (severityAfter_of (advanceTo t s) x)
    have unit := congrArg CalcUnit.engine (resultTaken_unitBase (advanceTo t s) x)
    have cold {v : Int} := frostTaken_cold (s := advanceTo t s) (x := x) (v := v)
    have thaws {v : Int} := frostTaken_thaws (s := advanceTo t s) (x := x) (v := v)
    have locks := enterLockout_frost (severe (advanceTo t s) x) .cold
    have halts := enterLockout_own (severe (advanceTo t s) x) .cold
    have writing := enterLockout_writing (severe (advanceTo t s) x) .cold
    have judged := frostTaken_transition (s := advanceTo t s) (x := x)
    have fromNone := stageTransition_fromNoFrost (s := severe (advanceTo t s) x)
    have ended := endLockout_frost (severe (advanceTo t s) x)
    rw [ratioWritten_own, advanceTo_own, advanceTo_clim] at ratio outdoor
    rw [advanceTo_clim, advanceTo_frost] at severity
    rw [advanceTo_clim] at clim
    simp only [advanceTo_frost, param_advanceTo] at cold thaws judged
    rw [severe_direction, advanceTo_own] at halts
    rw [severe_at] at fromNone ended
    rw [taken_own, taken_frost, taken_fan, taken_svc, clim, ratio, outdoor]
    have within := taken_within (s := advanceTo t s) (x := x)
    intro rho
    have hrho : rho = computedRatio x := (computedRatio_eq x).symm
    rw [hrho]
    clear_value rho
    clear hrho rho clim ratio outdoor
    refine ⟨rfl, ?_, rfl, ?_, severity, fun v hv below stage => ?_, fun v hv above_ stage once => ?_,
      fun latched notThaw stage warm oe closed => ?_, unit, within⟩
    · cases computedRatio x with
      | none => rfl
      | some v => exact joinRatio_eq ratios v
    · rw [outdoorAfter]
    · rw [cold stage hv below]
      obtain ⟨stageNow, cause, -, postThaw, granted, -⟩ := locks
      obtain ⟨direction, zero⟩ := halts
      exact ⟨stageNow, cause, granted, postThaw, direction, zero, writing⟩
    · rw [thaws stage hv above_ once, ended]
      exact ⟨(movedFrost_keeps .noFrost _).1, rfl, rfl⟩
    · rw [judged notThaw (by rw [stage]; decide) (by rw [stage]; decide) warm latched oe closed] at fromNone ⊢
      rw [fromNone stage]
      generalize (stageTransition (severe (advanceTo t s) x)).frost.severity = n
      cases n <;> rfl
  case humidity =>
    intro t s x a ms busy
    refine ⟨finish (completeClimate (advanceTo t s)), rfl, ?_⟩
    rw [completeClimate_takes busy]
    have demand := resultTaken_demand (s := advanceTo t s) (x := x)
    rw [threshold_taken, limit_advanceTo, runOnLength_taken, runOnLength_advanceTo, advanceTo_demand, runOnLength_eq] at demand
    exact ⟨demand, taken_within⟩
  case demand =>
    intro t s x a ms rh out busy hrh hout
    refine ⟨finish (completeClimate (advanceTo t s)), rfl, ?_⟩
    rw [completeClimate_takes busy]
    have demand : (finish (resultTaken (advanceTo t s) x)).demand = _ := resultTaken_demand (s := advanceTo t s) (x := x)
    rw [threshold_taken, limit_advanceTo, runOnLength_taken, runOnLength_advanceTo, advanceTo_demand, hrh] at demand
    obtain ⟨y, guard, count, taken⟩ := resultTaken_guard (s := advanceTo t s) (x := x)
    rw [hrh, hout] at taken
    rw [advanceTo_demand] at guard count
    have on := applyDryGuard_on y (rh := rh) (out := out)
    have second := applyDryGuard_second y (rh := rh) (out := out)
    rw [← taken, guard] at on
    rw [← taken, guard, count] at second
    refine ⟨fun ⟨room, high⟩ => ?_, fun ⟨room, high⟩ => ?_, fun room => ?_, on,
      fun ⟨off, once, dry, cold⟩ => second off once dry cold, by rw [demand], by rw [demand]⟩
    · have limit : humidityLimit s = some (60 + 5 * param s 5) := by rw [humidityLimit, room]
      rw [demand, limit, humidityVerdict, if_pos (.inl high)]
      exact ⟨rfl, rfl⟩
    · have limit : humidityLimit s = some (65 + 5 * param s 5) := by rw [humidityLimit, room]
      rw [demand, limit, humidityVerdict, if_pos (.inl high)]
      exact ⟨rfl, rfl⟩
    · have limit : humidityLimit s = none := by rcases room with room | room <;> rw [humidityLimit, room]
      rw [demand, limit]
      exact ⟨rfl, rfl⟩
  case stages =>
    intro t s x a ms busy notThaw thaw lock warm latched oe closed
    refine ⟨finish (completeClimate (advanceTo t s)), rfl, ?_⟩
    rw [completeClimate_takes busy, taken_frost, taken_own]
    have judged := frostTaken_transition (s := advanceTo t s) (x := x)
    simp only [advanceTo_frost, param_advanceTo] at judged
    have moved := judged notThaw thaw lock warm latched oe closed
    have sv := severe_at (s := s) (x := x) (t := t)
    have fromNone := stageTransition_fromNoFrost (s := severe (advanceTo t s) x)
    have fromWatch := stageTransition_fromWatch (s := severe (advanceTo t s) x)
    have fromTrim := stageTransition_fromTrim (s := severe (advanceTo t s) x)
    have fromClaiming := stageTransition_fromClaiming (s := severe (advanceTo t s) x)
    have holdOff := stageTransition_holdOff (s := severe (advanceTo t s) x)
    have direction := (stageTransition_fields (severe (advanceTo t s) x)).2.2.2.2.2
    rw [← moved] at fromNone fromWatch fromTrim fromClaiming holdOff direction
    rw [severe_direction, advanceTo_own] at direction
    generalize frostTaken (advanceTo t s) x = w at *
    rw [sv] at fromNone fromWatch fromTrim fromClaiming holdOff
    exact ⟨fromNone, fromWatch, fromTrim, fromClaiming, direction, holdOff.1, holdOff.2⟩
  case window =>
    intro t s x a ms w busy notThaw thaw lock warm latched oe window
    refine ⟨finish (completeClimate (advanceTo t s)), rfl, ?_⟩
    rw [completeClimate_takes busy, taken_frost, taken_own, taken_svc]
    have judged := frostTaken_judged (s := advanceTo t s) (x := x)
    simp only [advanceTo_frost, param_advanceTo] at judged
    have moved := judged notThaw thaw lock warm latched oe
    obtain ⟨severity, postThaw, total, failed, notLocked, direction⟩ := stageTransition_fields (severe (advanceTo t s) x)
    have sv := severe_at (s := s) (x := x) (t := t)
    have thawed := judgeThaw_window (s := stageTransition (severe (advanceTo t s) x)) (w := w)
      (by rw [postThaw, sv]; exact window)
    rw [← moved] at thawed
    rw [severe_direction, advanceTo_own] at direction
    generalize stageTransition (severe (advanceTo t s) x) = y at *
    generalize frostTaken (advanceTo t s) x = z at *
    rw [sv] at severity total failed notLocked
    rw [severity, total, direction] at thawed
    obtain ⟨passed, first, single, third⟩ := thawed
    dsimp only at failed notLocked
    refine ⟨passed, fun h => ?_, fun h => ?_, fun h => ?_⟩
    · rw [← failed h.1]
      exact first h
    · rw [← failed h.1]
      exact single h
    · obtain ⟨none_, count, sum, early, late⟩ := third h
      rw [failed h.1] at count early late
      exact ⟨none_, count, sum, fun few => ⟨(early few).1, by rw [(early few).2]; exact notLocked lock⟩, late⟩
  case held =>
    intro t s x a ms busy notThaw thaw lock warm latched
    refine ⟨finish (completeClimate (advanceTo t s)), rfl, ?_⟩
    rw [completeClimate_takes busy, taken_frost, taken_own]
    have held := frostTaken_held (s := advanceTo t s) (x := x)
    simp only [advanceTo_frost, param_advanceTo] at held
    obtain ⟨stage, postThaw, direction, moved, claiming, holdOff⟩ := held notThaw thaw lock warm latched
    have severity : x.tOe = none → (frostTaken (advanceTo t s) x).frost.severity = s.frost.severity := fun none_ => by
      rw [frostTaken_severity, severityAfter_of, none_, advanceTo_frost]
    rw [advanceTo_own] at direction
    exact ⟨stage, postThaw, direction, severity, moved, claiming, holdOff⟩
  case thaw =>
    intro t s x a ms busy thaw lock warm
    refine ⟨finish (completeClimate (advanceTo t s)), rfl, ?_⟩
    rw [completeClimate_takes busy, taken_frost, taken_own]
    have alone := frostTaken_warm (s := advanceTo t s) (x := x)
    simp only [advanceTo_frost, param_advanceTo] at alone
    have same := alone lock warm
    rw [if_pos thaw] at same
    have frost := severe_at (s := s) (x := x) (t := t)
    have own := severe_own (advanceTo t s) x
    rw [ratioWritten_own, advanceTo_own] at own
    rw [← same] at frost own
    generalize frostTaken (advanceTo t s) x = w at *
    rw [own]
    exact ⟨frost, rfl, rfl⟩
  case ceiling =>
    intro t s x a ms busy run closed
    refine ⟨finish (completeClimate (advanceTo t s)), rfl, ?_⟩
    rw [completeClimate_takes busy, taken_frost, taken_own, taken_line, taken_pass, taken_unit, taken_fan]
    intro trims ceiling ⟨open_, due⟩
    have ceil : ceilNow (ratioWritten (advanceTo t s) x) = ceiling s.frost.stage := by
      rw [ceilNow_of (s := s) (v := ratioWritten (advanceTo t s) x) (by rw [ratioWritten_own, advanceTo_own])
        ((ratioWritten_frame _ x .fan (by decide)).trans (advanceTo_fan t s))
        (by rw [ratioWritten_frame _ x .svc (by decide), advanceTo_svc]),
        ratioWritten_frame _ x .frost (by decide), advanceTo_frost]
      exact (ceilingIn_congr ((ratioWritten_frame _ x .filt (by decide)).trans (advanceTo_filt t s))).trans rfl
    have settled := frostTaken_settles (s := advanceTo t s) (x := x) (by rw [advanceTo_frost]; exact closed)
      (by rw [advanceTo_frost]; exact open_)
      (by rw [ceil, advanceTo_frost, ratioWritten_own, advanceTo_own]; exact due)
    have settles := evaluation_settles (s := advanceTo t s) (x := x) (by rw [advanceTo_mode]; exact run) settled
    simp only [advanceTo_own, advanceTo_mode, advanceTo_pass, advanceTo_line, advanceTo_fan, advanceTo_rev,
      advanceTo_unit, advanceTo_frost] at settles
    obtain ⟨own, flow, change, ⟨pass, unit⟩, fan, line⟩ := settles
    rw [ceilingIn_advanceTo] at own
    refine ⟨own, flow, change, ⟨?_, unit⟩, fan, line⟩
    rw [pass]
    cases s.pass.state <;> rfl
  case halt =>
    intro t s x a ms busy run lock blows
    refine ⟨finish (completeClimate (advanceTo t s)), rfl, ?_⟩
    rw [completeClimate_takes busy, taken_frost, taken_own, taken_line, taken_pass, taken_unit, taken_fan]
    intro locked
    have locks := evaluation_locks (s := advanceTo t s) (x := x) (by rw [advanceTo_mode]; exact run)
      (by rw [advanceTo_frost]; exact lock) (by rw [advanceTo_own]; exact blows) locked
    simp only [advanceTo_own, advanceTo_mode, advanceTo_pass, advanceTo_line, advanceTo_fan, advanceTo_rev,
      advanceTo_unit] at locks
    obtain ⟨own, change, ⟨pass, unit⟩, wanted, running⟩ := locks
    refine ⟨own, change, ⟨?_, unit⟩, wanted, running⟩
    rw [pass]
    cases s.pass.state <;> rfl

end Sys2Proof.Laws
end

section
/-! ## The fan curve and the step of the fan drive (R98, R99, R102 to R105, R112) -/

namespace Sys2Proof.Laws

open Sys2Proof.Machine Sys2Proof.Safety

/-! ### The fan curve (R102) -/

/-- The point of the fan curve at 15 codes an index, from its parameter in tens of rpm. -/
def curveCode (s : State) (n : Nat) : Int :=
  [param s 12, param s 13, param s 14, param s 15, param s 16, param s 17, param s 18, param s 19,
    param s 20].getD n 0 * 10

theorem curvePoint_eq (s : State) (n : Nat) : curvePoint s n = curveCode s n := by
  match n with
  | 0 | 1 | 2 | 3 | 4 | 5 | 6 | 7 | 8 => rfl
  | _ + 9 => rfl

theorem curveSpeed_eq (s : State) (flow : Nat) : curveSpeed s flow =
    if flow < 120 then curveCode s (flow / 15)
      + ((curveCode s (flow / 15 + 1) - curveCode s (flow / 15)) * (flow - 15 * (flow / 15) : Nat)).tdiv 15
    else curveCode s 8 := by
  simp only [curveSpeed, curvePoint_eq]

theorem curveSpeed_congr {s v : State} (h : v.svc.params = s.svc.params) (flow : Nat) :
    curveSpeed v flow = curveSpeed s flow := by
  simp only [curveSpeed_eq, curveCode, param_congr h]

/-! ### A step (R96 to R99, R103, R112) -/

section
variable {s : State}

/-- The state that a step starts from: the clock at the step, and the step counted. -/
def stepped (s : State) : State := countStep (advanceTo s.fan.nextStep s)

theorem stepped_frame (s : State) : othersKept [.fan] (advanceTo s.fan.nextStep s) (stepped s) := withFan_frame _ _

theorem stepped_fan (s : State) : (stepped s).fan =
    { s.fan with nextStep := Count.later s.fan.nextStep 256, steps := min (s.fan.steps + 1) 20 } := by
  rw [stepped, countStep, State.withFan_fan, advanceTo_fan]
  rfl

theorem stepped_target (s : State) : targetSpeed (stepped s) = targetSpeed s := by
  have own : (stepped s).own = s.own := (stepped_frame s .own (by decide)).trans (advanceTo_own _ s)
  have params : (stepped s).svc.params = s.svc.params := by
    rw [stepped_frame s .svc (by decide), advanceTo_svc]
  rw [targetSpeed, targetSpeed, stepped_fan, own, curveSpeed_congr params]

theorem takeStep_of (found : s.fan.finding = .nothing) (stall : s.fan.stallSteps < 13) (short : s.fan.shortSteps < 41) :
    takeStep s = enterWindow s.fan.state s.fan.drive (stepState (stepped s)) := by
  have free : stepWaits s = false := by
    have noStall : ¬ stallPeriod ≤ s.fan.stallSteps := Nat.not_le.mpr stall
    have noShort : ¬ shortPeriod ≤ s.fan.shortSteps := Nat.not_le.mpr short
    simp [stepWaits, found, noStall, noShort]
  have fan := stepped_fan s
  rw [takeStep, if_neg (by simp [free])]
  dsimp only
  rw [← stepped, fan]

/-- The end of a step: what the state's step leaves, and the entry in the window (R112). -/
theorem stepEnds {v : State} (frame : othersKept [.fan] (stepped s) v) :
    othersKept [.fan, .cond] (advanceTo s.fan.nextStep s) (finish (enterWindow s.fan.state s.fan.drive v)) :=
  finish_within (othersKept_append (stepped_frame s) (othersKept_append frame (withFan_frame _ _)))

/-- The change of duty by a sixteenth of the error, within its limits (R99, R103). -/
theorem controlDuty_eq (low high target : Int) (speed duty : Nat) : controlDuty low high target speed duty =
    (max 0 (min ((duty : Int) + max low (min ((target - speed).tdiv 16) high)) 1000)).toNat := rfl

theorem foundSteps_eq {found : Bool} {n most : Nat} (h : n < most) :
    foundSteps found n most = if found = true then n + 1 else 0 := by
  unfold foundSteps
  split
  · exact Nat.min_eq_left h
  · rfl

/-- The end that the twentieth step of RAMP UP finds at the latest (R99). -/
theorem rampFinding_eq (target : Int) (speed steps : Nat) : rampFinding target speed (min (steps + 1) 20) =
    if ((speed : Int) - target).natAbs ≤ (target.tdiv 20).natAbs then .inBand
    else if steps < 19 then .nothing
    else if 150 ≤ target ∧ speed < 150 then .spinUpFailed else .timedOut := by
  unfold rampFinding inBand
  by_cases near : ((speed : Int) - target).natAbs ≤ (target.tdiv 20).natAbs
  · rw [if_pos (decide_eq_true near), if_pos near]
  · rw [if_neg fun h => near (of_decide_eq_true h), if_neg near]
    by_cases early : steps < 19
    · rw [if_neg (by omega), if_pos early]
    · rw [if_pos (by omega), if_neg early]

/-- The end that the twelfth step of COAST finds at the latest (R98). -/
theorem coastFinding_eq (full : Bool) (speed steps : Nat) : coastFinding full speed (min (steps + 1) 20) =
    if speed < 150 ∧ full = false ∨ 11 ≤ steps then .coastOver else .nothing := by
  have last : 12 ≤ min (steps + 1) 20 ↔ 11 ≤ steps := by omega
  simp only [coastFinding, last]

end

/-- Settles O51: the step is counted, done by the state of the fan, and entered in the window. -/
theorem fanStepsByState : Obligations.FanStepsByState := by
  refine ⟨?rampDown, ?running, ?rampUp, ?coast, ?still⟩
  case rampDown =>
    intro s found stall short state
    refine ⟨finish (takeStep s), rfl, ?_⟩
    have fan := stepped_fan s
    have step : stepState (stepped s) = stepRampDown (stepped s) := by rw [stepState, fan, state]
    have frame : othersKept [.fan] (stepped s) (stepRampDown (stepped s)) := by
      unfold stepRampDown
      dsimp only
      split
      · exact othersKept_trans (withFan_frame _ _) (enterCoast_frame _)
      · exact withFan_frame _ _
    have ends := stepEnds frame
    have effect : (stepRampDown (stepped s)).fan.duty = s.fan.duty - 100 ∧
        (stepRampDown (stepped s)).fan.speed = s.fan.speed ∧
        (stepRampDown (stepped s)).fan.state = (if s.fan.duty ≤ 100 then .coast else .rampDown) ∧
        (stepRampDown (stepped s)).fan.target = s.fan.target ∧
        (stepRampDown (stepped s)).fan.fullCoast = (if s.fan.duty ≤ 100 then s.fan.restart else s.fan.fullCoast) ∧
        (stepRampDown (stepped s)).fan.window = s.fan.window := by
      have slower : stepRampDown (stepped s) = if s.fan.duty ≤ 100
          then enterCoast ((stepped s).withFan { (stepped s).fan with duty := (stepped s).fan.duty - 100 })
          else (stepped s).withFan { (stepped s).fan with duty := (stepped s).fan.duty - 100 } := by
        have low : (stepped s).fan.duty - 100 = 0 ↔ s.fan.duty ≤ 100 := by rw [fan]; exact Nat.sub_eq_zero_iff_le
        simp only [stepRampDown, State.withFan_fan, low]
      by_cases low : s.fan.duty ≤ 100
      · rw [slower, if_pos low, if_pos low, if_pos low, fan]
        exact ⟨rfl, rfl, rfl, rfl, rfl, rfl⟩
      · rw [slower, if_neg low, if_neg low, if_neg low, fan]
        exact ⟨rfl, rfl, state, rfl, rfl, rfl⟩
    rw [takeStep_of found stall short, step]
    generalize stepRampDown (stepped s) = v at *
    obtain ⟨duty, speed, stateNow, target, full, window⟩ := effect
    refine ⟨duty, stateNow, target, full, ?_, ends⟩
    rw [finish_fan, enterWindow, State.withFan_fan, duty, speed, window]
  case running =>
    intro s found stall short state trial
    refine ⟨finish (takeStep s), rfl, ?_⟩
    have fan := stepped_fan s
    have target : targetSpeed (stepped s) = curveSpeed s s.own.flow := by
      rw [stepped_target, targetSpeed, if_neg trial]
    have step : stepState (stepped s) = stepRunning (stepped s) := by rw [stepState, fan, state]
    have frame : othersKept [.fan] (stepped s) (stepRunning (stepped s)) := withFan_frame _ _
    have ends := stepEnds frame
    have effect : (stepRunning (stepped s)).fan = { s.fan with
        nextStep := Count.later s.fan.nextStep 256, steps := min (s.fan.steps + 1) 20
        duty := controlDuty (-20) 20 (curveSpeed s s.own.flow) s.fan.speed s.fan.duty
        stallSteps := if s.fan.speed < 150 ∧ 300 ≤ controlDuty (-20) 20 (curveSpeed s s.own.flow) s.fan.speed s.fan.duty
          then s.fan.stallSteps + 1 else 0
        shortSteps := if controlDuty (-20) 20 (curveSpeed s s.own.flow) s.fan.speed s.fan.duty = 1000 ∧
            (s.fan.speed : Int) < curveSpeed s s.own.flow - 100 then s.fan.shortSteps + 1 else 0 } := by
      have stalls : stallFound s.fan.speed (controlDuty (-20) 20 (curveSpeed s s.own.flow) s.fan.speed s.fan.duty) = true ↔
          s.fan.speed < 150 ∧ 300 ≤ controlDuty (-20) 20 (curveSpeed s s.own.flow) s.fan.speed s.fan.duty := by
        simp [stallFound]
      have shorts : shortFound (curveSpeed s s.own.flow) s.fan.speed
            (controlDuty (-20) 20 (curveSpeed s s.own.flow) s.fan.speed s.fan.duty) = true ↔
          controlDuty (-20) 20 (curveSpeed s s.own.flow) s.fan.speed s.fan.duty = 1000 ∧
            (s.fan.speed : Int) < curveSpeed s s.own.flow - 100 := by simp [shortFound]
      rw [stepRunning, target, fan]
      dsimp only [State.withFan_fan]
      rw [foundSteps_eq (most := stallPeriod) stall, foundSteps_eq (most := shortPeriod) short]
      simp only [stalls, shorts]
    rw [takeStep_of found stall short, step]
    rw [controlDuty_eq, curveSpeed_eq] at effect
    generalize stepRunning (stepped s) = v at *
    refine ⟨?_, ?_, ?_, ?_, ?_, ?_, ?_, ends⟩
    all_goals rw [finish_fan, enterWindow, State.withFan_fan, effect]
    · rfl
    · exact state
    · rfl
    · rfl
    · rfl
  case rampUp =>
    intro s found stall short state
    refine ⟨finish (takeStep s), rfl, ?_⟩
    have fan := stepped_fan s
    have step : stepState (stepped s) = stepRampUp (stepped s) := by rw [stepState, fan, state]
    have frame : othersKept [.fan] (stepped s) (stepRampUp (stepped s)) := withFan_frame _ _
    have ends := stepEnds frame
    have effect : (stepRampUp (stepped s)).fan = { s.fan with
        nextStep := Count.later s.fan.nextStep 256, steps := min (s.fan.steps + 1) 20
        duty := controlDuty (-20) 100 (targetSpeed s) s.fan.speed s.fan.duty
        finding := if ((s.fan.speed : Int) - targetSpeed s).natAbs ≤ ((targetSpeed s).tdiv 20).natAbs then .inBand
          else if s.fan.steps < 19 then .nothing
          else if 150 ≤ targetSpeed s ∧ s.fan.speed < 150 then .spinUpFailed else .timedOut } := by
      rw [stepRampUp, stepped_target, fan]
      dsimp only [State.withFan_fan]
      rw [rampFinding_eq]
    rw [takeStep_of found stall short, step]
    rw [controlDuty_eq, targetSpeed, curveSpeed_eq] at effect
    generalize stepRampUp (stepped s) = v at *
    refine ⟨?_, ?_, ?_, ?_, ends⟩
    all_goals rw [finish_fan, enterWindow, State.withFan_fan, effect]
    · rfl
    · exact state
    · rfl
    · rfl
  case coast =>
    intro s found stall short state
    refine ⟨finish (takeStep s), rfl, ?_⟩
    have fan := stepped_fan s
    have step : stepState (stepped s) = stepCoast (stepped s) := by rw [stepState, fan, state]
    have frame : othersKept [.fan] (stepped s) (stepCoast (stepped s)) := withFan_frame _ _
    have ends := stepEnds frame
    have effect : (stepCoast (stepped s)).fan = { s.fan with
        nextStep := Count.later s.fan.nextStep 256, steps := min (s.fan.steps + 1) 20, duty := 0
        finding := if s.fan.speed < 150 ∧ s.fan.fullCoast = false ∨ 11 ≤ s.fan.steps then .coastOver else .nothing } := by
      rw [stepCoast, fan]
      dsimp only [State.withFan_fan]
      rw [coastFinding_eq]
    rw [takeStep_of found stall short, step]
    generalize stepCoast (stepped s) = v at *
    refine ⟨?_, ?_, ?_, ?_, ends⟩
    all_goals rw [finish_fan, enterWindow, State.withFan_fan, effect]
    exact state
  case still =>
    intro s found stall short state
    refine ⟨finish (takeStep s), rfl, ?_⟩
    have fan := stepped_fan s
    have step : stepState (stepped s) = stepped s := by
      rcases state with h | h | h <;> rw [stepState, fan, h]
    have ends := stepEnds (othersKept_refl [.fan] (stepped s))
    rw [takeStep_of found stall short, step]
    generalize stepped s = v at *
    refine ⟨?_, ?_, ?_, ?_, ends⟩
    all_goals rw [finish_fan, enterWindow, State.withFan_fan, fan]

end Sys2Proof.Laws
end

section
/-! ## The ends of COAST and RAMP UP, and the FAN STALL latch (R98, R99, R105 to R107, R111) -/

namespace Sys2Proof.Laws

open Sys2Proof.Machine Sys2Proof.Safety

section
variable {s : State} {cause : StallCause}

/-! ### The latch (R106) -/

/-- FAN STALL latched for the first time, before the direction becomes HALT (R106). -/
def latched (cause : StallCause) (s : State) : State :=
  s.withFan { s.fan with latch := some cause, stallHistory := none, restart := false }

theorem latchFanStall_of_none (h : s.fan.latch = none) : latchFanStall cause s = haltInside (latched cause s) := by
  rw [latchFanStall, h]
  rfl

theorem latchFanStall_of_some {x : StallCause} (h : s.fan.latch = some x) :
    latchFanStall cause s = s.withFan { s.fan with latch := some cause } := by
  rw [latchFanStall, h]

/-- In RUN the latch writes HALT with D, C and F at 0, queues an urgent CHANGE and is a re-pass trigger (R3, R85,
R110). -/
theorem latchFanStall_calls (latch : s.fan.latch = none) (run : s.mode.mode = .run) (direction : s.own.direction ≠ .halt)
    (opens : s.line.faultCount < 64) (fresh : ∀ x ∈ s.line.txq, x.cls ≠ .change) (room : s.line.txq.length < 4) :
    (latchFanStall cause s).own = { s.own with direction := .halt, want := 0, ceil := 0, flow := 0 } ∧
    (∃ e ∈ (latchFanStall cause s).line.txq, e.cls = .change ∧ e.urgent = true) ∧
    passAsked (decide (s.mode.mode = .run ∧ s.rev.gather = none ∧ s.own.direction ≠ .halt)) s (latchFanStall cause s) := by
  rw [latchFanStall_of_none latch]
  refine ⟨haltInside_own (s := latched cause s) direction, ⟨newEntry .change true s.own.node false [], ?_, rfl, rfl⟩,
    (haltInside_asked (s := latched cause s) decide_eq_true_iff).of_eq rfl rfl⟩
  rw [haltInside_line (s := latched cause s) run direction]
  exact queueChange_stands (s := latched cause s) opens room fresh s.own.node

/-- A stop request to a fan that spins up or runs (R97). -/
theorem stopRequest_turning (h : s.fan.state = .running ∨ s.fan.state = .rampUp) :
    stopRequest s = rampDownTo .halt (s.withFan { s.fan with wanted := .halt, restart := false }) := by
  rcases h with h | h <;> rw [stopRequest, h]

theorem latchFanStall_rampsDown (latch : s.fan.latch = none) (direction : s.own.direction ≠ .halt)
    (h : s.fan.state = .running ∨ s.fan.state = .rampUp) :
    (latchFanStall cause s).fan.latch = some cause ∧ (latchFanStall cause s).fan.state = .rampDown ∧
    (latchFanStall cause s).fan.target = some .halt ∧ (latchFanStall cause s).fan.stallHistory = none ∧
    (latchFanStall cause s).fan.restart = false ∧ (latchFanStall cause s).fan.wanted = .halt := by
  have fan : (haltCalled (latched cause s)).fan = (latched cause s).fan := haltCalled_frame _ .fan (by decide)
  have stop := stopRequest_turning (s := haltCalled (latched cause s)) (by rw [fan]; exact h)
  rw [latchFanStall_of_none latch, haltInside_of_ne (s := latched cause s) direction, stop, fan]
  exact ⟨rfl, rfl, rfl, rfl, rfl, rfl⟩

/-! ### A stall (R105) -/

theorem stallNow_first (restart : s.fan.restart = false) (first : firstStall s = true) :
    stallNow s = rampDownTo (dirOfSide s.fan.drive)
      (s.withFan { s.fan with stallHistory := some s.time.now, restart := true }) :=
  if_pos ⟨restart, first⟩

theorem stallNow_again (h : ¬ (s.fan.restart = false ∧ firstStall s = true)) :
    stallNow s = latchFanStall .spin s :=
  if_neg h

theorem firstStall_none (h : s.fan.stallHistory = none) : firstStall s = true := by
  rw [firstStall, h]

theorem firstStall_some {i : Count} (h : s.fan.stallHistory = some i) :
    firstStall s = true ↔ 614400 < (s.time.now - i).toNat := by
  rw [firstStall, h]
  exact decide_eq_true_iff

/-- A first stall restarts the fan in its own direction (R105). -/
theorem stallNow_restarts (restart : s.fan.restart = false) (first : firstStall s = true) :
    (stallNow s).fan.state = .rampDown ∧ (stallNow s).fan.target = some (dirOfSide s.fan.drive) ∧
    (stallNow s).fan.restart = true ∧ (stallNow s).fan.stallHistory = some s.time.now ∧
    (stallNow s).fan.duty = s.fan.duty ∧ (stallNow s).fan.latch = s.fan.latch ∧
    (stallNow s).fan.wanted = s.fan.wanted ∧ othersKept [.fan, .cond] s (finish (stallNow s)) := by
  rw [stallNow_first restart first]
  exact ⟨rfl, rfl, rfl, rfl, rfl, rfl, rfl,
    finish_within (othersKept_append (withFan_frame s _) (rampDownTo_frame _ _))⟩

/-- Any other stall latches FAN STALL with cause SPIN, HALT and an urgent CHANGE (R105, R106). -/
theorem stallNow_latches (stall : ¬ (s.fan.restart = false ∧ firstStall s = true))
    (turns : s.fan.state = .running ∨ s.fan.state = .rampUp)
    (run : s.mode.mode = .run) (direction : s.own.direction ≠ .halt) (latch : s.fan.latch = none)
    (opens : s.line.faultCount < 64) (fresh : ∀ x ∈ s.line.txq, x.cls ≠ .change) (room : s.line.txq.length < 4) :
    (stallNow s).fan.latch = some .spin ∧ (stallNow s).fan.state = .rampDown ∧
    (stallNow s).fan.target = some .halt ∧ (stallNow s).fan.stallHistory = none ∧
    (stallNow s).fan.restart = false ∧ (stallNow s).fan.wanted = .halt ∧
    (stallNow s).own = { s.own with direction := .halt, want := 0, ceil := 0, flow := 0 } ∧
    (∃ e ∈ (stallNow s).line.txq, e.cls = .change ∧ e.urgent = true) ∧
    (s.rev.gather = none → (stallNow s).pass.state ≠ .idle) ∧
    passAsked (decide (s.mode.mode = .run ∧ s.rev.gather = none ∧ s.own.direction ≠ .halt)) s (stallNow s) ∧
    othersKept [.own, .line, .unit, .pass, .fan, .cond] s (finish (stallNow s)) := by
  obtain ⟨cause, state, target, history, restart, wanted⟩ := latchFanStall_rampsDown (cause := .spin) latch direction turns
  obtain ⟨own, change, asked⟩ := latchFanStall_calls (cause := .spin) latch run direction opens fresh room
  have frame : othersKept [.own, .line, .unit, .pass, .fan, .cond] s (finish (latchFanStall .spin s)) :=
    finish_within (latchFanStall_frame .spin s)
  rw [stallNow_again stall]
  refine ⟨cause, state, target, history, restart, wanted, own, change, fun closed => ?_, asked, frame⟩
  rw [decide_eq_true (⟨run, closed, direction⟩ : _ ∧ _ ∧ _)] at asked
  exact asked.of_true

/-! ### The ends of COAST and RAMP UP (R98, R99, R107, R111) -/

/-- COAST ends with a turn: RAMP UP in the direction of the reversal target (R98). -/
theorem endCoast_turns (state : s.fan.state = .coast) (found : s.fan.finding = .coastOver) {side : Side}
    (target : s.fan.target = some (dirOfSide side)) :
    endCoast s = enterRampUp (s.withFan { s.fan with drive := side }) := by
  rw [endCoast, if_pos ⟨state, found⟩, target]
  cases side <;> rfl

/-- COAST ends with the flap closing (R98, R111). -/
theorem endCoast_stops (state : s.fan.state = .coast) (found : s.fan.finding = .coastOver)
    (target : s.fan.target = some .halt) : endCoast s = fanStopped (closeFlap s) := by
  rw [endCoast, if_pos ⟨state, found⟩, target]
  rfl

/-- A trial over, passed unless the spin-up failed (R107). -/
def trialOver (s : State) : State :=
  s.withFan { s.fan with trial := .idle, latch := if s.fan.finding = .spinUpFailed then some .spin else none }

/-- RAMP UP of a trial ends with a stop, the trial passed unless the spin-up failed (R107). -/
theorem endRampUp_trial (state : s.fan.state = .rampUp) (some_ : s.fan.finding ≠ .nothing)
    (up : s.fan.finding ≠ .coastOver) (trial : s.fan.trial = .running) :
    endRampUp s = stopRequest (trialOver s) := by
  have runs : trialRuns s = true := decide_eq_true trial
  rw [endRampUp, if_pos state]
  cases found : s.fan.finding with
  | nothing => exact absurd found some_
  | coastOver => exact absurd found up
  | inBand | timedOut =>
    have passed : trialOver s = trialPassed s := by
      rw [trialOver, if_neg (by simp [found])]
      rfl
    rw [passed, runs]
    rfl
  | spinUpFailed =>
    have failed : trialOver s = trialFailed .spin s := by
      rw [trialOver, if_pos found]
      rfl
    rw [failed, runs]
    rfl

/-- RAMP UP at its band, or at its last step, enters RUNNING (R99). -/
theorem endRampUp_runs (state : s.fan.state = .rampUp) (found : s.fan.finding = .inBand ∨ s.fan.finding = .timedOut)
    (trial : s.fan.trial ≠ .running) : endRampUp s = enterRunning s := by
  have idle : trialRuns s = false := decide_eq_false trial
  rcases found with found | found <;> simp only [endRampUp, if_pos state, found, idle, Bool.false_eq_true, if_false]

/-- RAMP UP with a failed spin-up outside a trial is a stall (R99, R105). -/
theorem endRampUp_stalls (state : s.fan.state = .rampUp) (found : s.fan.finding = .spinUpFailed)
    (trial : s.fan.trial ≠ .running) : endRampUp s = stallNow s := by
  have idle : trialRuns s = false := decide_eq_false trial
  simp only [endRampUp, if_pos state, found, idle, Bool.false_eq_true, if_false]

/-- A fan that has entered RUNNING, before the comparison with the wanted direction (R97, R99). -/
def runningEntered (s : State) : State :=
  (enterFan .running s).withFan { (enterFan .running s).fan with target := none, restart := false }

theorem enterRunning_frame (s : State) : othersKept [.fan] s (enterRunning s) :=
  othersKept_mono (othersKept_append (enterFan_frame .running s) (othersKept_append (withFan_frame _ _)
    (compareWanted_frame _))) (by decide)

/-- RUNNING compares the wanted direction with its own (R97). -/
theorem enterRunning_eq (s : State) : enterRunning s =
    if s.fan.wanted = dirOfSide s.fan.drive then runningEntered s
    else rampDownTo s.fan.wanted (runningEntered s) := rfl

end

/-- Settles O52: COAST turns or closes the flap, RAMP UP runs, ends a trial, or stalls. -/
theorem coastAndRampUpEnd : Obligations.CoastAndRampUpEnd := by
  refine ⟨?turns, ?stops, ?runs, ?trial, ?first, ?late, ?marked, ?again⟩
  case turns =>
    intro s side state found target
    refine ⟨finish (endCoast s), rfl, ?_⟩
    rw [endCoast_turns state found target]
    exact ⟨rfl, rfl, rfl, rfl, rfl, rfl, rfl, finish_within
      (othersKept_append (withFan_frame s _) (othersKept_append (withFan_frame _ _) (enterFan_frame .rampUp _)))⟩
  case stops =>
    intro s state found target
    refine ⟨finish (endCoast s), rfl, ?_⟩
    have frame : othersKept [.own, .fan, .cond] s (finish (fanStopped (closeFlap s))) :=
      finish_within (othersKept_append (closeFlap_frame s) (fanStopped_frame _))
    have fan : (fanStopped (closeFlap s)).fan = (closeFlap s).fan := fanStopped_frame _ .fan (by decide)
    rw [endCoast_stops state found target]
    refine ⟨?_, ?_, ?_, ?_, ?_, frame⟩
    · exact congrArg FanDrive.state fan
    · exact congrArg FanDrive.flap fan
    · exact (congrArg FanDrive.drive fan).trans rfl
    · exact congrArg FanDrive.travel fan
    · exact apply_ite State.own (s.mode.mode = .run) (closeFlap s) (haltOwn (closeFlap s))
  case runs =>
    intro s state found trial
    refine ⟨finish (endRampUp s), rfl, ?_⟩
    rw [endRampUp_runs state found trial]
    have frame : othersKept [.fan, .cond] s (finish (enterRunning s)) := finish_within (enterRunning_frame s)
    by_cases same : s.fan.wanted = dirOfSide s.fan.drive
    · rw [enterRunning_eq, if_pos same] at *
      exact ⟨rfl, rfl, fun _ => ⟨rfl, rfl⟩, fun other => absurd same other, rfl, frame⟩
    · rw [enterRunning_eq, if_neg same] at *
      exact ⟨rfl, rfl, fun reached => absurd reached same, fun _ => ⟨rfl, rfl⟩, rfl, frame⟩
  case trial =>
    intro s state some_ up trial
    refine ⟨finish (endRampUp s), rfl, ?_⟩
    rw [endRampUp_trial state some_ up trial, stopRequest_turning (s := trialOver s) (.inr state)]
    exact ⟨rfl, rfl, rfl, rfl, rfl, rfl, finish_within (othersKept_append (withFan_frame s _)
      (othersKept_append (withFan_frame _ _) (rampDownTo_frame _ _)))⟩
  case first =>
    intro s state found trial restart history
    refine ⟨finish (endRampUp s), rfl, ?_⟩
    rw [endRampUp_stalls state found trial]
    exact stallNow_restarts restart (firstStall_none history)
  case late =>
    intro s i state found trial restart history past
    refine ⟨finish (endRampUp s), rfl, ?_⟩
    rw [endRampUp_stalls state found trial]
    exact stallNow_restarts restart ((firstStall_some history).mpr past)
  case marked =>
    intro s state found trial restart run direction latch opens fresh room
    refine ⟨finish (endRampUp s), rfl, ?_⟩
    rw [endRampUp_stalls state found trial]
    exact stallNow_latches (fun first => by simp [restart] at first) (.inr state) run direction latch opens fresh room
  case again =>
    intro s i state found trial restart history recent run direction latch opens fresh room
    refine ⟨finish (endRampUp s), rfl, ?_⟩
    have again : ¬ (s.fan.restart = false ∧ firstStall s = true) := fun first =>
      absurd ((firstStall_some history).mp first.2) (Nat.not_lt.mpr recent)
    rw [endRampUp_stalls state found trial]
    exact stallNow_latches again (.inr state) run direction latch opens fresh room

end Sys2Proof.Laws
end

section
/-! ## The stall in RUNNING and the flow-short cap (R102, R104, R105, R108 to R110) -/

namespace Sys2Proof.Laws

open Sys2Proof.Machine Sys2Proof.Safety

/-! ### The inverse of the curve (R102) -/

/-- The highest code up to `n` at which a curve lies at or below `speed`, or 0. -/
def highestCode (curve : Nat → Int) (speed : Int) (n : Nat) : Nat :=
  (((List.range (n + 1)).filter fun m => decide (curve m ≤ speed)).getLast?).getD 0

theorem highestCode_zero (curve : Nat → Int) (speed : Int) : highestCode curve speed 0 = 0 := by
  by_cases low : curve 0 ≤ speed <;> simp [highestCode, low]

theorem highestCode_succ (curve : Nat → Int) (speed : Int) (n : Nat) : highestCode curve speed (n + 1) =
    if curve (n + 1) ≤ speed then n + 1 else highestCode curve speed n := by
  rw [highestCode, List.range_succ, List.filter_append]
  by_cases low : curve (n + 1) ≤ speed
  · have last : [n + 1].filter (fun m => decide (curve m ≤ speed)) = [n + 1] := by simp [low]
    rw [last, List.getLast?_concat, if_pos low, Option.getD_some]
  · have none_ : [n + 1].filter (fun m => decide (curve m ≤ speed)) = [] := by simp [low]
    rw [none_, List.append_nil, if_neg low, highestCode]

theorem inverseUpTo_eq (s : State) (speed : Int) (n : Nat) :
    inverseUpTo s speed n = highestCode (curveSpeed s) speed n := by
  induction n with
  | zero => exact (highestCode_zero _ _).symm
  | succ n ih => rw [inverseUpTo, ih, highestCode_succ]

/-! ### FLOW_SHORT (R104) -/

section
variable (s : State)

/-- The code that the measured speed achieves. -/
def achievedCode : Nat := inverseCurve s s.fan.speed

/-- The cap, the shortfall and the fresh measure that FLOW_SHORT writes, before C follows. -/
def shortTaken : State :=
  s.withFan { s.fan with
    cap := some (lowerCap s.fan.cap (achievedCode s)), shortfall := s.own.flow - achievedCode s, shortSteps := 0 }

theorem takeFlowShort_of (state : s.fan.state = .running) (short : 41 ≤ s.fan.shortSteps) :
    takeFlowShort s = recomputeCeil (shortTaken s) := if_pos ⟨state, short⟩

/-- The ceiling of the direction in force under a flow-short cap. -/
def ceilUnder (cap : Nat) : Nat :=
  match s.own.direction with
  | .halt => 0
  | .inward => min cap (if s.frost.stage = .trim ∨ s.frost.stage = .claiming then s.filt.ceilIn * paramNat s 9 / 100
      else s.filt.ceilIn)
  | .outward => min cap s.filt.ceilOut

theorem ceilNow_shortTaken : ceilNow (shortTaken s) = ceilUnder s (lowerCap s.fan.cap (achievedCode s)) := by
  have direction : (shortTaken s).own = s.own := rfl
  rw [ceilNow, ceilingFor, ceilUnder, direction]
  cases s.own.direction with
  | halt | outward => rfl
  | inward =>
    by_cases trim : s.frost.stage = .trim ∨ s.frost.stage = .claiming
    · rw [if_pos trim, sideOf]
      exact congrArg (min (lowerCap s.fan.cap (achievedCode s))) (if_pos ((trimmed_iff _).mpr trim))
    · rw [if_neg trim, sideOf]
      exact congrArg (min (lowerCap s.fan.cap (achievedCode s))) (if_neg fun h => trim ((trimmed_iff _).mp h))

end

theorem lowerCap_eq (cap : Option Nat) (code : Nat) : lowerCap cap code = min (cap.getD code) code :=
  capped_eq cap code

/-- Settles O53: a stall restarts the fan or latches FAN STALL, flow short caps C. -/
theorem stallAndFlowShortAct : Obligations.StallAndFlowShortAct := by
  refine ⟨?first, ?late, ?again, ?short⟩
  case first =>
    intro s state steps restart history
    refine ⟨finish (takeStall s), rfl, ?_⟩
    rw [takeStall, if_pos ⟨state, steps⟩]
    exact stallNow_restarts restart (firstStall_none history)
  case late =>
    intro s i state steps restart history past
    refine ⟨finish (takeStall s), rfl, ?_⟩
    rw [takeStall, if_pos ⟨state, steps⟩]
    exact stallNow_restarts restart ((firstStall_some history).mpr past)
  case again =>
    intro s i state steps restart history recent run direction latch opens fresh room
    refine ⟨finish (takeStall s), rfl, ?_⟩
    have again : ¬ (s.fan.restart = false ∧ firstStall s = true) := fun first =>
      absurd ((firstStall_some history).mp first.2) (Nat.not_lt.mpr recent)
    rw [takeStall, if_pos ⟨state, steps⟩]
    exact stallNow_latches again (.inl state) run direction latch opens fresh room
  case short =>
    intro s state steps
    refine ⟨finish (takeFlowShort s), rfl, ?_⟩
    intro p curve code
    have achieved : achievedCode s = code := by
      rw [achievedCode, inverseCurve, inverseUpTo_eq, (funext (curveSpeed_eq s) : curveSpeed s = curve)]
      rfl
    have ceil := ceilNow_shortTaken s
    have own := recomputeCeil_own (shortTaken s)
    have fan : (recomputeCeil (shortTaken s)).fan = (shortTaken s).fan := recomputeCeil_frame _ .fan (by decide)
    have asked := recomputeCeil_asked (shortTaken s) (again := decide (s.mode.mode = .run ∧ s.rev.gather = none ∧
      ceilNow (shortTaken s) ≠ s.own.ceil)) decide_eq_true_iff
    have below : s.own.flow ≤ s.own.ceil → flowUnder (shortTaken s) (ceilNow (shortTaken s)) ≤ ceilNow (shortTaken s) :=
      flowUnder_le _
    have frame : othersKept [.own, .line, .unit, .pass, .fan, .cond] s (finish (recomputeCeil (shortTaken s))) :=
      finish_within (othersKept_append (withFan_frame s _) (recomputeCeil_frame (shortTaken s)))
    have announces : s.mode.mode = .run ∧ s.line.faultCount < 64 ∧ s.line.txq.length < 4 ∧
        (∀ x ∈ s.line.txq, x.cls ≠ .change) ∧ ceilNow (shortTaken s) < s.own.ceil ∧
        s.fan.ceilRef.any (fun r => decide (ceilNow (shortTaken s) + 10 ≤ r)) = true →
        newEntry .change false s.own.node false [] ∈ (recomputeCeil (shortTaken s)).line.txq := by
      intro ⟨run, opens, room, fresh, fell, low⟩
      exact (recomputeCeil_change (s := shortTaken s) run opens room fresh).1 ⟨fell, low⟩
    have silent : s.mode.mode ≠ .run ∨ s.own.ceil ≤ ceilNow (shortTaken s) ∨
        s.fan.ceilRef.any (fun r => decide (ceilNow (shortTaken s) + 10 ≤ r)) = false →
        (recomputeCeil (shortTaken s)).line = s.line := by
      intro stays
      refine recomputeCeil_silent (shortTaken s) fun ⟨run, fell, low⟩ => ?_
      rcases stays with rest | high | near
      · exact rest run
      · exact absurd fell (Nat.not_lt.mpr high)
      · exact absurd low (by rw [show (shortTaken s).fan.ceilRef = s.fan.ceilRef from rfl, near]; decide)
    rw [takeFlowShort_of s state steps]
    rw [achieved] at ceil
    have taken : (shortTaken s).fan = { s.fan with
        cap := some (lowerCap s.fan.cap code), shortfall := s.own.flow - code, shortSteps := 0 } := by
      rw [shortTaken, achieved]
      rfl
    rw [taken] at fan
    replace own : (recomputeCeil (shortTaken s)).own = { s.own with
        ceil := ceilNow (shortTaken s), flow := flowUnder (shortTaken s) (ceilNow (shortTaken s)) } := own
    replace asked := passAsked.of_eq asked (s := s) rfl rfl
    have flow : flowUnder (shortTaken s) (ceilNow (shortTaken s)) = if ceilNow (shortTaken s) = s.own.ceil then s.own.flow
        else if s.mode.mode = .run ∧ s.pass.current = false ∧ s.own.direction ≠ .halt then
          min s.own.want (ceilNow (shortTaken s))
        else min s.own.flow (ceilNow (shortTaken s)) := rfl
    generalize flowUnder (shortTaken s) (ceilNow (shortTaken s)) = f at *
    generalize ceilNow (shortTaken s) = c at *
    generalize recomputeCeil (shortTaken s) = u at *
    rw [finish_own, finish_fan, finish_pass, finish_unit, finish_line, own, fan]
    refine ⟨rfl, rfl, rfl, state, ?_, below, rfl, rfl, flow, asked, announces, silent, frame⟩
    rw [ceil, lowerCap_eq]
    rfl

end Sys2Proof.Laws
end

section
/-! ## The travels of the flap and the FAN STALL trial (R97, R101, R106, R107) -/

namespace Sys2Proof.Laws

open Sys2Proof.Machine Sys2Proof.Safety

section
variable {s : State}

theorem enterRampUp_frame (s : State) : othersKept [.fan] s (enterRampUp s) :=
  othersKept_mono (othersKept_append (withFan_frame s { s.fan with duty := 0 }) (enterFan_frame .rampUp _)) (by decide)

/-! ### Entry to STOPPED (R97, R101) -/

/-- A fan that has entered STOPPED, before the comparison with the wanted direction. -/
def stoppedEntered (s : State) : State :=
  (enterFan .stopped s).withFan { (enterFan .stopped s).fan with target := none }

theorem enterStopped_frame (s : State) : othersKept [.fan] s (enterStopped s) :=
  othersKept_mono (othersKept_append (enterFan_frame .stopped s) (othersKept_append (withFan_frame _ _)
    (compareWanted_frame _))) (by decide)

theorem enterStopped_halt (h : s.fan.wanted = .halt) : enterStopped s = stoppedEntered s := by
  have wanted : (stoppedEntered s).fan.wanted = .halt := h
  rw [enterStopped]
  dsimp only
  rw [← stoppedEntered, compareWanted, wanted]
  rfl

/-- A wanted direction opens the flap again (R97, R101). -/
theorem enterStopped_side {side : Side} (h : s.fan.wanted = dirOfSide side) :
    enterStopped s = openFlapFor side (stoppedEntered s) := by
  have wanted : (stoppedEntered s).fan.wanted = dirOfSide side := h
  rw [enterStopped]
  dsimp only
  rw [← stoppedEntered, compareWanted, wanted]
  cases side <;> rfl

theorem dirOfSide_of_ne {d : Dir} (h : d ≠ .halt) : ∃ side, d = dirOfSide side := by
  cases d with
  | halt => exact absurd rfl h
  | inward => exact ⟨.inward, rfl⟩
  | outward => exact ⟨.outward, rfl⟩

/-- STOPPED, or FLAP OPENING for the wanted direction; the latch, the trial and the wanted direction stay. -/
theorem enterStopped_settles (s : State) :
    (s.fan.wanted = .halt → (enterStopped s).fan.state = .stopped ∧ (enterStopped s).fan.target = none ∧
      (enterStopped s).fan.flap = s.fan.flap ∧ (enterStopped s).fan.travel = s.fan.travel) ∧
    (s.fan.wanted ≠ .halt → (enterStopped s).fan.state = .flapOpening ∧ (enterStopped s).fan.flap = .openFlap ∧
      dirOfSide (enterStopped s).fan.drive = s.fan.wanted) ∧
    (enterStopped s).fan.latch = s.fan.latch ∧ (enterStopped s).fan.trial = s.fan.trial ∧
    (enterStopped s).fan.stallHistory = s.fan.stallHistory ∧ (enterStopped s).fan.wanted = s.fan.wanted := by
  by_cases halt : s.fan.wanted = .halt
  · rw [enterStopped_halt halt]
    exact ⟨fun _ => ⟨rfl, rfl, rfl, rfl⟩, fun run => absurd halt run, rfl, rfl, rfl, rfl⟩
  · obtain ⟨side, wanted⟩ := dirOfSide_of_ne halt
    rw [enterStopped_side wanted]
    exact ⟨fun stop => absurd stop halt, fun _ => ⟨rfl, rfl, wanted.symm⟩, rfl, rfl, rfl, rfl⟩

/-! ### The end of a travel (R101, R107) -/

theorem flapArrives_opening (travel : s.fan.travel.isSome = true) (state : s.fan.state = .flapOpening) :
    flapArrives s = if s.fan.trial = .running ∧ s.fan.latch = some .flap then closeFlap s else enterRampUp (endTravel s) := by
  obtain ⟨i, travel⟩ := Option.isSome_iff_exists.mp travel
  have trial : flapTrial s = true ↔ s.fan.trial = .running ∧ s.fan.latch = some .flap := by
    simp [flapTrial, trialRuns]
  simp only [flapArrives, travel, state, trial]

theorem flapArrives_closing (travel : s.fan.travel.isSome = true) (state : s.fan.state = .flapClosing) :
    flapArrives s = enterStopped (if s.fan.trial = .running then trialPassed (endTravel s) else endTravel s) := by
  obtain ⟨i, travel⟩ := Option.isSome_iff_exists.mp travel
  have trial : trialRuns s = true ↔ s.fan.trial = .running := decide_eq_true_iff
  simp only [flapArrives, travel, state, trial]

theorem flapArrives_stopped (travel : s.fan.travel.isSome = true) (state : s.fan.state = .stopped) :
    flapArrives s = endTravel s := by
  obtain ⟨i, travel⟩ := Option.isSome_iff_exists.mp travel
  simp only [flapArrives, travel, state]

/-! ### The start of a trial (R107) -/

/-- The direction in which a trial blows: by the parity for cause SPIN. -/
def trialSide (s : State) : Side :=
  match s.fan.latch with
  | some .spin => paritySide (s.own.k.getD 0) s.own.lead
  | _ => s.fan.drive

/-- A trial begun: FLAP OPENING with a travel to open. -/
def trialBegun (s : State) : State :=
  enterFan .flapOpening (moveFlap .openFlap (s.withFan { s.fan with
    trial := .running, target := none, drive := trialSide s }))

theorem startTrial_of (run : s.mode.mode = .run) (state : s.fan.state = .stopped) (pending : s.fan.trial = .pending) :
    startTrial s = trialBegun s := if_pos ⟨run, state, pending⟩

theorem trialSide_spin {k : HalfNo} (latch : s.fan.latch = some .spin) (number : s.own.k = some k) :
    trialSide s = if (k.toNat + s.own.lead.toNat) % 2 = 0 then .inward else .outward := by
  rw [trialSide, latch, number]
  rfl

theorem trialBegun_frame (s : State) : othersKept [.fan] s (trialBegun s) :=
  othersKept_mono (othersKept_append (withFan_frame s { s.fan with
    trial := .running, target := none, drive := trialSide s }) (othersKept_append (withFan_frame _ _)
      (enterFan_frame .flapOpening _))) (by decide)

/-! ### A flap fault (R101, R106, R107) -/

section
variable {i : Count} (travel : s.fan.travel = some i)
include travel

theorem faultFlap_opening (state : s.fan.state = .flapOpening) :
    faultFlap s = latchFlap (closeFlap (setTarget (some .halt) (advanceTo i s))) := by
  simp only [faultFlap, travel, advanceTo_fan, state]

theorem faultFlap_closing (state : s.fan.state = .flapClosing) :
    faultFlap s = enterStopped (latchFlap (endTravel (advanceTo i s))) := by
  simp only [faultFlap, travel, advanceTo_fan, state]

theorem faultFlap_stopped (state : s.fan.state = .stopped) :
    faultFlap s = latchFlap (endTravel (advanceTo i s)) := by
  simp only [faultFlap, travel, advanceTo_fan, state]

end

/-- A fault in a trial ends it as failed, with cause FLAP (R107). -/
theorem latchFlap_trial (trial : s.fan.trial = .running) : latchFlap s = trialFailed .flap s := by
  have runs : trialRuns s = true := decide_eq_true trial
  rw [latchFlap, if_pos runs, latchFanStall_of_some (x := .flap) rfl]
  rfl

theorem latchFlap_idle (trial : s.fan.trial ≠ .running) : latchFlap s = latchFanStall .flap s := by
  have idle : ¬ trialRuns s = true := fun runs => trial (of_decide_eq_true runs)
  rw [latchFlap, if_neg idle]

/-- A stop request to a fan on its way to STOPPED in RUN (R97). -/
theorem stopRequest_closing (state : s.fan.state = .flapClosing) : (stopRequest s).fan =
    { s.fan with wanted := .halt, restart := false } := by
  rw [stopRequest, state]
  exact fanStopped_frame _ .fan (by decide)

/-- FAN STALL latched while the flap closes: the travel goes on (R101, R106). -/
theorem latchFanStall_closing (state : s.fan.state = .flapClosing) (latch : s.fan.latch = none)
    (direction : s.own.direction ≠ .halt) : (latchFanStall .flap s).fan =
    { s.fan with latch := some .flap, stallHistory := none, restart := false, wanted := .halt } := by
  have fan : (haltCalled (latched .flap s)).fan = (latched .flap s).fan := haltCalled_frame _ .fan (by decide)
  rw [latchFanStall_of_none latch, haltInside_of_ne (s := latched .flap s) direction,
    stopRequest_closing (s := haltCalled (latched .flap s)) (by rw [fan]; exact state), fan]
  rfl

/-- FAN STALL latched in HALT, or latched already: only the latch and its history change (R106). -/
theorem latchFanStall_quiet (h : s.own.direction = .halt ∨ s.fan.latch ≠ none) : latchFanStall .flap s =
    s.withFan { s.fan with
      latch := some .flap
      stallHistory := if s.fan.latch = none then none else s.fan.stallHistory
      restart := if s.fan.latch = none then false else s.fan.restart } := by
  cases latch : s.fan.latch with
  | none =>
    rw [latchFanStall_of_none latch, haltInside_of_eq (s := latched .flap s) (h.resolve_right fun some_ => some_ latch)]
    rfl
  | some x =>
    rw [latchFanStall_of_some latch]
    rfl

/-- What a flap fault keeps of a fan whose flap closes: the flap, the travel, and a stop that is wanted. -/
theorem latchFlap_closing (state : s.fan.state = .flapClosing) (wanted : s.fan.wanted = .halt) :
    (latchFlap s).fan.latch = some .flap ∧ (latchFlap s).fan.flap = s.fan.flap ∧
    (latchFlap s).fan.travel = s.fan.travel ∧ (latchFlap s).fan.wanted = .halt ∧
    (latchFlap s).fan.trial = (if s.fan.trial = .running then .idle else s.fan.trial) := by
  by_cases trial : s.fan.trial = .running
  · rw [latchFlap_trial trial, if_pos trial]
    exact ⟨rfl, rfl, rfl, wanted, rfl⟩
  · rw [latchFlap_idle trial, if_neg trial]
    by_cases quiet : s.own.direction = .halt ∨ s.fan.latch ≠ none
    · rw [latchFanStall_quiet quiet]
      exact ⟨rfl, rfl, rfl, wanted, rfl⟩
    · obtain ⟨direction, latch⟩ := not_or.mp quiet
      rw [latchFanStall_closing state (Decidable.not_not.mp latch) direction]
      exact ⟨rfl, rfl, rfl, rfl, rfl⟩

end

/-- Settles O54: the ends of a travel, its faults, and the start of a trial. -/
theorem flapTravelsAndTrials : Obligations.FlapTravelsAndTrials := by
  refine ⟨?opens, ?closes, ?faultsOpening, ?faultsClosing, ?settles, ?faultsStopped, ?faultsTrial, ?starts⟩
  case opens =>
    intro t s travel state
    refine ⟨finish (flapArrives (advanceTo t s)), rfl, ?_⟩
    have arrives := flapArrives_opening (s := advanceTo t s) (by rw [advanceTo_fan]; exact travel)
      (by rw [advanceTo_fan]; exact state)
    have fan := advanceTo_fan t s
    generalize advanceTo t s = v at *
    rw [← fan, arrives]
    by_cases trial : v.fan.trial = .running ∧ v.fan.latch = some .flap
    · have frame : othersKept [.fan, .cond] v (finish (closeFlap v)) := finish_within (closeFlap_frame v)
      rw [if_pos trial]
      exact ⟨fun _ => ⟨rfl, rfl, rfl⟩, fun other => other.elim (absurd trial.1) (absurd trial.2), rfl, rfl, frame⟩
    · have frame : othersKept [.fan, .cond] v (finish (enterRampUp (endTravel v))) :=
        finish_within (othersKept_append (withFan_frame v _) (enterRampUp_frame (endTravel v)))
      rw [if_neg trial]
      exact ⟨fun flap => absurd flap trial, fun _ => ⟨rfl, rfl, rfl, rfl⟩, rfl, rfl, frame⟩
  case closes =>
    intro t s travel state
    refine ⟨finish (flapArrives (advanceTo t s)), rfl, ?_⟩
    have arrives := flapArrives_closing (s := advanceTo t s) (by rw [advanceTo_fan]; exact travel)
      (by rw [advanceTo_fan]; exact state)
    have fan := advanceTo_fan t s
    generalize advanceTo t s = v at *
    rw [← fan, arrives]
    by_cases trial : v.fan.trial = .running
    · obtain ⟨stops, opens, latch, idle, -⟩ := enterStopped_settles (trialPassed (endTravel v))
      have frame : othersKept [.fan, .cond] v (finish (enterStopped (trialPassed (endTravel v)))) :=
        finish_within (othersKept_append (withFan_frame v _) (othersKept_append (withFan_frame (endTravel v) _)
          (enterStopped_frame _)))
      rw [if_pos trial, if_pos trial, if_pos trial]
      refine ⟨fun halt => ?_, opens, latch, idle, frame⟩
      obtain ⟨stopped, target, -, ended⟩ := stops halt
      exact ⟨stopped, target, ended⟩
    · obtain ⟨stops, opens, latch, idle, -⟩ := enterStopped_settles (endTravel v)
      have frame : othersKept [.fan, .cond] v (finish (enterStopped (endTravel v))) :=
        finish_within (othersKept_append (withFan_frame v _) (enterStopped_frame (endTravel v)))
      rw [if_neg trial, if_neg trial, if_neg trial]
      refine ⟨fun halt => ?_, opens, latch, idle, frame⟩
      obtain ⟨stopped, target, -, ended⟩ := stops halt
      exact ⟨stopped, target, ended⟩
  case faultsOpening =>
    intro s i travel state trial run direction latch opens fresh room
    refine ⟨finish (faultFlap s), rfl, ?_⟩
    have fan := advanceTo_fan i s
    have closing : (closeFlap (setTarget (some .halt) (advanceTo i s))).fan.latch = none := by
      rw [← fan] at latch
      exact latch
    have before : othersKept [.fan] (advanceTo i s) (closeFlap (setTarget (some .halt) (advanceTo i s))) :=
      othersKept_mono (othersKept_append (withFan_frame _ _) (closeFlap_frame _)) (by decide)
    have own := (before .own (by decide)).trans (advanceTo_own i s)
    have line := (before .line (by decide)).trans (advanceTo_line i s)
    have mode := (before .mode (by decide)).trans (advanceTo_mode i s)
    have rev := (before .rev (by decide)).trans (advanceTo_rev i s)
    have pass := (before .pass (by decide)).trans (advanceTo_pass i s)
    have unit := (before .unit (by decide)).trans (advanceTo_unit i s)
    have idle : (closeFlap (setTarget (some .halt) (advanceTo i s))).fan.trial ≠ .running := by
      rw [← fan] at trial
      exact trial
    have closed : (closeFlap (setTarget (some .halt) (advanceTo i s))).fan.state = .flapClosing ∧
        (closeFlap (setTarget (some .halt) (advanceTo i s))).fan.flap = .closed ∧
        (closeFlap (setTarget (some .halt) (advanceTo i s))).fan.travel =
          some (Count.later (advanceTo i s).time.now 10240) := ⟨rfl, rfl, rfl⟩
    rw [faultFlap_opening travel state, latchFlap_idle idle]
    generalize closeFlap (setTarget (some .halt) (advanceTo i s)) = v at *
    obtain ⟨state', flap, travel'⟩ := closed
    rw [← own] at direction
    rw [← line] at opens fresh room
    rw [← mode] at run
    obtain ⟨halted, change, asked⟩ := latchFanStall_calls (cause := .flap) closing run direction opens fresh room
    have effect := latchFanStall_closing state' closing direction
    have frame : othersKept [.own, .line, .unit, .pass, .fan, .cond] (advanceTo i s) (finish (latchFanStall .flap v)) :=
      finish_within (othersKept_append before (latchFanStall_frame .flap v))
    replace asked := asked.of_eq pass unit
    rw [own, rev, mode] at asked
    rw [own] at halted
    generalize latchFanStall .flap v = u at *
    rw [finish_fan, effect]
    exact ⟨rfl, state', flap, travel', rfl, rfl, rfl, halted, change, asked, frame⟩
  case faultsClosing =>
    intro s i travel state wanted
    refine ⟨finish (faultFlap s), rfl, ?_⟩
    have fan := advanceTo_fan i s
    have ended : (endTravel (advanceTo i s)).fan = { s.fan with travel := none } := by
      rw [endTravel, State.withFan_fan, fan]
    obtain ⟨latch, flap, travel', halt, trial⟩ := latchFlap_closing (s := endTravel (advanceTo i s))
      (by rw [ended]; exact state) (by rw [ended]; exact wanted)
    obtain ⟨stops, -, latch', trial', -⟩ := enterStopped_settles (latchFlap (endTravel (advanceTo i s)))
    obtain ⟨stopped, -, flap', travel''⟩ := stops halt
    rw [ended] at flap travel' trial
    rw [faultFlap_closing travel state]
    exact ⟨latch'.trans latch, stopped, flap'.trans flap, travel''.trans travel', trial'.trans trial⟩
  case settles =>
    intro t s travel state
    refine ⟨finish (flapArrives (advanceTo t s)), rfl, ?_⟩
    have fan := advanceTo_fan t s
    rw [flapArrives_stopped (s := advanceTo t s) (by rw [fan]; exact travel) (by rw [fan]; exact state)]
    refine ⟨?_, finish_within (withFan_frame (advanceTo t s) _)⟩
    rw [finish_fan, endTravel, State.withFan_fan, fan]
  case faultsStopped =>
    intro s i travel state trial direction
    refine ⟨finish (faultFlap s), rfl, ?_⟩
    have fan := advanceTo_fan i s
    have own := advanceTo_own i s
    have quiet := latchFanStall_quiet (s := endTravel (advanceTo i s)) (.inl ((congrArg OwnRecord.direction own).trans direction))
    have frame : othersKept [.fan, .cond] (advanceTo i s) (finish (latchFanStall .flap (endTravel (advanceTo i s)))) := by
      rw [quiet]
      exact finish_within (othersKept_append (withFan_frame (advanceTo i s) _) (withFan_frame _ _))
    have ended : (endTravel (advanceTo i s)).fan = { s.fan with travel := none } := by
      rw [endTravel, State.withFan_fan, fan]
    rw [faultFlap_stopped travel state, latchFlap_idle (by rw [ended]; exact trial)]
    have effect := congrArg State.fan quiet
    rw [State.withFan_fan, ended] at effect
    generalize latchFanStall .flap (endTravel (advanceTo i s)) = u at *
    rw [finish_fan, effect]
    exact ⟨rfl, rfl, state, rfl, rfl, rfl, rfl, rfl, frame⟩
  case faultsTrial =>
    intro s i travel trial state
    refine ⟨finish (faultFlap s), rfl, ?_⟩
    have fan := advanceTo_fan i s
    rcases state with state | state
    · have runs : (closeFlap (setTarget (some .halt) (advanceTo i s))).fan.trial = .running := by
        rw [← fan] at trial
        exact trial
      have frame : othersKept [.fan, .cond] (advanceTo i s)
          (finish (trialFailed .flap (closeFlap (setTarget (some .halt) (advanceTo i s))))) :=
        finish_within (othersKept_append (withFan_frame (advanceTo i s) _)
          (othersKept_append (closeFlap_frame _) (withFan_frame _ _)))
      rw [faultFlap_opening travel state, latchFlap_trial runs]
      generalize advanceTo i s = v at *
      rw [← fan]
      refine ⟨rfl, rfl, rfl, rfl, fun _ => ⟨rfl, rfl, rfl⟩, fun ⟨other, _⟩ => ?_, frame⟩
      rw [fan, state] at other
      cases other
    · have runs : (endTravel (advanceTo i s)).fan.trial = .running := by
        rw [← fan] at trial
        exact trial
      have frame : othersKept [.fan, .cond] (advanceTo i s)
          (finish (enterStopped (trialFailed .flap (endTravel (advanceTo i s))))) :=
        finish_within (othersKept_append (withFan_frame (advanceTo i s) _)
          (othersKept_append (withFan_frame _ _) (enterStopped_frame _)))
      obtain ⟨stops, -, latch, idle, history, wanted⟩ := enterStopped_settles (trialFailed .flap (endTravel (advanceTo i s)))
      rw [faultFlap_closing travel state, latchFlap_trial runs]
      generalize advanceTo i s = v at *
      rw [← fan]
      refine ⟨idle, latch, history, wanted, fun other => ?_, fun ⟨_, halt⟩ => ?_, frame⟩
      · rw [fan, state] at other
        cases other
      · obtain ⟨stopped, -, flap, ended⟩ := stops halt
        exact ⟨stopped, flap, ended⟩
  case starts =>
    intro t s k run state pending number
    refine ⟨finish (startTrial (advanceTo t s)), rfl, ?_⟩
    have fan := advanceTo_fan t s
    have own := advanceTo_own t s
    have mode := advanceTo_mode t s
    rw [← fan] at state pending ⊢
    rw [← own] at number ⊢
    rw [← mode] at run
    generalize advanceTo t s = v at *
    have frame : othersKept [.fan, .cond] v (finish (trialBegun v)) := finish_within (trialBegun_frame v)
    rw [startTrial_of run state pending]
    exact ⟨rfl, rfl, rfl, rfl, fun spin => trialSide_spin spin number, rfl, rfl, frame⟩

end Sys2Proof.Laws
end

section
/-! ## A conversion is judged and delivered (R7, R115, R116, R118 to R121, R163) -/

namespace Sys2Proof.Laws

open Sys2Proof.Machine Sys2Proof.Safety

/-! ### Judging (R115, R116) -/

theorem judgeResult_temperature {src : Source} (h : src ≠ .rh) (result : Int) : judgeResult src result =
    if (decide (-400 ≤ result) && decide (result ≤ 600)) = true then some result else none := by
  cases src with
  | rh => exact absurd rfl h
  | outer | inner => simp only [judgeResult, Bool.and_eq_true, decide_eq_true_eq]

theorem judgeResult_rh (result : Int) : judgeResult .rh result =
    if decide (0 ≤ result) = true then some (min result 100) else none := by
  by_cases low : result < 0
  · rw [judgeResult, if_pos low, if_neg (by simpa using low)]
  · rw [judgeResult, if_neg low, if_pos (by simpa using Int.not_lt.mp low)]

/-- A sensor after a judged result: a valid value is held, the third invalid one in a row latches. -/
def judgedAs (old : Sensor) (check valid : Bool) (value : Int) (mark : Bool) : Sensor :=
  if valid then { old with held := some value, invalid := 0, latched := old.latched && !check, clearMark := mark }
  else if old.latched then { old with clearMark := mark }
  else if old.invalid < 2 then { old with invalid := old.invalid + 1, clearMark := mark }
  else { old with invalid := 0, latched := true, clearMark := mark }

theorem judgeSensor_eq (old : Sensor) (check valid : Bool) (value : Int) (mark : Bool) :
    { judgeSensor (if valid = true then some value else none) check old with clearMark := mark } =
      judgedAs old check valid value mark := by
  cases valid with
  | true => rfl
  | false =>
    have third : old.invalid + 1 < 3 ↔ old.invalid < 2 := by omega
    simp only [judgeSensor, judgedAs, Bool.false_eq_true, if_false, third]
    split
    · rfl
    · split <;> rfl

/-- The reading that the judged sensor delivers. -/
def readingAs (valid : Bool) (value : Int) (after : Sensor) : Reading :=
  if after.latched then .absent
  else if valid then .fresh value
  else match after.held with
    | some v => .held v
    | none => .absent

theorem readingOf_eq (valid : Bool) (value : Int) (after : Sensor) :
    readingOf (if valid = true then some value else none) after = readingAs valid value after := by
  cases valid with
  | true => rfl
  | false =>
    simp only [readingOf, readingAs, Bool.false_eq_true, if_false]
    cases after.held <;> rfl

/-! ### The sets (R117, R118) -/

/-- A sample set with a reading put where the purposes of its half-cycle ask for it. -/
def filledSet (src : Source) (reading : Reading) (ps : List Purpose) (h : HalfTag) (old : SampleSet) : SampleSet :=
  { old with
    midInner := if src = .inner ∧ Purpose.midHalf h ∈ ps then reading else old.midInner
    endOuter := if src = .outer ∧ Purpose.endOfHalf h ∈ ps then reading else old.endOuter
    endInner := if src = .inner ∧ Purpose.endOfHalf h ∈ ps then reading else old.endInner
    endRh := if src = .rh ∧ Purpose.endOfHalf h ∈ ps then reading else old.endRh }

/-- One purpose puts a reading into the set of its half-cycle. -/
def putFor (src : Source) (reading : Reading) (p : Purpose) (h : HalfTag) (old : SampleSet) : SampleSet :=
  if purposeHalf p = h then putReading src p reading old else old

theorem filledSet_cons (src : Source) (reading : Reading) (p : Purpose) (ps : List Purpose) (h : HalfTag)
    (old : SampleSet) : filledSet src reading (p :: ps) h old = filledSet src reading ps h (putFor src reading p h old) := by
  cases p with
  | midHalf g =>
    by_cases same : g = h
    · subst same
      cases src <;> simp [filledSet, putFor, purposeHalf, putReading]
    · simp [filledSet, putFor, purposeHalf, same, Ne.symm same]
  | endOfHalf g =>
    by_cases same : g = h
    · subst same
      cases src <;> simp [filledSet, putFor, purposeHalf, putReading]
    · simp [filledSet, putFor, purposeHalf, same, Ne.symm same]
  | clearCheck => simp [filledSet, putFor, putReading]
  | rest => simp [filledSet, putFor, putReading]

theorem deliverSet_sets (src : Source) (r : Reading) (c : ClimateSensing) (p : Purpose) :
    (deliverSet src r c p).current = putFor src r p .current c.current ∧
      (deliverSet src r c p).previous = putFor src r p .previous c.previous := by
  unfold deliverSet putFor
  cases purposeHalf p <;> exact ⟨rfl, rfl⟩

theorem deliverSets_sets (src : Source) (r : Reading) (ps : List Purpose) (c : ClimateSensing) :
    (ps.foldl (deliverSet src r) c).current = filledSet src r ps .current c.current ∧
      (ps.foldl (deliverSet src r) c).previous = filledSet src r ps .previous c.previous := by
  induction ps generalizing c with
  | nil => simp [filledSet]
  | cons p ps ih =>
    obtain ⟨current, previous⟩ := deliverSet_sets src r c p
    rw [List.foldl_cons, (ih _).1, (ih _).2, filledSet_cons, filledSet_cons, current, previous]
    exact ⟨rfl, rfl⟩

/-- The purposes that end an OUT half-cycle whose set still stands. -/
theorem endsOutHalf_iff (c : ClimateSensing) (ps : List Purpose) : endsOutHalf c ps = true ↔
    (Purpose.endOfHalf .current ∈ ps ∧ c.current.direction = .outward) ∨
      (Purpose.endOfHalf .previous ∈ ps ∧ c.previous.direction = .outward) := by
  rw [endsOutHalf, List.any_eq_true]
  constructor
  · rintro ⟨p, mem, out⟩
    rcases p with h | h | _ | _
    · simp at out
    · cases h with
      | current => exact .inl ⟨mem, by simpa [setDirection] using out⟩
      | previous => exact .inr ⟨mem, by simpa [setDirection] using out⟩
      | gone => simp [setDirection] at out
    · simp at out
    · simp at out
  · rintro (⟨mem, out⟩ | ⟨mem, out⟩)
    · exact ⟨_, mem, by simp [setDirection, out]⟩
    · exact ⟨_, mem, by simp [setDirection, out]⟩

/-! ### The state after a conversion -/

section
variable {s : State} {x : Conversion} {result : Int}

theorem converterGoesOn_clim (s : State) : (converterGoesOn s).clim = withRequestsOf s.clim (converterGoesOn s).clim :=
  startConversion_fields s.clim

theorem converterGoesOn_frame (s : State) : othersKept [.clim] s (converterGoesOn s) := withClim_frame _ _

theorem humidityWakes_false {src : Source} {ps : List Purpose} {r : Reading}
    (h : src ≠ .rh ∨ Purpose.rest ∉ ps ∨ s.mode.mode ≠ .rest) : humidityWakes s src ps r = false := by
  rcases h with h | h | h <;> simp [humidityWakes, h]

/-- A conversion that wakes nothing: its result is delivered, and the converter goes on. -/
theorem completeConversion_quiet (converting : s.clim.converting = some x)
    (h : x.source ≠ .rh ∨ Purpose.rest ∉ x.purposes ∨ s.mode.mode ≠ .rest) :
    completeConversion result s = converterGoesOn (delivered s x result) := by
  have mode : (delivered s x result).mode = s.mode := delivered_frame s x result .mode (by decide)
  have quiet := humidityWakes_false (s := delivered s x result) (src := x.source) (ps := x.purposes)
    (r := readingOf (judgeResult x.source result) (sensorOf (delivered s x result).clim x.source)) (by rw [mode]; exact h)
  rw [completeConversion_of_some s result converting, if_neg (by simp [quiet])]

theorem sensorOf_delivered (s : State) (x : Conversion) (result : Int) :
    sensorOf (delivered s x result).clim x.source = judgedSensor x result s := by
  rw [delivered_clim]
  exact sensorOf_withSensor { s.clim with converting := none } x.source _

/-- The two sets after a conversion (R118). -/
theorem delivered_sets (s : State) (x : Conversion) (result : Int) :
    (delivered s x result).clim.current = filledSet x.source (readingOf (judgeResult x.source result) (judgedSensor x result s))
        x.purposes .current s.clim.current ∧
      (delivered s x result).clim.previous = filledSet x.source
        (readingOf (judgeResult x.source result) (judgedSensor x result s)) x.purposes .previous s.clim.previous := by
  have settled := (settleAwaiting_fields x.source x.purposes (deliver x.source x.purposes (judgeResult x.source result) s)).1
  obtain ⟨current, previous⟩ := deliverSets_sets x.source (readingOf (judgeResult x.source result) (judgedSensor x result s))
    x.purposes (withSensor { s.clim with converting := none } x.source (judgedSensor x result s))
  have start : (withSensor { s.clim with converting := none } x.source (judgedSensor x result s)).current = s.clim.current ∧
      (withSensor { s.clim with converting := none } x.source (judgedSensor x result s)).previous = s.clim.previous := by
    cases x.source <;> exact ⟨rfl, rfl⟩
  rw [start.1] at current
  rw [start.2] at previous
  exact ⟨(congrArg ClimateSensing.current settled).trans current, (congrArg ClimateSensing.previous settled).trans previous⟩

end

end Sys2Proof.Laws
end

section
/-! ## Conversions are judged (R7, R115, R116, R118 to R121) -/

namespace Sys2Proof.Laws

open Sys2Proof.Machine Sys2Proof.Safety

/-! ### The inputs of an evaluation (R120, R121) -/

/-- The fresh outdoor values that the records offer, of one facade or of every one (R121). -/
def climateOffer (records : List PeerRecord) (facade : Facade) (everyFacade : Bool) : List Int :=
  records.filterMap fun r =>
    match r.climate with
    | some p => if p.age < 8 ∧ (everyFacade ∨ p.facade = facade) then p.outdoor else none
    | none => none

theorem offered_all (records : List PeerRecord) (facade : Facade) :
    (offered records).map (fun x => x.2) = climateOffer records facade true := by
  rw [offered, climateOffer, List.map_filterMap]
  congr 1
  funext r
  cases r.climate with
  | none => rfl
  | some p => by_cases fresh : p.age < 8 <;> cases h : p.outdoor <;> simp [fresh, h]

theorem offered_facade (records : List PeerRecord) (facade : Facade) :
    ((offered records).filter fun x => x.1 = facade).map (fun x => x.2) = climateOffer records facade false := by
  rw [offered, climateOffer, List.filter_filterMap, List.map_filterMap]
  congr 1
  funext r
  cases r.climate with
  | none => rfl
  | some p =>
    by_cases fresh : p.age < 8 <;> by_cases own : p.facade = facade <;> cases h : p.outdoor <;>
      simp [fresh, own, h, Option.filter]

theorem leastOf_eq (l : List Int) : leastOf l = l.min? := by
  cases l <;> rfl

/-- The lowest offered value of the own facade, or else of all (R121). -/
def lowestOffer (offer : Bool → List Int) : Option Int :=
  match (offer false).min? with
  | some v => some v
  | none => (offer true).min?

theorem borrowedOutdoor_eq (s : State) :
    borrowedOutdoor s = lowestOffer (climateOffer s.peers.records s.own.facade) := by
  rw [borrowedOutdoor]
  rw [leastOf_eq, leastOf_eq, offered_facade, offered_all]
  rfl


/-- The inputs of an evaluation from the sensors, the borrowed outdoor value and two sets (R120, R121). -/
def inputsAs (outer inner rhSensor : Sensor) (lastRh borrowed : Option Int) (current previous : SampleSet) : EvalInputs :=
  let stage := current.stage.getD .noFrost
  let thawing := stage = .thaw ∨ stage = .lockout
  let afterIn := previous.direction = .inward
  let own := if thawing then inputOf outer current.endOuter
    else if afterIn ∧ previous.endOuter ≠ .notTaken then inputOf outer previous.endOuter
    else if outer.latched then none else outer.held
  let outdoor := if outer.latched then borrowed else own
  { stage := stage
    tOutdoor := outdoor
    source := if outdoor = none then .missing else if outer.latched then .borrowed else .own
    tSup := if ¬ thawing ∧ afterIn then inputOf inner previous.midInner else none
    tRoom := inputOf inner current.endInner
    tOe := inputOf outer current.endOuter
    rh := inputOf rhSensor current.endRh
    prevRh := lastRh
    outerLatched := outer.latched
    afterIn := decide afterIn }

theorem outdoorSource_eq (latched : Bool) (t : Option Int) : outdoorSource latched t =
    if t = none then .missing else if latched then .borrowed else .own := by
  cases t <;> rfl

theorem fixInputs_eq (s : State) (current previous : SampleSet) : fixInputs s current previous =
    inputsAs s.clim.outer s.clim.inner s.clim.rhSensor s.clim.lastRh (borrowedOutdoor s) current previous := by
  simp only [fixInputs, inputsAs, ownOutdoor, outdoorSource_eq, decide_eq_true_eq, decide_eq_false_iff_not]

/-! ### The due evaluation (R119) -/

section
variable {s : State} {x : Conversion} {result : Int}

/-- The last conversion that a due evaluation waits for fixes its inputs (R119). -/
theorem settleAwaiting_last {a : Awaiting} {ps : List Purpose} {src : Source} (due : s.clim.awaiting = some a)
    (ends : Purpose.endOfHalf a.half ∈ ps) (last : ∀ y ∈ a.sources, y = src) : settleAwaiting src ps s =
    requestClimate (inputsFor s a) (s.withClim { s.clim with awaiting := none }) := by
  have left : a.sources.filter (fun y => y ≠ src) = [] := by simpa using last
  simp only [settleAwaiting, due, if_pos ends, left, if_true]

theorem settleAwaiting_none (src : Source) (ps : List Purpose) (due : s.clim.awaiting = none) :
    settleAwaiting src ps s = s := by
  simp only [settleAwaiting, due]

/-- The inputs of a due evaluation are those of its half-cycle's sets. -/
theorem inputsFor_eq (s : State) (a : Awaiting) : inputsFor s a =
    fixInputs s (if a.half = .current then s.clim.current else s.clim.previous)
      (if a.half = .current then s.clim.previous else a.previous) := by
  rw [inputsFor]
  cases a.half <;> rfl

/-- The sensor of a conversion as its judged result leaves it (R115, R116). -/
theorem judgedSensor_as {y : Sensor} {valid : Bool} {value : Int}
    (result_ : judgeResult x.source result = if valid = true then some value else none)
    (h : y = { judgedSensor x result s with clearMark := y.clearMark }) :
    y = judgedAs (sensorOf s.clim x.source) (x.purposes.contains .clearCheck) valid value y.clearMark := by
  rw [judgedSensor, result_, judgeSensor_eq] at h
  exact h

/-- A conversion that wakes nothing: the judged sensor, the sets, the own record, and nothing else but a due
evaluation. -/
theorem completeConversion_parts (converting : s.clim.converting = some x)
    (h : x.source ≠ .rh ∨ Purpose.rest ∉ x.purposes ∨ s.mode.mode ≠ .rest) :
    sensorOf (completeConversion result s).clim x.source = judgedSensor x result s ∧
    (completeConversion result s).own = convertedOwn x result s ∧
    (completeConversion result s).clim.current = filledSet x.source
      (readingOf (judgeResult x.source result) (judgedSensor x result s)) x.purposes .current s.clim.current ∧
    (completeConversion result s).clim.previous = filledSet x.source
      (readingOf (judgeResult x.source result) (judgedSensor x result s)) x.purposes .previous s.clim.previous ∧
    othersKept [.own, .clim, .unit] s (completeConversion result s) := by
  obtain ⟨current, previous⟩ := delivered_sets s x result
  have sensor := sensorOf_delivered s x result
  have own := (converterGoesOn_frame (delivered s x result) .own (by decide)).trans (delivered_own s x result)
  have clim := converterGoesOn_clim (delivered s x result)
  have frame : othersKept [.own, .clim, .unit] s (converterGoesOn (delivered s x result)) :=
    othersKept_mono (othersKept_append (delivered_frame s x result) (converterGoesOn_frame _)) (by decide)
  rw [completeConversion_quiet converting h]
  refine ⟨?_, own, ?_, ?_, frame⟩
  · rw [clim, ← sensor]
    cases x.source <;> rfl
  · rw [clim]
    exact current
  · rw [clim]
    exact previous

/-- A temperature sensor after its conversion (R115, R116). -/
theorem completeConversion_temperature (converting : s.clim.converting = some x) (h : x.source ≠ .rh) :
    sensorOf (completeConversion result s).clim x.source =
        judgedAs (sensorOf s.clim x.source) (x.purposes.contains .clearCheck)
          (decide (-400 ≤ result) && decide (result ≤ 600)) result
          (sensorOf (completeConversion result s).clim x.source).clearMark ∧
    (completeConversion result s).own = writeClimatePart x.source (judgeResult x.source result)
      (sensorOf (completeConversion result s).clim x.source).latched (endsOutHalf s.clim x.purposes) s.own := by
  obtain ⟨sensor, own, -⟩ := completeConversion_parts (result := result) converting (.inl h)
  have same : sensorOf (completeConversion result s).clim x.source = { judgedSensor x result s with
      clearMark := (sensorOf (completeConversion result s).clim x.source).clearMark } := by rw [sensor]
  exact ⟨judgedSensor_as (judgeResult_temperature h result) same, by rw [own, sensor, convertedOwn]⟩

/-- The room temperature after an INNER result (R7, R115, R118). -/
theorem writeClimatePart_inner (latched : Bool) (c : ClimateSensing) (ps : List Purpose) (o : OwnRecord) :
    writeClimatePart .inner (judgeResult .inner result) latched (endsOutHalf c ps) o = { o with
      roomTemp := if latched then none
        else if -400 ≤ result ∧ result ≤ 600 ∧
            ((Purpose.endOfHalf .current ∈ ps ∧ c.current.direction = .outward) ∨
              (Purpose.endOfHalf .previous ∈ ps ∧ c.previous.direction = .outward)) then some result
        else o.roomTemp } := by
  cases latched with
  | true => rfl
  | false =>
    have reading : judgeResult .inner result = if -400 ≤ result ∧ result ≤ 600 then some result else none := rfl
    rw [if_neg Bool.false_ne_true]
    by_cases due : -400 ≤ result ∧ result ≤ 600 ∧
        ((Purpose.endOfHalf .current ∈ ps ∧ c.current.direction = .outward) ∨
          (Purpose.endOfHalf .previous ∈ ps ∧ c.previous.direction = .outward))
    · obtain ⟨low, high, ends⟩ := due
      rw [if_pos ⟨low, high, ends⟩, reading, if_pos ⟨low, high⟩]
      exact if_pos ⟨(endsOutHalf_iff c ps).mpr ends, rfl⟩
    · rw [if_neg due, reading]
      refine if_neg fun ⟨ends, valid⟩ => due ?_
      by_cases inside : -400 ≤ result ∧ result ≤ 600
      · exact ⟨inside.1, inside.2, (endsOutHalf_iff c ps).mp ends⟩
      · rw [if_neg inside] at valid
        cases valid

/-- What is held when a reading is not fresh (R115). -/
def heldReading (held : Option Int) : Reading :=
  match held with
  | some v => .held v
  | none => .absent

theorem judgeSensor_held (check : Bool) (y : Sensor) : (judgeSensor none check y).held = y.held := by
  unfold judgeSensor
  split
  · contradiction
  · split
    · rfl
    · split <;> rfl

/-- The reading of an end-of-half OUTER result (R115, R116). -/
theorem endOuterReading {y : Sensor} (outer : y = judgedSensor { source := .outer, purposes := [.endOfHalf .current] } result s) :
    readingOf (judgeResult .outer result) y = if y.latched then .absent
      else if -400 ≤ result ∧ result ≤ 600 then .fresh result else heldReading s.clim.outer.held := by
  have judge : judgeResult .outer result = if -400 ≤ result ∧ result ≤ 600 then some result else none := rfl
  by_cases valid : -400 ≤ result ∧ result ≤ 600
  · rw [judge, if_pos valid, if_pos valid]
    rfl
  · have held : y.held = s.clim.outer.held := by
      rw [outer, judgedSensor, judge, if_neg valid]
      exact judgeSensor_held _ _
    rw [judge, if_neg valid, if_neg valid, ← held]
    cases h : y.held <;> simp [readingOf, heldReading, h]

theorem filledSet_endOuter (r : Reading) (old : SampleSet) :
    filledSet .outer r [.endOfHalf .current] .current old = { old with endOuter := r } := by
  simp [filledSet]

theorem filledSet_other (r : Reading) (old : SampleSet) :
    filledSet .outer r [.endOfHalf .current] .previous old = old := by
  simp [filledSet]

theorem deliver_facade (src : Source) (ps : List Purpose) (valid : Option Int) (s : State) :
    (deliver src ps valid s).own.facade = s.own.facade := by
  rw [deliver, State.withClim_own, State.withOwn_own]
  unfold writeClimatePart
  split
  · split <;> rfl
  · split
    · rfl
    · split <;> rfl
  · split <;> rfl

theorem deliver_clim (src : Source) (ps : List Purpose) (valid : Option Int) (s : State) :
    (deliver src ps valid s).clim.lastRh = s.clim.lastRh ∧ (deliver src ps valid s).clim.awaiting = s.clim.awaiting := by
  have fields := deliverSets_fields src (readingOf valid (judgeSensor valid (ps.contains .clearCheck) (sensorOf s.clim src)))
    ps (withSensor { s.clim with converting := none } src
      (judgeSensor valid (ps.contains .clearCheck) (sensorOf s.clim src)))
  have clim : (deliver src ps valid s).clim = _ := fields
  rw [clim]
  cases src <;> exact ⟨rfl, rfl⟩

/-- The last conversion that a due evaluation waits for requests it with its inputs (R119). -/
theorem completeConversion_due {a : Awaiting} (converting : s.clim.converting = some x)
    (h : x.source ≠ .rh ∨ Purpose.rest ∉ x.purposes ∨ s.mode.mode ≠ .rest) (due : s.clim.awaiting = some a)
    (ends : Purpose.endOfHalf a.half ∈ x.purposes) (last : ∀ y ∈ a.sources, y = x.source)
    (free : s.unit.waitClimate = none) :
    (completeConversion result s).unit = { s.unit with
      waitClimate := some (inputsFor (deliver x.source x.purposes (judgeResult x.source result) s) a) } ∧
    (completeConversion result s).clim = withRequestsOf
      { (deliver x.source x.purposes (judgeResult x.source result) s).clim with awaiting := none }
      (completeConversion result s).clim := by
  have due' := (deliver_clim x.source x.purposes (judgeResult x.source result) s).2.trans due
  have unit : (deliver x.source x.purposes (judgeResult x.source result) s).unit = s.unit :=
    deliver_frame _ _ _ s .unit (by decide)
  have settled : delivered s x result = _ := settleAwaiting_last due' ends last
  have clim := converterGoesOn_clim (delivered s x result)
  rw [← completeConversion_quiet converting h] at clim
  refine ⟨?_, ?_⟩
  · rw [completeConversion_quiet converting h, converterGoesOn_frame _ .unit (by decide), settled, requestClimate,
      State.withUnit_unit, State.withClim_unit, unit, free]
    rfl
  · rw [settled] at clim
    exact clim

/-! ### A valid RH result, with or without a wake (R115, R163) -/

/-- The sensor RH and the RH value after its conversion, in every mode. -/
theorem completeConversion_rh (converting : s.clim.converting = some x) (source : x.source = .rh) :
    (completeConversion result s).clim.rhSensor = { judgedSensor x result s with
      clearMark := (completeConversion result s).clim.rhSensor.clearMark } ∧
    (completeConversion result s).own.rh = (convertedOwn x result s).rh := by
  have sensor : (delivered s x result).clim.rhSensor = judgedSensor x result s := by
    have judged := sensorOf_delivered s x result
    rw [source] at judged
    exact judged
  have own := delivered_own s x result
  rw [completeConversion_of_some s result converting]
  split
  · rw [converterGoesOn_joined]
    have frame := wakeStation_within true ((delivered s x result).withDemand
      { (delivered s x result).demand with humidity := .active })
    have clim := (frame .clim (by decide)).trans (joinEntry_clim _)
    have own' := (frame .own (by decide)).trans (joinEntry_own _)
    have rh : (delivered s x result).own.rh = (convertedOwn x result s).rh := congrArg OwnRecord.rh own
    rw [own', clim, ← sensor]
    exact ⟨rfl, rh⟩
  · have clim := converterGoesOn_clim (delivered s x result)
    rw [converterGoesOn_frame _ .own (by decide), own, clim]
    exact ⟨by rw [← sensor]; rfl, rfl⟩

end

/-- Settles O56: the sensor judged, its reading delivered to the sets, the own record, and a due evaluation. -/
theorem conversionsAreJudged : Obligations.ConversionsAreJudged := by
  refine ⟨?outer, ?inner, ?rh, ?room, ?endOuter, ?sets, ?others, ?inputs⟩
  case outer =>
    intro t s x result converting source
    refine ⟨finish (completeConversion result (advanceTo t s)), rfl, ?_⟩
    rw [← advanceTo_clim t s] at *
    generalize advanceTo t s = v at *
    obtain ⟨judged, own⟩ := completeConversion_temperature (result := result) converting (by rw [source]; decide)
    rw [source] at judged own
    refine ⟨judged, fun latched => ?_⟩
    rw [finish_own, own, show (sensorOf (completeConversion result v).clim .outer).latched = true from latched]
    rfl
  case inner =>
    intro t s x result converting source
    refine ⟨finish (completeConversion result (advanceTo t s)), rfl, ?_⟩
    rw [← advanceTo_clim t s] at *
    generalize advanceTo t s = v at *
    obtain ⟨judged, own⟩ := completeConversion_temperature (result := result) converting (by rw [source]; decide)
    rw [source] at judged own
    refine ⟨judged, fun latched => ?_⟩
    rw [finish_own, own, show (sensorOf (completeConversion result v).clim .inner).latched = true from latched]
    rfl
  case rh =>
    intro t s x result converting source
    refine ⟨finish (completeConversion result (advanceTo t s)), rfl, ?_⟩
    rw [← advanceTo_clim t s] at *
    generalize advanceTo t s = v at *
    obtain ⟨sensor, rh⟩ := completeConversion_rh (result := result) converting source
    have judged := judgedSensor_as (by rw [source]; exact judgeResult_rh result) sensor
    rw [source] at judged
    refine ⟨judged, fun valid => ?_⟩
    rw [finish_own, rh, convertedOwn_rh source]
    exact if_neg (Int.not_lt.mpr (of_decide_eq_true valid))
  case room =>
    intro t s x result converting source
    refine ⟨finish (completeConversion result (advanceTo t s)), rfl, ?_⟩
    rw [← advanceTo_clim t s, ← advanceTo_own t s] at *
    generalize advanceTo t s = v at *
    obtain ⟨-, own⟩ := completeConversion_temperature (result := result) converting (by rw [source]; decide)
    rw [source, writeClimatePart_inner] at own
    exact own
  case endOuter =>
    intro t s result converting due
    refine ⟨finish (completeConversion result (advanceTo t s)), rfl, ?_⟩
    rw [← advanceTo_clim t s] at *
    generalize advanceTo t s = v at *
    have quiet := completeConversion_quiet (result := result) converting (.inl (by decide))
    have undue : (deliver .outer [.endOfHalf .current] (judgeResult .outer result) v).clim.awaiting = none := due
    have same : delivered v { source := .outer, purposes := [.endOfHalf .current] } result =
        deliver .outer [.endOfHalf .current] (judgeResult .outer result) v := settleAwaiting_none _ _ undue
    have frame : othersKept [.own, .clim, .cond] v (finish (completeConversion result v)) := by
      rw [quiet, same]
      exact finish_within (othersKept_append (deliver_frame _ _ _ v) (converterGoesOn_frame _))
    have clim := converterGoesOn_clim (delivered v { source := .outer, purposes := [.endOfHalf .current] } result)
    rw [← quiet, delivered_clim] at clim
    obtain ⟨sensor, -, current, previous, -⟩ := completeConversion_parts (result := result) converting (.inl (by decide))
    have inner := congrArg ClimateSensing.inner clim
    have rhSensor := congrArg ClimateSensing.rhSensor clim
    have outer : (completeConversion result v).clim.outer =
        judgedSensor { source := .outer, purposes := [.endOfHalf .current] } result v := sensor
    rw [← outer, endOuterReading outer] at current
    rw [filledSet_endOuter] at current
    exact ⟨current, previous.trans (filledSet_other _ _), inner, rhSensor, frame⟩
  case sets =>
    intro t s x result converting awake
    refine ⟨finish (completeConversion result (advanceTo t s)), rfl, ?_⟩
    rw [← advanceTo_clim t s] at *
    generalize advanceTo t s = v at *
    obtain ⟨sensor, -, current, previous, -⟩ := completeConversion_parts (result := result) converting (.inr (.inl awake))
    rw [← sensor] at current previous
    generalize completeConversion result v = u at *
    cases kind : x.source with
    | outer | inner =>
      rw [kind, judgeResult_temperature (by decide), readingOf_eq] at current previous
      exact ⟨current, previous⟩
    | rh =>
      rw [kind, judgeResult_rh, readingOf_eq] at current previous
      exact ⟨current, previous⟩
  case others =>
    intro t s x result converting awake
    refine ⟨finish (completeConversion result (advanceTo t s)), rfl, ?_⟩
    obtain ⟨-, -, -, -, frame⟩ := completeConversion_parts (s := advanceTo t s) (result := result)
      (by rw [advanceTo_clim]; exact converting) (.inr (.inl awake))
    have same := othersKept_mono (othersKept_append (advanceTo_frame t s) frame) (cs := [.time, .own, .clim, .unit]) (by decide)
    exact ⟨same .mode (by decide), same .demand (by decide), same .line (by decide)⟩
  case inputs =>
    intro t s x a result mode converting due ends last free
    refine ⟨finish (completeConversion result (advanceTo t s)), rfl, ?_⟩
    have facade : (advanceTo t s).own.facade = s.own.facade := congrArg OwnRecord.facade (advanceTo_own t s)
    rw [← advanceTo_clim t s, ← advanceTo_unit t s, ← advanceTo_mode t s, ← advanceTo_demand t s,
      ← advanceTo_peers t s, ← advanceTo_own t s] at *
    generalize advanceTo t s = v at *
    have awake : x.source ≠ .rh ∨ Purpose.rest ∉ x.purposes ∨ v.mode.mode ≠ .rest :=
      .inr (.inr (by rw [mode]; decide))
    obtain ⟨-, -, -, -, frame⟩ := completeConversion_parts (result := result) converting awake
    obtain ⟨unit, clim⟩ := completeConversion_due (result := result) converting awake due ends last free
    have peers : (deliver x.source x.purposes (judgeResult x.source result) v).peers = v.peers :=
      deliver_frame _ _ _ v .peers (by decide)
    have facade := deliver_facade x.source x.purposes (judgeResult x.source result) v
    have lastRh := (deliver_clim x.source x.purposes (judgeResult x.source result) v).1
    rw [inputsFor_eq, fixInputs_eq, borrowedOutdoor_eq, peers, facade, lastRh] at unit
    have awaiting := congrArg ClimateSensing.awaiting clim
    generalize deliver x.source x.purposes (judgeResult x.source result) v = e at *
    generalize completeConversion result v = u at *
    have outer : u.clim.outer = e.clim.outer := (congrArg ClimateSensing.outer clim).trans rfl
    have inner : u.clim.inner = e.clim.inner := (congrArg ClimateSensing.inner clim).trans rfl
    have rhSensor : u.clim.rhSensor = e.clim.rhSensor := (congrArg ClimateSensing.rhSensor clim).trans rfl
    have current : u.clim.current = e.clim.current := (congrArg ClimateSensing.current clim).trans rfl
    have previous : u.clim.previous = e.clim.previous := (congrArg ClimateSensing.previous clim).trans rfl
    rw [← outer, ← inner, ← rhSensor, ← current, ← previous] at unit
    exact ⟨awaiting, unit, frame .mode (by decide), frame .demand (by decide)⟩

end Sys2Proof.Laws
end

section
/-! ## What ends with a half-cycle (R59, R74, R84, R87, R112, R132, R133, R137, R140, R167, R168) -/

namespace Sys2Proof.Laws

open Sys2Proof.Machine Sys2Proof.Safety

/-! ### Claims withdrawn from the line (R131, R140) -/

/-- A line block that has lost entries, or marked them withdrawn, and nothing else. -/
def lineThinned (a b : LineControl) : Prop :=
  b = { a with txq := b.txq, replacement := b.replacement } ∧ b.txq.length ≤ a.txq.length ∧
    ∀ c, (∀ x ∈ a.txq, x.cls ≠ c) → ∀ x ∈ b.txq, x.cls ≠ c

theorem lineThinned_refl (a : LineControl) : lineThinned a a := ⟨rfl, Nat.le_refl _, fun _ h => h⟩

theorem lineThinned.trans {a b c : LineControl} (h : lineThinned a b) (h' : lineThinned b c) : lineThinned a c := by
  obtain ⟨fields, length, fresh⟩ := h
  obtain ⟨fields', length', fresh'⟩ := h'
  refine ⟨?_, Nat.le_trans length' length, fun cls none_ => fresh' cls (fresh cls none_)⟩
  rw [fields] at fields'
  exact fields'

theorem withdraw_thinned (p : TxEntry → Bool) (s : State) : lineThinned s.line (withdraw p s).line := by
  refine ⟨rfl, withdrawEntries_length p s.line.txq, fun c none_ x mem => ?_⟩
  obtain ⟨y, kept, rfl⟩ := List.mem_map.mp mem
  obtain ⟨mem', -⟩ := List.mem_filter.mp kept
  split
  · exact none_ y mem'
  · exact none_ y mem'

section
variable (s : State)

theorem dropClaim_thinned : lineThinned s.line (dropClaim s).line := by
  rw [dropClaim_line, claimWithdrawn]
  split
  · exact withdraw_thinned _ s
  · exact lineThinned_refl _

theorem moveStage_thinned (st : FrostStage) : lineThinned s.line (moveStage st s).line := by
  by_cases same : s.frost.stage = st
  · rw [moveStage_of_eq s same]
    exact lineThinned_refl _
  · rw [moveStage_of_ne s same, State.withFrost_line, claimLeft]
    split
    · exact dropClaim_thinned s
    · exact lineThinned_refl _

theorem closeClaims_thinned : lineThinned s.line (closeClaims s).line := by
  unfold closeClaims
  split
  · dsimp only
    split
    · exact withdraw_thinned _ s
    · exact withdraw_thinned _ s
  · exact lineThinned_refl _

theorem closeClaims_frost : (closeClaims s).frost = { s.frost with ownClaim := (closeClaims s).frost.ownClaim } := by
  unfold closeClaims
  split
  · dsimp only
    split <;> rfl
  · rfl

/-! ### The crystal and the windows (R59, R74, R84, R140) -/

theorem switchBack_quality : (switchBack s).time.quality =
    if s.time.quality = .coarse ∧ s.time.crystalReady = false then .coarse else .crystal := by
  unfold switchBack
  cases quality : s.time.quality <;> cases ready : s.time.crystalReady <;> simp [quality]

theorem handGather_asked : passAsked s.rev.gather.isSome s (handGather s) := by
  unfold handGather
  cases s.rev.gather with
  | none => exact passAsked_refl s
  | some i => exact requestPass_asked s

/-- The crystal switch and the closes of both windows. -/
def windowsHanded : State := handClaimWindow (handGather (switchBack s))

theorem endHalf_eq : endHalf s = frostExpiry (cutPass (handReport (windowsHanded s))) := rfl

theorem windowsHanded_frame : othersKept [.time, .pass, .unit, .line, .frost] s (windowsHanded s) :=
  othersKept_append (switchBack_frame s) (othersKept_append (handGather_frame _) (handClaimWindow_frame _))

theorem windowsHanded_asked : passAsked s.rev.gather.isSome s (windowsHanded s) := by
  have switched := switchBack_frame s
  have asked := handGather_asked (switchBack s)
  rw [switched .rev (by decide)] at asked
  have closed := handClaimWindow_frame (handGather (switchBack s))
  rw [passAsked, windowsHanded, closed .pass (by decide), closed .unit (by decide)]
  exact asked.of_eq (switched .pass (by decide)) (switched .unit (by decide))

theorem windowsHanded_quality : (windowsHanded s).time.quality =
    if s.time.quality = .coarse ∧ s.time.crystalReady = false then .coarse else .crystal := by
  rw [← switchBack_quality, windowsHanded, handClaimWindow_frame _ .time (by decide), handGather_frame _ .time (by decide)]

theorem windowsHanded_claims : lineThinned s.line (windowsHanded s).line ∧
    (windowsHanded s).frost = { s.frost with ownClaim := (windowsHanded s).frost.ownClaim } := by
  have before := othersKept_append (switchBack_frame s) (handGather_frame (switchBack s))
  have line := before .line (by decide)
  have frost := before .frost (by decide)
  unfold windowsHanded handClaimWindow
  split
  · have thinned := closeClaims_thinned (handGather (switchBack s))
    have fields := closeClaims_frost (handGather (switchBack s))
    rw [line] at thinned
    rw [frost] at fields
    exact ⟨thinned, fields⟩
  · rw [line, frost]
    exact ⟨lineThinned_refl _, rfl⟩

/-! ### The report of the fan drive (R112, R167, R168) -/

theorem reportHalf_fields (side : Side) :
    (reportHalf side s).filt = { s.filt with held := (reportHalf side s).filt.held } ∧
    (reportHalf side s).unit = { s.unit with waitFilter := (reportHalf side s).unit.waitFilter } ∧
    (reportHalf side s).fan = s.fan := by
  unfold reportHalf takeSample
  split
  · split
    · split <;> exact ⟨rfl, rfl, rfl⟩
    · exact ⟨rfl, rfl, rfl⟩
  · exact ⟨rfl, rfl, rfl⟩

theorem handReport_fields :
    (handReport s).filt = { s.filt with held := (handReport s).filt.held } ∧
    (handReport s).unit = { s.unit with waitFilter := (handReport s).unit.waitFilter } ∧
    (handReport s).fan = { s.fan with window := if s.own.direction = .halt then s.fan.window else [] } := by
  unfold handReport
  cases d : s.own.direction with
  | halt => exact ⟨rfl, rfl, rfl⟩
  | inward =>
    obtain ⟨filt, unit, fan⟩ := reportHalf_fields s .inward
    exact ⟨filt, unit, by rw [sideOf, State.withFan_fan, fan]; rfl⟩
  | outward =>
    obtain ⟨filt, unit, fan⟩ := reportHalf_fields s .outward
    exact ⟨filt, unit, by rw [sideOf, State.withFan_fan, fan]; rfl⟩

/-! ### The balance pass (R87) -/

/-- A pass asked for at the expiry itself is cut with the others. -/
theorem cutState_awaited (p : PassState) : cutState (awaited p) = cutState p := by
  cases p <;> rfl

end

/-! ### The frost guard at an expiry (R132, R133, R137) -/

/-- What the stage makes of an own reversal expiry, in the frost block. -/
def frostTurned (f : FrostGuard) : FrostGuard :=
  match f.stage with
  | .claiming =>
    if f.granted then { movedFrost .thaw f with thawHalves := 1, thawTotal := bump16 (movedFrost .thaw f).thawTotal }
    else f
  | .thaw =>
    if f.thawHalves < 4 then { f with thawHalves := f.thawHalves + 1 }
    else { movedFrost .trim f with thawHalves := 0, holdOff := 6, postThaw := some { seen := 0, high := false } }
  | .lockout =>
    if f.cause = some LockCause.failed then
      if f.lockHalves + 1 < 20 then { f with lockHalves := f.lockHalves + 1 }
      else { movedFrost .noFrost f with cause := none, warm := 0, lockHalves := 0, failed := 0 }
    else f
  | _ => f

theorem frostHalf_frost (s : State) : (frostHalf s).frost = frostTurned s.frost := by
  unfold frostHalf frostTurned
  cases stage : s.frost.stage with
  | noFrost | watch | trim => rfl
  | claiming =>
    dsimp only
    split
    · rw [State.withFrost_frost, moveStage_frost]
    · rfl
  | thaw =>
    dsimp only
    split
    · rw [State.withFrost_frost, ← stage]
    · rw [State.withFrost_frost, moveStage_frost]
  | lockout =>
    dsimp only
    split
    · split
      · rw [State.withFrost_frost, ← stage]
      · exact endLockout_frost s
    · rfl

theorem frostHalf_thinned (s : State) : lineThinned s.line (frostHalf s).line := by
  unfold frostHalf
  split
  · split
    · exact moveStage_thinned s .thaw
    · exact lineThinned_refl _
  · split
    · exact lineThinned_refl _
    · exact moveStage_thinned s .trim
  · split
    · split
      · exact lineThinned_refl _
      · exact moveStage_thinned s .noFrost
    · exact lineThinned_refl _
  · exact lineThinned_refl _

/-- The frost block after an own reversal expiry. -/
def frostExpired (f : FrostGuard) : FrostGuard :=
  { frostTurned { f with holdOff := f.holdOff - 1 } with claims := [], ownClaim := .idle, granted := false }

theorem frostExpiry_frost (s : State) : (frostExpiry s).frost = frostExpired s.frost := by
  rw [frostExpiry_eq, claimsCleared, State.withFrost_frost, frostHalf_frost]
  rfl

theorem frostExpiry_thinned (s : State) : lineThinned s.line (frostExpiry s).line :=
  frostHalf_thinned (holdOffDown s)

/-- What an expiry keeps of the frost block. -/
theorem frostExpired_keeps (f : FrostGuard) : (frostExpired f).severity = f.severity ∧ (frostExpired f).claims = [] ∧
    (frostExpired f).granted = false ∧ (frostExpired f).ownClaim = .idle := by
  refine ⟨?_, rfl, rfl, rfl⟩
  have moved (st : FrostStage) (g : FrostGuard) : (movedFrost st g).severity = g.severity := (movedFrost_keeps st g).2.1
  simp only [frostExpired, frostTurned]
  split
  · split
    · exact moved _ _
    · rfl
  · split
    · rfl
    · exact moved _ _
  · split
    · split
      · rfl
      · exact moved _ _
    · rfl
  · rfl

/-- The own claim of the ending half-cycle plays no part. -/
theorem frostExpired_ownClaim (f : FrostGuard) (c : OwnClaim) : frostExpired { f with ownClaim := c } = frostExpired f := by
  simp only [frostExpired, frostTurned, movedFrost]
  split
  · split
    · split <;> rfl
    · rfl
  · split
    · rfl
    · split <;> rfl
  · split
    · split
      · rfl
      · split <;> rfl
    · rfl
  · rfl

end Sys2Proof.Laws
end

section
/-! ## The end of a half-cycle, block by block, and the sample it gives (R59, R74, R87, R112, R167, R168) -/

namespace Sys2Proof.Laws

open Sys2Proof.Machine Sys2Proof.Safety

/-! ### The blocks after the end of a half-cycle -/

section
variable (s : State)

theorem handReport_within : othersKept [.time, .pass, .unit, .line, .frost, .filt, .fan] s (handReport (windowsHanded s)) :=
  othersKept_mono (othersKept_append (windowsHanded_frame s) (handReport_frame _)) (by decide)

theorem endHalf_pass : (endHalf s).pass = { s.pass with current := false, state := cutState s.pass.state } := by
  have asked := (windowsHanded_asked s).1
  rw [endHalf_eq, frostExpiry_frame _ .pass (by decide), cutPass_pass, handReport_frame _ .pass (by decide), asked]
  cases s.rev.gather.isSome with
  | false => rfl
  | true => exact congrArg (fun p => { s.pass with current := false, state := p }) (cutState_awaited s.pass.state)

theorem endHalf_unit : (endHalf s).unit = { s.unit with
    waitPass := false, engine := passDiscarded s.unit.engine
    waitFilter := (handReport (windowsHanded s)).unit.waitFilter } := by
  have asked := (windowsHanded_asked s).2
  have report := (handReport_fields (windowsHanded s)).2.1
  rw [asked] at report
  rw [endHalf_eq, frostExpiry_frame _ .unit (by decide), cutPass_unit, report]

theorem endHalf_filt : (endHalf s).filt = { s.filt with held := (handReport (windowsHanded s)).filt.held } := by
  have report := (handReport_fields (windowsHanded s)).1
  rw [windowsHanded_frame s .filt (by decide)] at report
  rw [endHalf_eq, frostExpiry_frame _ .filt (by decide), cutPass_frame _ .filt (by decide), report]

theorem endHalf_fan : (endHalf s).fan = { s.fan with window := if s.own.direction = .halt then s.fan.window else [] } := by
  have report := (handReport_fields (windowsHanded s)).2.2
  rw [windowsHanded_frame s .fan (by decide), windowsHanded_frame s .own (by decide)] at report
  rw [endHalf_eq, frostExpiry_frame _ .fan (by decide), cutPass_frame _ .fan (by decide), report]

theorem endHalf_frost : (endHalf s).frost = frostExpired s.frost := by
  have claims := (windowsHanded_claims s).2
  rw [endHalf_eq, frostExpiry_frost, cutPass_frame _ .frost (by decide), handReport_frame _ .frost (by decide), claims]
  exact frostExpired_ownClaim _ _

theorem endHalf_thinned : lineThinned s.line (endHalf s).line := by
  have claims := (windowsHanded_claims s).1
  have thinned := frostExpiry_thinned (cutPass (handReport (windowsHanded s)))
  rw [cutPass_frame _ .line (by decide), handReport_frame _ .line (by decide)] at thinned
  exact claims.trans thinned

theorem endHalf_quality : (endHalf s).time.quality =
    if s.time.quality = .coarse ∧ s.time.crystalReady = false then .coarse else .crystal := by
  rw [endHalf_eq, frostExpiry_frame _ .time (by decide), cutPass_frame _ .time (by decide),
    handReport_frame _ .time (by decide), windowsHanded_quality]

end

/-! ### The sample of a half-cycle (R112, R167, R168) -/

theorem le_foldl_min (l : List Nat) (b n : Nat) : n ≤ l.foldl min b ↔ n ≤ b ∧ ∀ x ∈ l, n ≤ x := by
  induction l generalizing b with
  | nil => simp
  | cons x l ih =>
    rw [List.foldl_cons, ih, Nat.le_min, List.forall_mem_cons, and_assoc]

/-- The entries of the window in RUNNING in a direction. -/
def sideEntries (side : Side) (window : List StepEntry) : List StepEntry :=
  window.filter fun e => e.state = .running ∧ e.drive = side

/-- The window gives a sample: 120 entries, none below 300 rpm. -/
def sampleFits (side : Side) (window : List StepEntry) : Bool :=
  (sideEntries side window).length = 120 && (sideEntries side window).all fun e => 300 ≤ e.speed

/-- The mean duty in thousandths of the mean speed. -/
def sampleRatio (side : Side) (window : List StepEntry) : Nat :=
  ((sideEntries side window).map fun e => e.duty).sum / 120 * 1000 /
    (((sideEntries side window).map fun e => e.speed).sum / 120)

theorem sampleOf_fanReport (side : Side) (window : List StepEntry) (k : HalfNo) : sampleOf (fanReport side window) k =
    if sampleFits side window = true then some { side := side, ratio := sampleRatio side window, k := k } else none := by
  have count : (fanReport side window).count = (sideEntries side window).length := rfl
  have lowest : 300 ≤ (fanReport side window).lowest ↔ ∀ e ∈ sideEntries side window, 300 ≤ e.speed := by
    refine (le_foldl_min _ _ _).trans ?_
    simp only [List.forall_mem_map]
    exact ⟨fun h => h.2, fun h => ⟨by decide, h⟩⟩
  have fits : sampleFits side window = true ↔ (fanReport side window).count = 120 ∧ 300 ≤ (fanReport side window).lowest := by
    rw [lowest, count, sampleFits, Bool.and_eq_true, decide_eq_true_iff, List.all_eq_true]
    simp only [decide_eq_true_eq]
  by_cases given : (fanReport side window).count = 120 ∧ 300 ≤ (fanReport side window).lowest
  · have ratio : (fanReport side window).meanDuty * 1000 / (fanReport side window).meanSpeed = sampleRatio side window := by
      have length : (sideEntries side window).length = 120 := given.1
      rw [sampleRatio, ← length]
      rfl
    rw [if_pos (fits.mpr given), sampleOf, if_pos given, ratio]
    rfl
  · rw [if_neg fun h => given (fits.mp h), sampleOf, if_neg given]

/-- A held sample pairs with one of the other direction and the next number (R168). -/
def samplePairs (held : Option FilterSample) (side : Side) (k : HalfNo) : Bool :=
  held.any fun h => h.side ≠ side && h.k + 1 = k

/-- The pair of a new sample with the held one. -/
def pairMade (held : Option FilterSample) (side : Side) (ratio : Nat) : FilterPair :=
  if side = .inward then { ratioIn := ratio, ratioOut := (held.map fun h => h.ratio).getD 0 }
  else { ratioIn := (held.map fun h => h.ratio).getD 0, ratioOut := ratio }

theorem pairOf_eq {h : FilterSample} {side : Side} (other : h.side ≠ side) (ratio : Nat) (k : HalfNo) :
    pairOf h { side := side, ratio := ratio, k := k } = pairMade (some h) side ratio := by
  rw [pairOf]
  cases side with
  | inward =>
    have out : h.side = .outward := by
      cases hs : h.side with
      | inward => exact absurd hs other
      | outward => rfl
    rw [out]
    rfl
  | outward =>
    have inn : h.side = .inward := by
      cases hs : h.side with
      | inward => rfl
      | outward => exact absurd hs other
    rw [inn]
    rfl

theorem takeSample_eq (s : State) (side : Side) (ratio : Nat) (k : HalfNo) :
    (takeSample { side := side, ratio := ratio, k := k } s).filt.held =
        (if samplePairs s.filt.held side k = true then none else some { side := side, ratio := ratio, k := k }) ∧
      (takeSample { side := side, ratio := ratio, k := k } s).unit.waitFilter =
        (if samplePairs s.filt.held side k = true then
          some (s.unit.waitFilter.getD (pairMade s.filt.held side ratio)) else s.unit.waitFilter) := by
  unfold takeSample
  cases held : s.filt.held with
  | none => exact ⟨rfl, rfl⟩
  | some h =>
    have pairs : samplePairs (some h) side k = true ↔ h.side ≠ side ∧ h.k + 1 = k := by
      simp [samplePairs]
    dsimp only
    by_cases fits : h.side ≠ side ∧ h.k + 1 = k
    · rw [if_pos fits, if_pos (pairs.mpr fits), if_pos (pairs.mpr fits), pairOf_eq fits.1]
      exact ⟨rfl, rfl⟩
    · rw [if_neg fits, if_neg fun h' => fits (pairs.mp h'), if_neg fun h' => fits (pairs.mp h')]
      exact ⟨rfl, rfl⟩

/-- What the report of a half-cycle of IN or OUT hands on (R112, R167, R168). -/
theorem handReport_sample {s : State} {side : Side} {k : HalfNo} (direction : s.own.direction = dirOfSide side)
    (number : s.own.k = some k) :
    (handReport s).filt.held = (if sampleFits side s.fan.window = false then s.filt.held
      else if samplePairs s.filt.held side k = true then none
      else some { side := side, ratio := sampleRatio side s.fan.window, k := k }) ∧
    (handReport s).unit.waitFilter =
      (if sampleFits side s.fan.window = true ∧ samplePairs s.filt.held side k = true then
        some (s.unit.waitFilter.getD (pairMade s.filt.held side (sampleRatio side s.fan.window)))
      else s.unit.waitFilter) := by
  have report : handReport s = (reportHalf side s).withFan { (reportHalf side s).fan with window := [] } := by
    rw [handReport, direction]
    cases side <;> rfl
  have sample : s.own.k.bind (sampleOf (fanReport side s.fan.window)) =
      if sampleFits side s.fan.window = true
      then some { side := side, ratio := sampleRatio side s.fan.window, k := k } else none := by
    rw [number]
    exact sampleOf_fanReport side s.fan.window k
  rw [report, State.withFan_filt, State.withFan_unit, reportHalf, sample]
  cases sampleFits side s.fan.window with
  | false => exact ⟨rfl, rfl⟩
  | true =>
    obtain ⟨held, asked⟩ := takeSample_eq s side (sampleRatio side s.fan.window) k
    refine ⟨held, asked.trans ?_⟩
    simp only [true_and]

end Sys2Proof.Laws
end

section
/-! ## What begins with a half-cycle (R3, R4, R5, R15, R16, R55, R58, R108, R117, R139, R148 to R150) -/

namespace Sys2Proof.Laws

open Sys2Proof.Machine Sys2Proof.Safety

/-! ### Level, D, C and F (R3, R4, R5, R108, R148 to R150) -/

section
variable (s : State)

/-- The demand level as it resolves (R150). -/
def levelNow : Level :=
  if s.demand.buttonBoost.isSome = true ∨ s.demand.humidity = .active ∨ s.demand.humidity = .runOn then .boost
  else match s.demand.slot with
    | some h => h.level
    | none => if s.demand.dryGuard = true then .setback else .base

theorem resolveLevel_eq : resolveLevel s = levelNow s := by
  have source : boostActive s = true ↔ (s.demand.buttonBoost.isSome = true ∨ s.demand.humidity = .active ∨
      s.demand.humidity = .runOn) ∨ s.demand.slot.any (fun h => decide (h.level = .boost)) = true := by
    unfold boostActive
    cases s.demand.humidity <;> cases s.demand.slot <;> simp
  unfold resolveLevel levelNow
  by_cases boost : s.demand.buttonBoost.isSome = true ∨ s.demand.humidity = .active ∨ s.demand.humidity = .runOn
  · rw [if_pos boost, if_pos (source.mpr (.inl boost))]
  · rw [if_neg boost]
    cases slot : s.demand.slot with
    | none => rw [if_neg fun h => by simpa [boost, slot] using source.mp h]
    | some h =>
      by_cases level : h.level = .boost
      · rw [if_pos (source.mpr (.inr (by simp [slot, level])))]
        exact level.symm
      · rw [if_neg fun h' => by simpa [boost, slot, level] using source.mp h']

/-- The flow of a level, P1 to P4 (R148). -/
def flowOf (level : Level) : Nat :=
  match level with
  | .setback => paramNat s 1
  | .base => paramNat s 2
  | .raised => paramNat s 3
  | .boost => paramNat s 4

theorem levelFlow_eq (level : Level) : levelFlow s level = flowOf s level := by
  cases level <;> rfl

/-- D of a direction at the level in force (R4, R148, R149). -/
def halfWant (d : Dir) : Nat :=
  if d = .halt then 0
  else if 64 ≤ s.line.faultCount then min (flowOf s (levelNow s)) (paramNat s 1)
  else flowOf s (levelNow s)

theorem lineState_cutOff_iff : lineState s = .cutOff ↔ 64 ≤ s.line.faultCount := by
  refine ⟨fun h => Nat.not_lt.mp fun below => lineState_ne_cutOff below h, lineState_cutOff⟩

theorem wantFor_eq : wantFor s (resolveLevel s) = halfWant s s.own.direction := by
  simp only [wantFor, halfWant, lineState_cutOff_iff, levelFlow_eq, resolveLevel_eq]

/-- C of a direction at a frost stage, without a flow-short cap (R4, R108). -/
def halfCeil (st : FrostStage) (d : Dir) : Nat :=
  match d with
  | .halt => 0
  | .inward => if st = .trim ∨ st = .claiming then s.filt.ceilIn * paramNat s 9 / 100 else s.filt.ceilIn
  | .outward => s.filt.ceilOut

variable {s}

theorem ceilingFor_uncapped (cap : s.fan.cap = none) (d : Dir) : ceilingFor s d = halfCeil s s.frost.stage d := by
  cases d with
  | halt => rfl
  | outward => rw [ceilingFor, sideOf, cap]; rfl
  | inward =>
    by_cases trim : s.frost.stage = .trim ∨ s.frost.stage = .claiming
    · rw [ceilingFor, sideOf, cap, halfCeil, if_pos trim]
      exact if_pos ((trimmed_iff _).mpr trim)
    · rw [ceilingFor, sideOf, cap, halfCeil, if_neg trim]
      exact if_neg fun h => trim ((trimmed_iff _).mp h)

/-- Level, D and C depend on the demand unit, the line, the filter ceilings and the parameters alone. -/
theorem halfFlows_congr {v : State} (demand : v.demand = s.demand) (count : v.line.faultCount = s.line.faultCount)
    (inn : v.filt.ceilIn = s.filt.ceilIn) (out : v.filt.ceilOut = s.filt.ceilOut)
    (params : v.svc.params = s.svc.params) (st : FrostStage) (d : Dir) :
    levelNow v = levelNow s ∧ halfWant v d = halfWant s d ∧ halfCeil v st d = halfCeil s st d := by
  have level : levelNow v = levelNow s := by rw [levelNow, demand]; rfl
  have nat (i : Fin 21) : paramNat v i = paramNat s i := paramNat_congr params i
  have flow : flowOf v (levelNow v) = flowOf s (levelNow s) := by simp only [flowOf, nat, level]
  refine ⟨level, ?_, ?_⟩
  · rw [halfWant, halfWant, count, flow, nat]
  · simp only [halfCeil, inn, out, nat]

/-! ### The direction (R3, R52) -/

/-- The direction of a half-cycle at a frost stage. -/
def directionAt (s : State) (st : FrostStage) (k : HalfNo) : Dir :=
  if st = .lockout ∨ s.fan.latch.isSome = true then .halt
  else if st = .thaw then .outward
  else if (k.toNat + s.own.lead.toNat) % 2 = 0 then .inward else .outward

theorem directionFor_eq (s : State) (k : HalfNo) : directionFor s k = directionAt s s.frost.stage k := by
  have side : dirOfSide (paritySide k s.own.lead) =
      if (k.toNat + s.own.lead.toNat) % 2 = 0 then .inward else .outward := by
    unfold paritySide
    split <;> rfl
  rw [directionFor, side, directionAt]

/-! ### The table (R15, R16) -/

/-- The records one own half-cycle older. -/
def recordsAged (rs : List PeerRecord) : List PeerRecord :=
  (rs.filter fun r => decide (r.age < 3)).map fun r =>
    { r with
      age := r.age + 1
      climate := match r.climate with
        | some p => if p.age < 15 then some { p with age := p.age + 1 } else none
        | none => none }

theorem ageRecords_eq (rs : List PeerRecord) : ageRecords rs = recordsAged rs := by
  have climate (c : Option ClimatePart) : c.bind ageClimate =
      match c with
      | some p => if p.age < 15 then some { p with age := p.age + 1 } else none
      | none => none := by
    cases c with
    | none => rfl
    | some p =>
      have young : p.age + 1 < 16 ↔ p.age < 15 := by omega
      simp only [Option.bind_some, ageClimate, young]
  rw [ageRecords, List.filter_map, recordsAged]
  have young (n : Nat) : n + 1 < 4 ↔ n < 3 := by omega
  have kept : ((fun r : PeerRecord => decide (r.age < 4)) ∘ fun r : PeerRecord =>
      { r with age := r.age + 1, climate := r.climate.bind ageClimate }) = fun r => decide (r.age < 3) := by
    funext r
    exact decide_eq_decide.mpr (young r.age)
  rw [kept]
  congr 1
  funext r
  rw [climate]

end

end Sys2Proof.Laws
end

section
/-! ## The blocks of a new half-cycle (R3, R5, R15, R16, R31, R38, R55, R58, R109, R110, R117, R139) -/

namespace Sys2Proof.Laws

open Sys2Proof.Machine Sys2Proof.Safety

section
variable (s : State) (k : HalfNo) (i : Count) (sch : Schedule)

/-- The half-cycle written and its PHASE queued, the windows open. -/
def halfOpened : State := openWindows k i (queuePhase (writeHalf k i sch s))

/-- The table and the clash age one half-cycle older. -/
def halfAged : State := ageClash (agePeers (halfOpened s k i sch))

theorem halfBegun_of_aged : halfBegun s k i sch = writeHalfFlow (writeWant (halfAged s k i sch)) := rfl

theorem queuePhase_frame (x : State) : othersKept [.line] x (queuePhase x) := queueNotice_frame _ x

theorem halfOpened_frame : othersKept [.own, .rev, .line] s (halfOpened s k i sch) :=
  othersKept_mono (othersKept_append (writeHalf_frame s k i sch) (othersKept_append (queuePhase_frame _)
    (withRev_frame _ (halfOpened s k i sch).rev))) (by decide)

theorem halfAged_frame : othersKept [.own, .rev, .line, .peers] s (halfAged s k i sch) :=
  othersKept_mono (othersKept_append (halfOpened_frame s k i sch) (othersKept_append (agePeers_frame _)
    (withLine_frame _ (halfAged s k i sch).line))) (by decide)

/-- The frame of D, C, F and the CEIL reference. -/
theorem flowWritten_frame (x : State) : othersKept [.own, .fan] x (writeHalfFlow (writeWant x)) :=
  othersKept_mono (othersKept_append (withOwn_frame x (writeWant x).own) (writeHalfFlow_frame (writeWant x))) (by decide)

theorem halfOpened_own : (halfOpened s k i sch).own =
    { s.own with k := some k, instant := some i, direction := directionFor s k } := by
  rw [halfOpened, openWindows, State.withRev_own, queuePhase_frame _ .own (by decide)]
  rfl

theorem halfOpened_rev : (halfOpened s k i sch).rev = { s.rev with
    next := some sch.next, pendingNumber := sch.pending, tally := []
    gather := some (Count.later i 3072), claimWindow := some (Count.later i 10240)
    statusTimer := if k.toNat % 4 = s.own.node % 4 then some (Count.later i 5120) else none } := by
  rw [halfOpened, openWindows, State.withRev_rev, queuePhase_frame _ .own (by decide),
    queuePhase_frame _ .rev (by decide)]
  rfl

theorem halfOpened_line : (halfOpened s k i sch).line = (queueNotice (newEntry .phase false s.own.node false []) s).line :=
  queueNotice_line_congr _ rfl

theorem halfAged_rev : (halfAged s k i sch).rev = (halfOpened s k i sch).rev := by
  rw [halfAged, ageClash, State.withLine_rev, agePeers_frame _ .rev (by decide)]

theorem halfAged_own : (halfAged s k i sch).own = (halfOpened s k i sch).own := by
  rw [halfAged, ageClash, State.withLine_own, agePeers_frame _ .own (by decide)]

theorem halfAged_line : (halfAged s k i sch).line =
    { (queueNotice (newEntry .phase false s.own.node false []) s).line with
      clashAge := min (s.line.clashAge + 1) 8 } := by
  have fields := queueNotice_fields (newEntry .phase false s.own.node false []) s
  rw [halfAged, ageClash, State.withLine_line, agePeers_frame _ .line (by decide), halfOpened_line,
    congrArg LineControl.clashAge fields]

theorem halfAged_peers : (halfAged s k i sch).peers =
    if tableHeld s then { s.peers with owedAgeings := s.peers.owedAgeings + 1 }
    else { s.peers with records := recordsAged s.peers.records } := by
  have held : tableHeld (halfOpened s k i sch) = tableHeld s := 
    tableHeld_congr (by rw [halfOpened_frame s k i sch .unit (by decide)])
  rw [halfAged, ageClash, State.withLine_peers, agePeers, held, halfOpened_frame s k i sch .peers (by decide), ageRecords_eq]
  split <;> rfl

/-- The own record that D, C and F of a new half-cycle are written into (R3, R4, R5). -/
theorem flowWritten_own (x : State) : (writeHalfFlow (writeWant x)).own = { x.own with
    level := levelNow x, want := halfWant x x.own.direction, ceil := halfCeil x x.frost.stage x.own.direction
    flow := min (halfWant x x.own.direction) (halfCeil x x.frost.stage x.own.direction) } := by
  have ceil : ceilingFor ((writeWant x).withFan { (writeWant x).fan with cap := none }) x.own.direction =
      halfCeil x x.frost.stage x.own.direction :=
     ceilingFor_uncapped (s := (writeWant x).withFan { (writeWant x).fan with cap := none }) rfl _
  have want := wantFor_eq x
  have level := resolveLevel_eq x
  rw [← ceil, ← want, ← level]
  rfl

theorem flowWritten_fan (x : State) : (writeHalfFlow (writeWant x)).fan =
    { x.fan with cap := none, ceilRef := some (writeHalfFlow (writeWant x)).own.ceil } := rfl

/-! ### The half-cycle begun -/

theorem halfBegun_own : (halfBegun s k i sch).own = { s.own with
    k := some k, instant := some i, direction := directionFor s k, level := levelNow s
    want := halfWant s (directionFor s k), ceil := halfCeil s s.frost.stage (directionFor s k)
    flow := min (halfWant s (directionFor s k)) (halfCeil s s.frost.stage (directionFor s k)) } := by
  have frame := halfAged_frame s k i sch
  have own := (halfAged_own s k i sch).trans (halfOpened_own s k i sch)
  have count : (halfAged s k i sch).line.faultCount = s.line.faultCount := by
    rw [halfAged_line, queueNotice_fields]
  have frost : (halfAged s k i sch).frost = s.frost := frame .frost (by decide)
  have filt : (halfAged s k i sch).filt = s.filt := frame .filt (by decide)
  obtain ⟨level, want, ceil⟩ := halfFlows_congr (v := halfAged s k i sch) (frame .demand (by decide)) count
    (by rw [filt]) (by rw [filt]) (by rw [frame .svc (by decide)]) s.frost.stage (directionFor s k)
  have written := flowWritten_own (halfAged s k i sch)
  rw [own, frost] at written
  rw [halfBegun_of_aged, written, level, want, ceil]

theorem halfBegun_rev : (halfBegun s k i sch).rev = { s.rev with
    next := some sch.next, pendingNumber := sch.pending, tally := []
    gather := some (Count.later i 3072), claimWindow := some (Count.later i 10240)
    statusTimer := if k.toNat % 4 = s.own.node % 4 then some (Count.later i 5120) else none } := by
  rw [halfBegun_of_aged, flowWritten_frame _ .rev (by decide), halfAged_rev, halfOpened_rev]

theorem halfBegun_line : (halfBegun s k i sch).line =
    { (queueNotice (newEntry .phase false s.own.node false []) s).line with
      clashAge := min (s.line.clashAge + 1) 8 } := by
  rw [halfBegun_of_aged, flowWritten_frame _ .line (by decide), halfAged_line]

theorem halfBegun_peers : (halfBegun s k i sch).peers =
    if tableHeld s then { s.peers with owedAgeings := s.peers.owedAgeings + 1 }
    else { s.peers with records := recordsAged s.peers.records } := by
  rw [halfBegun_of_aged, flowWritten_frame _ .peers (by decide), halfAged_peers]

theorem halfBegun_fan : (halfBegun s k i sch).fan =
    { s.fan with cap := none, ceilRef := some (halfCeil s s.frost.stage (directionFor s k)) } := by
  have fan := flowWritten_fan (halfAged s k i sch)
  rw [← halfBegun_of_aged, halfAged_frame s k i sch .fan (by decide), halfBegun_own] at fan
  exact fan

end

/-! ### The CLAIM (R139) -/

section
variable (s : State)

/-- The CLAIM of the station with its severity. -/
def claimOf : TxEntry :=
  newEntry .claim (decide (4 ≤ s.frost.severity)) s.own.node false
    [s.own.k.getD 0, BitVec.ofNat 8 s.frost.severity]

theorem queueClaim_eq : queueClaim s =
    if s.frost.stage = .claiming ∧ s.frost.granted = false then
      if 64 ≤ s.line.faultCount then queueNotice (claimOf s) s
      else (queueNotice (claimOf s) s).withFrost { s.frost with ownClaim := .queued }
    else s := by
  have frost : (queueNotice (claimOf s) s).frost = s.frost := queueNotice_frame _ s .frost (by decide)
  have state : queueClaim s = if s.frost.stage = .claiming ∧ s.frost.granted = false then
      if lineState s = .cutOff then queueNotice (claimOf s) s
      else (queueNotice (claimOf s) s).withFrost { (queueNotice (claimOf s) s).frost with ownClaim := .queued }
    else s := rfl
  rw [state, frost]
  simp only [lineState_cutOff_iff]

theorem queueClaim_frame : othersKept [.line, .frost] s (queueClaim s) := by
  rw [queueClaim_eq]
  split
  · split
    · exact othersKept_mono (queueNotice_frame _ s) (by decide)
    · exact othersKept_append (queueNotice_frame _ s) (withFrost_frame _ _)
  · exact othersKept_refl _ s

variable {s}

theorem queueClaim_claiming (stage : s.frost.stage = .claiming) (granted : s.frost.granted = false)
    (opens : s.line.faultCount < 64) :
    queueClaim s = (queueNotice (claimOf s) s).withFrost { s.frost with ownClaim := .queued } := by
  rw [queueClaim_eq, if_pos ⟨stage, granted⟩, if_neg (Nat.not_le.mpr opens)]

theorem queueClaim_other (stage : s.frost.stage ≠ .claiming) : queueClaim s = s := by
  rw [queueClaim_eq, if_neg fun h => stage h.1]

/-- A CLAIM of an expiry leaves the frost block but for the own claim. -/
theorem queueClaim_frost : (queueClaim s).frost = { s.frost with ownClaim := (queueClaim s).frost.ownClaim } := by
  have frost : (queueNotice (claimOf s) s).frost = s.frost := queueNotice_frame _ s .frost (by decide)
  rw [queueClaim_eq]
  split
  · split
    · rw [frost]
    · rfl
  · rfl

theorem queueClaim_line : (queueClaim s).line = (queueNotice (claimOf s) s).line ∨ (queueClaim s).line = s.line := by
  rw [queueClaim_eq]
  split
  · split
    · exact .inl rfl
    · exact .inl rfl
  · exact .inr rfl

end

/-! ### The fan is asked (R55, R97, R111) -/

section
variable {s : State} {before : Dir}

theorem askFan_same (h : s.own.direction = before) : askFan before s = s := if_pos h

theorem askFan_halt (changed : s.own.direction ≠ before) (halt : s.own.direction = .halt) :
    askFan before s = stopRequest s := by
  rw [askFan, if_neg changed, halt]
  rfl

theorem askFan_side (changed : s.own.direction ≠ before) {side : Side} (h : s.own.direction = dirOfSide side) :
    askFan before s = fanRequest side s := by
  rw [askFan, if_neg changed, h]
  cases side <;> rfl

/-- A stop request in RUN writes the fan alone (R111). -/
theorem stopRequest_inRun (run : s.mode.mode = .run) : othersKept [.fan] s (stopRequest s) := by
  have stopped {x : State} (h : othersKept [.fan] s x) : othersKept [.fan] s (fanStopped x) := by
    have still : x.mode.mode = .run := by rw [h .mode (by decide)]; exact run
    rw [fanStopped, if_pos still]
    exact h
  unfold stopRequest
  dsimp only
  split
  · exact stopped (withFan_frame s _)
  · exact othersKept_mono (othersKept_append (withFan_frame s _) (rampDownTo_frame .halt _)) (by decide)
  · exact othersKept_mono (othersKept_append (withFan_frame s _) (rampDownTo_frame .halt _)) (by decide)
  · exact withFan_frame s _
  · exact withFan_frame s _
  · exact stopped (othersKept_mono (othersKept_append (withFan_frame s _) (closeFlap_frame _)) (by decide))
  · exact stopped (withFan_frame s _)

theorem askFan_frame (run : s.mode.mode = .run) : othersKept [.fan] s (askFan before s) := by
  unfold askFan
  split
  · exact othersKept_refl _ s
  · split
    · exact fanRequest_frame _ s
    · exact stopRequest_inRun run

end

end Sys2Proof.Laws
end

section
/-! ## The own reversal expiry, block by block (R3, R15, R38, R55, R58, R87, R112, R117, R139) -/

namespace Sys2Proof.Laws

open Sys2Proof.Machine Sys2Proof.Safety

/-! ### Its parts -/

section
variable (s : State) (i : Count)

/-- The number of the new half-cycle (R52, R55). -/
def halfNumber : HalfNo := s.rev.pendingNumber.getD (s.own.k.getD 0 + 1)

/-- The schedule that the ending half tally gives (R55). -/
def halfSchedule : Schedule := evaluateTally (endHalf s) i

/-- The new half-cycle with its blocks written. -/
def halfWritten : State := halfBegun (endHalf s) (halfNumber s) i (halfSchedule s i)

/-- The new half-cycle with its sample sets. -/
def halfSets : State := beginHalf (halfWritten s i).own.direction i (halfSchedule s i).next (halfWritten s i)

theorem nextNumber_endHalf : nextNumber (endHalf s) = halfNumber s := by
  rw [nextNumber, halfNumber, endHalf_frame s .rev (by decide), endHalf_frame s .own (by decide)]
  cases s.rev.pendingNumber <;> rfl

theorem expiry_eq : expiry i s = askFan s.own.direction (queueClaim (halfSets s i)) := by
  rw [expiry, nextNumber_endHalf, beginHalfCycle_eq]
  rfl

theorem halfSets_frame : othersKept [.clim] (halfWritten s i) (halfSets s i) := withClim_frame _ _

theorem halfSets_within :
    othersKept [.own, .line, .peers, .rev, .time, .unit, .pass, .fan, .clim, .frost, .filt] s (halfSets s i) :=
  othersKept_mono (othersKept_append (endHalf_frame s) (othersKept_append
    (halfBegun_frame (endHalf s) (halfNumber s) i (halfSchedule s i)) (halfSets_frame s i))) (by decide)

/-- The direction of the new half-cycle (R3). -/
def halfDirection : Dir := directionAt s (frostExpired s.frost).stage (halfNumber s)

theorem directionFor_endHalf : directionFor (endHalf s) (halfNumber s) = halfDirection s := by
  rw [directionFor_eq, endHalf_frost, directionAt, endHalf_fan, endHalf_frame s .own (by decide)]
  rfl

theorem halfSets_own : (halfSets s i).own = { s.own with
    k := some (halfNumber s), instant := some i, direction := halfDirection s, level := levelNow s
    want := halfWant s (halfDirection s), ceil := halfCeil s (frostExpired s.frost).stage (halfDirection s)
    flow := min (halfWant s (halfDirection s)) (halfCeil s (frostExpired s.frost).stage (halfDirection s)) } := by
  have frame := endHalf_frame s
  have filt := endHalf_filt s
  have fields := (endHalf_thinned s).1
  obtain ⟨level, want, ceil⟩ := halfFlows_congr (v := endHalf s) (frame .demand (by decide)) (by rw [fields])
    (by rw [filt]) (by rw [filt]) (by rw [frame .svc (by decide)]) (frostExpired s.frost).stage (halfDirection s)
  have own := halfBegun_own (endHalf s) (halfNumber s) i (halfSchedule s i)
  rw [directionFor_endHalf, endHalf_frost, level, want, ceil, frame .own (by decide)] at own
  exact (halfSets_frame s i .own (by decide)).trans own

theorem halfSets_rev : (halfSets s i).rev = { s.rev with
    next := some (halfSchedule s i).next, pendingNumber := (halfSchedule s i).pending, tally := []
    gather := some (Count.later i 3072), claimWindow := some (Count.later i 10240)
    statusTimer := if (halfNumber s).toNat % 4 = s.own.node % 4 then some (Count.later i 5120) else none } := by
  have rev := halfBegun_rev (endHalf s) (halfNumber s) i (halfSchedule s i)
  rw [endHalf_frame s .rev (by decide), endHalf_frame s .own (by decide)] at rev
  exact (halfSets_frame s i .rev (by decide)).trans rev

theorem halfSets_peers : (halfSets s i).peers =
    if tableHeld s then { s.peers with owedAgeings := s.peers.owedAgeings + 1 }
    else { s.peers with records := recordsAged s.peers.records } := by
  have held : tableHeld (endHalf s) = tableHeld s := by
    rw [tableHeld, tableHeld, endHalf_unit]
    cases s.unit.engine <;> rfl
  have peers := halfBegun_peers (endHalf s) (halfNumber s) i (halfSchedule s i)
  rw [held, endHalf_frame s .peers (by decide)] at peers
  exact (halfSets_frame s i .peers (by decide)).trans peers

theorem halfSets_fan : (halfSets s i).fan = { s.fan with
    window := if s.own.direction = .halt then s.fan.window else []
    cap := none, ceilRef := some (halfCeil s (frostExpired s.frost).stage (halfDirection s)) } := by
  have filt := endHalf_filt s
  have fields := (endHalf_thinned s).1
  obtain ⟨-, -, ceil⟩ := halfFlows_congr (v := endHalf s) (endHalf_frame s .demand (by decide)) (by rw [fields])
    (by rw [filt]) (by rw [filt]) (by rw [endHalf_frame s .svc (by decide)]) (frostExpired s.frost).stage (halfDirection s)
  have fan := halfBegun_fan (endHalf s) (halfNumber s) i (halfSchedule s i)
  rw [directionFor_endHalf, endHalf_frost, ceil, endHalf_fan] at fan
  exact (halfSets_frame s i .fan (by decide)).trans fan

theorem halfSets_pass : (halfSets s i).pass = { s.pass with current := false, state := cutState s.pass.state } := by
  have pass := halfBegun_frame (endHalf s) (halfNumber s) i (halfSchedule s i) .pass (by decide)
  exact ((halfSets_frame s i .pass (by decide)).trans pass).trans (endHalf_pass s)

theorem halfSets_unit : (halfSets s i).unit = { s.unit with
    waitPass := false, engine := passDiscarded s.unit.engine
    waitFilter := (handReport (windowsHanded s)).unit.waitFilter } := by
  have unit := halfBegun_frame (endHalf s) (halfNumber s) i (halfSchedule s i) .unit (by decide)
  exact ((halfSets_frame s i .unit (by decide)).trans unit).trans (endHalf_unit s)

theorem halfSets_filt : (halfSets s i).filt = { s.filt with held := (handReport (windowsHanded s)).filt.held } := by
  have filt := halfBegun_frame (endHalf s) (halfNumber s) i (halfSchedule s i) .filt (by decide)
  exact ((halfSets_frame s i .filt (by decide)).trans filt).trans (endHalf_filt s)

theorem halfSets_frost : (halfSets s i).frost = frostExpired s.frost := by
  have frost := halfBegun_frame (endHalf s) (halfNumber s) i (halfSchedule s i) .frost (by decide)
  exact ((halfSets_frame s i .frost (by decide)).trans frost).trans (endHalf_frost s)

theorem halfSets_quality : (halfSets s i).time.quality =
    if s.time.quality = .coarse ∧ s.time.crystalReady = false then .coarse else .crystal := by
  have time := halfBegun_frame (endHalf s) (halfNumber s) i (halfSchedule s i) .time (by decide)
  rw [halfSets_frame s i .time (by decide), halfWritten, time, endHalf_quality]

theorem halfSets_clim : (halfSets s i).clim = { shiftSets (halfDirection s) s.clim with
    endPoint := some (Count.earlier (halfSchedule s i).next 1024), midPoint := (halfSets s i).clim.midPoint } := by
  have direction : (halfWritten s i).own.direction = halfDirection s := by
    rw [← halfSets_frame s i .own (by decide), halfSets_own]
  have clim : (halfWritten s i).clim = s.clim :=
    (halfBegun_frame (endHalf s) (halfNumber s) i (halfSchedule s i) .clim (by decide)).trans
      (endHalf_frame s .clim (by decide))
  rw [halfSets, beginHalf, State.withClim_clim, direction, clim]
  rfl

/-! ### The line (R31, R38, R139) -/

/-- The line with the PHASE of the new half-cycle, and the clash age one older. -/
theorem halfSets_line : (halfSets s i).line =
    { (queueNotice (newEntry .phase false s.own.node false []) (endHalf s)).line with
      clashAge := min (s.line.clashAge + 1) 8 } := by
  have line := halfBegun_line (endHalf s) (halfNumber s) i (halfSchedule s i)
  have age : (endHalf s).line.clashAge = s.line.clashAge := by
    rw [(endHalf_thinned s).1]
  rw [endHalf_frame s .own (by decide), age] at line
  exact (halfSets_frame s i .line (by decide)).trans line

theorem halfSets_lineFields : (halfSets s i).line.clashAge = min (s.line.clashAge + 1) 8 ∧
    (halfSets s i).line.faultCount = s.line.faultCount ∧ (halfSets s i).line.rxq = s.line.rxq := by
  have fields := (endHalf_thinned s).1
  rw [halfSets_line, queueNotice_fields, fields]
  exact ⟨rfl, rfl, rfl⟩

end

end Sys2Proof.Laws
end

section
/-! ## What an own reversal expiry writes (R3 to R5, R15, R16, R55, R58, R87, R112, R117, R148 to R150) -/

namespace Sys2Proof.Laws

open Sys2Proof.Machine Sys2Proof.Safety

/-! ### The fan drive at an expiry (R55, R97, R111) -/

/-- What the fan drive is asked for a half-cycle of direction `d` after one of direction `before`. -/
def fanAsked (f : FanDrive) (before d : Dir) (g : FanDrive) : Prop :=
  (d = before → g.wanted = f.wanted ∧ g.state = f.state ∧ g.target = f.target) ∧
  (d ≠ before → g.wanted = d) ∧
  (d ≠ before ∧ d ≠ .halt →
    (f.state = .stopped → g.state = .flapOpening ∧ g.flap = .openFlap ∧ dirOfSide g.drive = d ∧ g.target = some d) ∧
    (f.state = .running ∧ d = dirOfSide f.drive → g.state = .running) ∧
    (f.state = .running ∧ d ≠ dirOfSide f.drive → g.state = .rampDown ∧ g.target = some d) ∧
    (f.state ≠ .stopped ∧ f.state ≠ .running → g.state = f.state ∧ g.target = f.target)) ∧
  (d ≠ before ∧ d = .halt →
    g.restart = false ∧
    (f.state = .running ∨ f.state = .rampUp → g.state = .rampDown ∧ g.target = some .halt) ∧
    (f.state = .rampDown ∨ f.state = .coast → g.state = f.state ∧ g.target = some .halt) ∧
    (f.state = .flapOpening → g.state = .flapClosing ∧ g.flap = .closed))

section
variable {s : State}

theorem fanStopped_fan_same (s : State) : (fanStopped s).fan = s.fan := fanStopped_frame s .fan (by decide)

theorem fanStopped_latch (s : State) : (fanStopped s).fan.latch = s.fan.latch := by
  rw [fanStopped_fan_same]

/-- A stop request by the state of the fan (R97, R111). -/
theorem stopRequest_stops (s : State) : (stopRequest s).fan.restart = false ∧
    (s.fan.state = .running ∨ s.fan.state = .rampUp →
      (stopRequest s).fan.state = .rampDown ∧ (stopRequest s).fan.target = some .halt) ∧
    (s.fan.state = .rampDown ∨ s.fan.state = .coast →
      (stopRequest s).fan.state = s.fan.state ∧ (stopRequest s).fan.target = some .halt) ∧
    (s.fan.state = .flapOpening → (stopRequest s).fan.state = .flapClosing ∧ (stopRequest s).fan.flap = .closed) := by
  refine ⟨(stopRequest_wanted s).2, fun turning => ?_, fun slowing => ?_, fun opening => ?_⟩
  · rw [stopRequest_turning turning]
    exact ⟨rfl, rfl⟩
  · rcases slowing with h | h
    · rw [stopRequest, h]
      exact ⟨h, rfl⟩
    · rw [stopRequest, h]
      exact ⟨h, rfl⟩
  · rw [stopRequest, opening]
    dsimp only
    rw [fanStopped_fan_same]
    exact ⟨rfl, rfl⟩

theorem fanRequest_stopped (side : Side) (h : s.fan.state = .stopped) :
    fanRequest side s = openFlapFor side (setWanted (dirOfSide side) s) := by
  have state : (setWanted (dirOfSide side) s).fan.state = .stopped := h
  have wanted : (setWanted (dirOfSide side) s).fan.wanted = dirOfSide side := rfl
  rw [fanRequest, compareWanted, state, wanted]
  cases side <;> rfl

theorem fanRequest_running (side : Side) (h : s.fan.state = .running) : fanRequest side s =
    if dirOfSide side = dirOfSide s.fan.drive then setWanted (dirOfSide side) s
    else rampDownTo (dirOfSide side) (setWanted (dirOfSide side) s) := by
  have state : (setWanted (dirOfSide side) s).fan.state = .running := h
  rw [fanRequest, compareWanted, state]
  rfl

theorem fanRequest_held (side : Side) (h : s.fan.state ≠ .stopped) (h' : s.fan.state ≠ .running) :
    fanRequest side s = setWanted (dirOfSide side) s := by
  rw [fanRequest, compareWanted]
  split
  next state => exact absurd state h
  next state => exact absurd state h'
  next => rfl

theorem fanRequest_wanted (side : Side) (s : State) : (fanRequest side s).fan.wanted = dirOfSide side := by
  by_cases stopped : s.fan.state = .stopped
  · rw [fanRequest_stopped side stopped]
    rfl
  · by_cases running : s.fan.state = .running
    · rw [fanRequest_running side running]
      split <;> rfl
    · rw [fanRequest_held side stopped running]
      rfl

/-- The requests keep the latch, the cap, the CEIL reference and the sample window. -/
theorem fanRequest_refs (side : Side) (s : State) : (fanRequest side s).fan.cap = s.fan.cap ∧
    (fanRequest side s).fan.ceilRef = s.fan.ceilRef ∧ (fanRequest side s).fan.window = s.fan.window ∧
    (fanRequest side s).fan.latch = s.fan.latch := by
  by_cases stopped : s.fan.state = .stopped
  · rw [fanRequest_stopped side stopped]
    exact ⟨rfl, rfl, rfl, rfl⟩
  · by_cases running : s.fan.state = .running
    · rw [fanRequest_running side running]
      split <;> exact ⟨rfl, rfl, rfl, rfl⟩
    · rw [fanRequest_held side stopped running]
      exact ⟨rfl, rfl, rfl, rfl⟩

theorem stopRequest_latch (s : State) : (stopRequest s).fan.latch = s.fan.latch := by
  unfold stopRequest
  dsimp only
  split
  · exact fanStopped_latch _
  · rfl
  · rfl
  · rfl
  · rfl
  · exact fanStopped_latch _
  · exact fanStopped_latch _

theorem askFan_refs (before : Dir) (s : State) : (askFan before s).fan.cap = s.fan.cap ∧
    (askFan before s).fan.ceilRef = s.fan.ceilRef ∧ (askFan before s).fan.window = s.fan.window ∧
    (askFan before s).fan.latch = s.fan.latch := by
  unfold askFan
  split
  · exact ⟨rfl, rfl, rfl, rfl⟩
  · split
    · exact fanRequest_refs _ s
    · obtain ⟨cap, ref, window⟩ := stopRequest_refs (s := s)
      exact ⟨cap, ref, window, stopRequest_latch s⟩

theorem askFan_asked (before : Dir) (s : State) : fanAsked s.fan before s.own.direction (askFan before s).fan := by
  by_cases same : s.own.direction = before
  · rw [askFan_same same]
    exact ⟨fun _ => ⟨rfl, rfl, rfl⟩, fun other => absurd same other, fun h => absurd same h.1, fun h => absurd same h.1⟩
  · by_cases halt : s.own.direction = .halt
    · rw [askFan_halt same halt]
      exact ⟨fun h => absurd h same, fun _ => (stopRequest_wanted s).1.trans halt.symm, fun h => absurd halt h.2,
        fun _ => stopRequest_stops s⟩
    · obtain ⟨side, direction⟩ := dirOfSide_of_ne halt
      have wanted := fanRequest_wanted side s
      rw [askFan_side same direction]
      refine ⟨fun h => absurd h same, fun _ => wanted.trans direction.symm, fun _ => ⟨fun stopped => ?_,
        fun ⟨running, reached⟩ => ?_, fun ⟨running, other⟩ => ?_, fun ⟨stopped, running⟩ => ?_⟩, fun h => absurd h.2 halt⟩
      · rw [fanRequest_stopped side stopped, direction]
        exact ⟨rfl, rfl, rfl, rfl⟩
      · rw [fanRequest_running side running, if_pos (direction.symm.trans reached)]
        exact running
      · rw [fanRequest_running side running, if_neg fun h => other (direction.trans h), direction]
        exact ⟨rfl, rfl⟩
      · rw [fanRequest_held side stopped running]
        exact ⟨rfl, rfl⟩

end

/-! ### The state after an expiry -/

section
variable {s v : State} {i : Count}

theorem expiry_within (run : s.mode.mode = .run) : othersKept [.line, .frost, .fan] (halfSets s i) (expiry i s) := by
  have claim := queueClaim_frame (halfSets s i)
  have mode : (queueClaim (halfSets s i)).mode.mode = .run := by
    rw [claim .mode (by decide), halfSets_within s i .mode (by decide)]
    exact run
  rw [expiry_eq]
  exact othersKept_append claim (askFan_frame mode)

theorem expiry_line (run : s.mode.mode = .run) : (expiry i s).line = (queueClaim (halfSets s i)).line ∧
    (expiry i s).frost = (queueClaim (halfSets s i)).frost := by
  have claim := queueClaim_frame (halfSets s i)
  have mode : (queueClaim (halfSets s i)).mode.mode = .run := by
    rw [claim .mode (by decide), halfSets_within s i .mode (by decide)]
    exact run
  have asked := askFan_frame (before := s.own.direction) mode
  rw [expiry_eq]
  exact ⟨asked .line (by decide), asked .frost (by decide)⟩

theorem expiry_frame (run : s.mode.mode = .run) :
    othersKept [.own, .line, .peers, .rev, .time, .unit, .pass, .fan, .clim, .frost, .filt] s (expiry i s) :=
  othersKept_mono (othersKept_append (halfSets_within s i) (expiry_within run)) (by decide)

theorem expiry_frost (run : s.mode.mode = .run) : (expiry i s).frost = { frostExpired s.frost with
    ownClaim := (expiry i s).frost.ownClaim } := by
  have frost := queueClaim_frost (s := halfSets s i)
  rw [halfSets_frost] at frost
  rw [(expiry_line run).2]
  exact frost

theorem expiry_lineFields (run : s.mode.mode = .run) : (expiry i s).line.clashAge = min (s.line.clashAge + 1) 8 ∧
    (expiry i s).line.faultCount = s.line.faultCount ∧ (expiry i s).line.rxq = s.line.rxq := by
  have fields := halfSets_lineFields s i
  rw [(expiry_line run).1]
  rcases queueClaim_line (s := halfSets s i) with line | line
  · rw [line, queueNotice_fields]
    exact fields
  · rw [line]
    exact fields

theorem expiry_fanRefs (run : s.mode.mode = .run) : (expiry i s).fan.cap = none ∧
    (expiry i s).fan.ceilRef = some (expiry i s).own.ceil ∧
    (expiry i s).fan.window = (if s.own.direction = .halt then s.fan.window else []) ∧
    (expiry i s).fan.latch = s.fan.latch := by
  have own := expiry_within (i := i) run .own (by decide)
  obtain ⟨cap, ref, window, latch⟩ := askFan_refs s.own.direction (queueClaim (halfSets s i))
  rw [queueClaim_frame _ .fan (by decide), halfSets_fan] at cap ref window latch
  rw [own, halfSets_own, expiry_eq]
  exact ⟨cap, ref, window, latch⟩

theorem expiry_asked (run : s.mode.mode = .run) :
    fanAsked s.fan s.own.direction (expiry i s).own.direction (expiry i s).fan := by
  have own := expiry_within (i := i) run .own (by decide)
  have asked := askFan_asked s.own.direction (queueClaim (halfSets s i))
  rw [queueClaim_frame _ .fan (by decide), halfSets_fan, queueClaim_frame _ .own (by decide)] at asked
  rw [own, expiry_eq]
  exact asked

end

end Sys2Proof.Laws
end

section
/-! ## The reversal expiry writes the half-cycle (R3 to R5, R15, R16, R55, R58, R59, R87, R108, R109, R112, R117, R148 to
R150, R167, R168) -/

namespace Sys2Proof.Laws

open Sys2Proof.Machine Sys2Proof.Safety

/-- The balance pass on the engine is marked so that its result is discarded (R87). -/
def passMarked (e : Engine) : Engine :=
  match e with
  | .pass a ms _ => .pass a ms true
  | e => e

/-- The half-cycle that an own reversal expiry at `i` writes, as it shows in the blocks of `u`, and `last`. -/
def halfShows (s u : State) (i : Count) (last : Prop) : Prop :=
  let k := s.rev.pendingNumber.getD (s.own.k.getD 0 + 1)
  u.own.k = some k ∧ u.own.instant = some i ∧
    u.own.direction = directionAt s u.frost.stage k ∧
    u.rev.tally = [] ∧ u.rev.gather = some (Count.later i 3072) ∧
    u.rev.claimWindow = some (Count.later i 10240) ∧
    u.rev.statusTimer = (if k.toNat % 4 = s.own.node % 4 then some (Count.later i 5120) else none) ∧
    u.own.level = levelNow s ∧ u.own.want = halfWant s u.own.direction ∧
    u.own.ceil = halfCeil s u.frost.stage u.own.direction ∧ u.own.flow = min u.own.want u.own.ceil ∧
    u.fan.cap = none ∧ u.fan.ceilRef = some u.own.ceil ∧
    u.fan.window = (if s.own.direction = .halt then s.fan.window else []) ∧
    u.fan.latch = s.fan.latch ∧ u.pass.current = false ∧ u.pass.record = s.pass.record ∧
    u.unit.waitPass = false ∧ u.unit.waitClimate = s.unit.waitClimate ∧
    u.unit.engine = passMarked s.unit.engine ∧ u.pass.snapshot = s.pass.snapshot ∧
    u.pass.state = cutState s.pass.state ∧
    u.line.clashAge = min (s.line.clashAge + 1) 8 ∧
    u.line.faultCount = s.line.faultCount ∧ u.line.rxq = s.line.rxq ∧
    u.peers = (if tableHeld s then { s.peers with owedAgeings := s.peers.owedAgeings + 1 }
      else { s.peers with records := recordsAged s.peers.records }) ∧
    u.clim.current = { emptySet with direction := u.own.direction } ∧
    u.clim.previous = s.clim.current ∧ u.frost.claims = [] ∧ u.frost.granted = false ∧
    u.own.node = s.own.node ∧ u.own.outdoor = s.own.outdoor ∧ last

theorem passMarked_eq (e : Engine) : passDiscarded e = passMarked e := by
  cases e <;> rfl

/-- An own reversal expiry writes the half-cycle. -/
theorem expiry_shows {s : State} {i : Count} {last : Prop} (run : s.mode.mode = .run)
    (h : (expiry i s).own.leaving = s.own.leaving → last) : halfShows s (expiry i s) i last := by
  have within := expiry_within (i := i) run
  have own := (within .own (by decide)).trans (halfSets_own s i)
  have rev := (within .rev (by decide)).trans (halfSets_rev s i)
  have pass := (within .pass (by decide)).trans (halfSets_pass s i)
  have unit := (within .unit (by decide)).trans (halfSets_unit s i)
  have peers := (within .peers (by decide)).trans (halfSets_peers s i)
  have clim := (within .clim (by decide)).trans (halfSets_clim s i)
  have frost := expiry_frost (i := i) run
  obtain ⟨-, claims, granted, -⟩ := frostExpired_keeps s.frost
  have stage : (expiry i s).frost.stage = (frostExpired s.frost).stage := by rw [frost]
  have claims' : (expiry i s).frost.claims = [] := by rw [frost]; exact claims
  have granted' : (expiry i s).frost.granted = false := by rw [frost]; exact granted
  have direction : (expiry i s).own.direction = halfDirection s := by rw [own]
  obtain ⟨clash, count, rxq⟩ := expiry_lineFields (i := i) run
  obtain ⟨cap, ref, window, latch⟩ := expiry_fanRefs (i := i) run
  rw [passMarked_eq] at unit
  generalize expiry i s = u at *
  rw [halfDirection, ← stage] at direction
  rw [halfDirection, ← stage, ← direction] at own clim
  have number : u.own.k = some (halfNumber s) := by rw [own]
  have instant : u.own.instant = some i := by rw [own]
  have level : u.own.level = levelNow s := by rw [own]
  have want : u.own.want = halfWant s u.own.direction := congrArg OwnRecord.want own
  have ceil : u.own.ceil = halfCeil s u.frost.stage u.own.direction := congrArg OwnRecord.ceil own
  have flow : u.own.flow = min u.own.want u.own.ceil := by
    rw [want, ceil]
    exact congrArg OwnRecord.flow own
  have leaving : u.own.leaving = s.own.leaving := by rw [own]
  have kept : u.own.node = s.own.node ∧ u.own.outdoor = s.own.outdoor := by
    rw [own]
    exact ⟨rfl, rfl⟩
  have sets : u.clim.current = { emptySet with direction := u.own.direction } ∧ u.clim.previous = s.clim.current := by
    rw [clim]
    exact ⟨rfl, rfl⟩
  clear own clim
  unfold halfShows
  rw [rev, pass, unit]
  exact ⟨number, instant, direction, rfl, rfl, rfl, rfl, level, want, ceil, flow, cap, ref, window, latch, rfl, rfl, rfl, rfl,
    rfl, rfl, rfl, clash, count, rxq, peers, sets.1, sets.2, claims', granted', kept.1, kept.2, h leaving⟩

/-- What a half-cycle shows depends neither on the clock, nor on the mode, nor on the end of listening. -/
theorem halfShows_congr {s v u : State} {i : Count} {last : Prop} (h : othersKept [.time, .mode, .rev] s v)
    (pending : v.rev.pendingNumber = s.rev.pendingNumber) (shows : halfShows v u i last) :
    halfShows s u i last := by
  have own : v.own = s.own := h .own (by decide)
  have fan : v.fan = s.fan := h .fan (by decide)
  have filt : v.filt = s.filt := h .filt (by decide)
  have line : v.line = s.line := h .line (by decide)
  have unit : v.unit = s.unit := h .unit (by decide)
  have direction : directionAt v = directionAt s := by
    funext st k
    rw [directionAt, fan, own]
    rfl
  have flows := halfFlows_congr (v := v) (h .demand (by decide)) (by rw [line]) (by rw [filt]) (by rw [filt])
    (by rw [h .svc (by decide)]) u.frost.stage u.own.direction
  have held : tableHeld v = tableHeld s := tableHeld_congr (by rw [unit])
  unfold halfShows at shows ⊢
  rw [flows.1, flows.2.1, flows.2.2, held, direction, pending, own, fan, line, unit, h .pass (by decide),
    h .peers (by decide), h .clim (by decide)] at shows
  exact shows

/-! ### The PHASE and the CLAIM of an expiry (R31, R55, R139) -/

theorem queueNotice_takes {s : State} {e : TxEntry} (opens : s.line.faultCount < 64) (passes : mutedClass e.cls = false)
    (room : s.line.txq.length < 4) (fresh : ∀ x ∈ s.line.txq, x.cls ≠ e.cls) : e ∈ (queueNotice e s).line.txq := by
  rw [queueNotice_accepted opens passes, State.withLine_line, acceptNotice_free (entryOf_eq_none.mpr fresh) room]
  exact mem_placeEntry e _

/-- With room the PHASE of the new half-cycle stands in the queue. -/
theorem expiry_phase {s : State} {i : Count} (run : s.mode.mode = .run) (opens : s.line.faultCount < 64)
    (room : s.line.txq.length < 3) (fresh : ∀ x ∈ s.line.txq, x.cls ≠ .phase) :
    newEntry .phase false s.own.node false [] ∈ (expiry i s).line.txq := by
  obtain ⟨fields, length, none_⟩ := endHalf_thinned s
  have count : (endHalf s).line.faultCount = s.line.faultCount := by rw [fields]
  have taken := queueNotice_takes (s := endHalf s) (e := newEntry .phase false s.own.node false [])
    (by rw [count]; exact opens) rfl (by omega) (none_ .phase fresh)
  have length' := queueNotice_length (s := endHalf s) (e := newEntry .phase false s.own.node false []) (by omega)
  have line := halfSets_line s i
  have stands : newEntry .phase false s.own.node false [] ∈ (halfSets s i).line.txq := by
    rw [line]
    exact taken
  rw [(expiry_line run).1]
  rcases queueClaim_line (s := halfSets s i) with claimed | same
  · rw [claimed]
    exact (queueNotice_mem_other (by rw [line]; dsimp only; omega)
      (show NoticeClass.phase ≠ .claim by decide)).mpr stands
  · rw [same]
    exact stands

theorem takeExpiry_of {s : State} {i : Count} (run : s.mode.mode = .run) (next : s.rev.next = some i) :
    takeExpiry s = expiry i (advanceTo i s) := by
  simp only [takeExpiry, next, if_pos run]

/-- Settles O44: the half-cycle written, its PHASE and its request to the fan, and the sample of the ending one. -/
theorem reversalExpiryWritesTheHalfCycle : Obligations.ReversalExpiryWritesTheHalfCycle := by
  refine ⟨?writes, ?asks, ?samples⟩
  case writes =>
    intro s i run next
    refine ⟨finish (takeExpiry s), rfl, ?_⟩
    have run' : (advanceTo i s).mode.mode = .run := by rw [advanceTo_mode]; exact run
    have frame : othersKept [.own, .line, .peers, .rev, .time, .unit, .pass, .fan, .clim, .frost, .filt, .cond] s
        (finish (expiry i (advanceTo i s))) :=
      finish_within (othersKept_append (advanceTo_frame i s) (expiry_frame (i := i) run'))
    have shows := halfShows_congr (othersKept_mono (advanceTo_frame i s) (by decide)) (by rw [advanceTo_rev])
      (expiry_shows (i := i) run' fun leaving => And.intro (leaving.trans (by rw [advanceTo_own])) frame)
    rw [takeExpiry_of run next]
    generalize expiry i (advanceTo i s) = u at *
    exact shows
  case asks =>
    intro s i run next
    refine ⟨finish (takeExpiry s), rfl, ?_⟩
    have run' : (advanceTo i s).mode.mode = .run := by rw [advanceTo_mode]; exact run
    have phase := expiry_phase (i := i) run'
    have asked := expiry_asked (i := i) run'
    rw [advanceTo_fan, advanceTo_own] at asked
    rw [advanceTo_line, advanceTo_own] at phase
    rw [takeExpiry_of run next]
    generalize expiry i (advanceTo i s) = u at *
    exact ⟨fun ⟨opens, room, fresh⟩ => phase opens room fresh, asked⟩
  case samples =>
    intro s i side k run next direction number
    refine ⟨finish (takeExpiry s), rfl, ?_⟩
    have run' : (advanceTo i s).mode.mode = .run := by rw [advanceTo_mode]; exact run
    have within := expiry_within (i := i) run'
    have filt := (within .filt (by decide)).trans (halfSets_filt (advanceTo i s) i)
    have unit := (within .unit (by decide)).trans (halfSets_unit (advanceTo i s) i)
    have before := windowsHanded_frame (advanceTo i s)
    have own : (windowsHanded (advanceTo i s)).own = s.own := (before .own (by decide)).trans (advanceTo_own i s)
    have fan : (windowsHanded (advanceTo i s)).fan = s.fan := (before .fan (by decide)).trans (advanceTo_fan i s)
    have filt' : (windowsHanded (advanceTo i s)).filt = s.filt := (before .filt (by decide)).trans (advanceTo_filt i s)
    have waits : (windowsHanded (advanceTo i s)).unit.waitFilter = s.unit.waitFilter := by
      rw [(windowsHanded_asked (advanceTo i s)).2, advanceTo_unit]
    obtain ⟨held, asked⟩ := handReport_sample (s := windowsHanded (advanceTo i s)) (by rw [own]; exact direction)
      (by rw [own]; exact number)
    rw [fan, filt'] at held asked
    rw [waits] at asked
    rw [held, advanceTo_filt] at filt
    rw [asked, advanceTo_unit] at unit
    rw [takeExpiry_of run next]
    generalize expiry i (advanceTo i s) = u at *
    refine ⟨filt, ?_⟩
    rw [finish_unit, unit]
    rfl

end Sys2Proof.Laws
end

section
/-! ## The reversal expiry schedules the next and counts the frost guard's half-cycles (R47, R64, R74, R118, R132, R133,
R137, R139) -/

namespace Sys2Proof.Laws

open Sys2Proof.Machine Sys2Proof.Safety

/-! ### The next reversal without adoption (R55, R64, R74, R118) -/

section
variable (s : State)

/-- The jump limit at an expiry (R64, R74). -/
def limitNow : Int := if s.time.quality = .coarse ∧ s.time.crystalReady = false then 2048 else 64

/-- The alignment correction of the ending half tally (R64). -/
def correctionNow : Int :=
  if usableOffsets s.rev.tally = [] then 0
  else max (-limitNow s) (min ((usableOffsets s.rev.tally).sum.tdiv (2 * (usableOffsets s.rev.tally).length)) (limitNow s))

/-- The next reversal after an expiry at `i` that adopts nothing (R55). -/
def alignedNext (i : Count) : Count := i + BitVec.ofInt 32 ((paramNat s 0 * 10240 : Nat) + correctionNow s)

theorem correction_endHalf : correction (endHalf s).time.quality s.rev.tally = correctionNow s := by
  have limit : jumpLimit (endHalf s).time.quality = limitNow s := by
    rw [endHalf_quality, limitNow]
    split <;> rfl
  rw [correction, limit]
  rfl

theorem halfLength_endHalf : halfLength (endHalf s) = paramNat s 0 * 10240 := by
  rw [halfLength, paramNat_congr (s := s) (by rw [endHalf_frame s .svc (by decide)])]

theorem halfSchedule_aligned {s : State} {i : Count} (h : adoptedKp s.own.node s.rev.tally = none) :
    halfSchedule s i = { next := alignedNext s i, pending := none } := by
  have aligned : alignedSchedule (endHalf s) i = { next := alignedNext s i, pending := none } := by
    rw [alignedSchedule, endHalf_frame s .rev (by decide), correction_endHalf, halfLength_endHalf]
    rfl
  rw [halfSchedule, evaluateTally, endHalf_frame s .rev (by decide), endHalf_frame s .own (by decide), h, aligned]

/-- The schedule and the timing quality after an expiry that adopts nothing. -/
def nextScheduled (s u : State) (i : Count) : Prop :=
  u.rev.next = some (alignedNext s i) ∧ u.rev.pendingNumber = none ∧
    u.clim.endPoint = some (alignedNext s i - 1024) ∧
    u.time.quality = (if s.time.quality = .coarse ∧ s.time.crystalReady = false then .coarse else .crystal)

theorem expiry_schedules {s : State} {i : Count} (run : s.mode.mode = .run)
    (h : adoptedKp s.own.node s.rev.tally = none) : nextScheduled s (expiry i s) i := by
  have within := expiry_within (i := i) run
  have aligned := halfSchedule_aligned (i := i) h
  rw [nextScheduled, within .rev (by decide), within .clim (by decide), within .time (by decide), halfSets_rev,
    halfSets_clim, halfSets_quality, aligned]
  exact ⟨rfl, rfl, rfl, rfl⟩

/-- The schedule depends on the timing, the tally and P0 alone. -/
theorem nextScheduled_congr {s v u : State} {i : Count} (quality : v.time.quality = s.time.quality)
    (ready : v.time.crystalReady = s.time.crystalReady) (tally : v.rev.tally = s.rev.tally)
    (params : v.svc.params = s.svc.params) (h : nextScheduled v u i) : nextScheduled s u i := by
  have limit : limitNow v = limitNow s := by rw [limitNow, quality, ready]; rfl
  have next : alignedNext v i = alignedNext s i := by
    rw [alignedNext, correctionNow, limit, tally, paramNat_congr params]
    rfl
  rw [nextScheduled, next, quality, ready] at h
  exact h

end

/-! ### The half-cycles of the frost guard (R132, R133, R137) -/

section
variable {f : FrostGuard}

theorem frostExpired_grants (stage : f.stage = .claiming) (granted : f.granted = true) :
    (frostExpired f).stage = .thaw ∧ (frostExpired f).thawHalves = 1 ∧
      (frostExpired f).thawTotal = min (f.thawTotal + 1) 65535 := by
  simp [frostExpired, frostTurned, stage, granted, movedFrost, bump16]

theorem frostExpired_thaws (stage : f.stage = .thaw) (early : f.thawHalves < 4) :
    (frostExpired f).stage = .thaw ∧ (frostExpired f).thawHalves = f.thawHalves + 1 := by
  simp [frostExpired, frostTurned, stage, early]

theorem frostExpired_thawEnds (stage : f.stage = .thaw) (last : 4 ≤ f.thawHalves) :
    (frostExpired f).stage = .trim ∧ (frostExpired f).thawHalves = 0 ∧ (frostExpired f).holdOff = 6 ∧
      (frostExpired f).postThaw = some { seen := 0, high := false } := by
  have over_ : ¬ f.thawHalves < 4 := Nat.not_lt.mpr last
  simp [frostExpired, frostTurned, stage, over_, movedFrost]

theorem frostExpired_lockoutEnds (stage : f.stage = .lockout) (cause : f.cause = some LockCause.failed)
    (last : f.lockHalves = 19) : (frostExpired f).stage = .noFrost ∧ (frostExpired f).cause = none := by
  simp [frostExpired, frostTurned, stage, cause, last, movedFrost]

theorem frostExpired_holdOff (stage : f.stage ≠ .thaw) : (frostExpired f).holdOff = f.holdOff - 1 := by
  have moved (st : FrostStage) (g : FrostGuard) : (movedFrost st g).holdOff = g.holdOff := (movedFrost_keeps st g).2.2.1
  simp only [frostExpired, frostTurned]
  split
  · split
    · exact moved _ _
    · rfl
  next thaw => exact absurd thaw stage
  · split
    · split
      · rfl
      · exact moved _ _
    · rfl
  · rfl

end

/-! ### The CLAIM of an expiry (R139) -/

section
variable {s : State} {i : Count}

theorem queueNotice_mem {e x : TxEntry} {s : State} (h : x ∈ (queueNotice e s).line.txq) : x = e ∨ x ∈ s.line.txq := by
  have placed {q : List TxEntry} (sub : ∀ y ∈ q, y ∈ s.line.txq) (h : x ∈ placeEntry e q) : x = e ∨ x ∈ s.line.txq :=
    ((mem_insertOrd _).mp h).imp_right (sub x)
  have accepted (h : x ∈ (acceptNotice e s.line).txq) : x = e ∨ x ∈ s.line.txq := by
    unfold acceptNotice at h
    split at h
    · split at h
      · exact .inr h
      · exact placed (fun y mem => (List.mem_filter.mp mem).1) h
    · split at h
      · exact placed (fun y mem => mem) h
      · split at h
        · split at h
          · exact placed (fun y mem => (List.mem_filter.mp mem).1) h
          · exact .inr h
        · exact .inr h
  unfold queueNotice at h
  split at h
  · exact .inr h
  · split at h
    · exact .inr h
    · exact accepted h
  · exact accepted h

theorem claimOf_halfSets : claimOf (halfSets s i) = newEntry .claim (decide (4 ≤ s.frost.severity)) s.own.node false
    [halfNumber s, BitVec.ofNat 8 s.frost.severity] := by
  have severity := (frostExpired_keeps s.frost).1
  rw [claimOf, halfSets_frost, halfSets_own, severity]
  rfl

/-- The PHASE of the new half-cycle is the one entry that the queue has gained. -/
theorem halfSets_noClaim (fresh : ∀ x ∈ s.line.txq, x.cls ≠ .claim) : ∀ x ∈ (halfSets s i).line.txq, x.cls ≠ .claim := by
  intro x mem
  rw [halfSets_line] at mem
  rcases queueNotice_mem mem with rfl | before
  · exact show NoticeClass.phase ≠ .claim by decide
  · exact (endHalf_thinned s).2.2 .claim fresh x before

theorem halfSets_room (room : s.line.txq.length < 3) : (halfSets s i).line.txq.length < 4 := by
  have length := (endHalf_thinned s).2.1
  have one := queueNotice_length (s := endHalf s) (e := newEntry .phase false s.own.node false []) (by omega)
  rw [halfSets_line]
  dsimp only
  omega

/-- In CLAIMING outside CUT OFF the own claim is QUEUED, and its CLAIM stands in a queue with room. -/
theorem expiry_claims (run : s.mode.mode = .run) (stage : (expiry i s).frost.stage = .claiming)
    (opens : s.line.faultCount < 64) : (expiry i s).frost.ownClaim = .queued ∧
    (s.line.txq.length < 3 → (∀ x ∈ s.line.txq, x.cls ≠ .claim) →
      newEntry .claim (decide (4 ≤ s.frost.severity)) s.own.node false
        [halfNumber s, BitVec.ofNat 8 s.frost.severity] ∈ (expiry i s).line.txq) := by
  obtain ⟨-, -, granted, -⟩ := frostExpired_keeps s.frost
  obtain ⟨-, count, -⟩ := halfSets_lineFields s i
  have claiming : (halfSets s i).frost.stage = .claiming := by
    rw [expiry_frost run] at stage
    rw [halfSets_frost]
    exact stage
  obtain ⟨line, frost⟩ := expiry_line (i := i) run
  have claim := queueClaim_claiming claiming (by rw [halfSets_frost]; exact granted) (by rw [count]; exact opens)
  rw [line, frost, claim, State.withFrost_line, State.withFrost_frost, ← claimOf_halfSets (i := i)]
  exact ⟨rfl, fun room fresh => queueNotice_takes (by rw [count]; exact opens) rfl (halfSets_room room)
    (halfSets_noClaim fresh)⟩

/-- Outside CLAIMING an expiry queues no CLAIM. -/
theorem expiry_noClaim (run : s.mode.mode = .run) (stage : (expiry i s).frost.stage ≠ .claiming)
    (fresh : ∀ x ∈ s.line.txq, x.cls ≠ .claim) : ∀ x ∈ (expiry i s).line.txq, x.cls ≠ .claim := by
  have other : (halfSets s i).frost.stage ≠ .claiming := by
    rw [expiry_frost run] at stage
    rw [halfSets_frost]
    exact stage
  rw [(expiry_line run).1, queueClaim_other other]
  exact halfSets_noClaim fresh

end

/-- Settles O45: the next reversal, the half-cycles of the frost guard, and the CLAIM. -/
theorem reversalExpirySchedulesTheNext : Obligations.ReversalExpirySchedulesTheNext := by
  refine ⟨?schedules, ?counts⟩
  case schedules =>
    intro s i run next alone
    refine ⟨finish (takeExpiry s), rfl, ?_⟩
    have run' : (advanceTo i s).mode.mode = .run := by rw [advanceTo_mode]; exact run
    have scheduled := nextScheduled_congr (s := s) (advanceTo_quality i s) (advanceTo_crystalReady i s) (by rw [advanceTo_rev])
      (by rw [advanceTo_svc]) (expiry_schedules (i := i) run' (by rw [advanceTo_own, advanceTo_rev]; exact alone))
    rw [takeExpiry_of run next]
    generalize expiry i (advanceTo i s) = u at *
    exact scheduled
  case counts =>
    intro s i run next
    refine ⟨finish (takeExpiry s), rfl, ?_⟩
    have run' : (advanceTo i s).mode.mode = .run := by rw [advanceTo_mode]; exact run
    have frost := expiry_frost (i := i) run'
    have claims := expiry_claims (i := i) run'
    have none_ := expiry_noClaim (i := i) run'
    have number : halfNumber (advanceTo i s) = halfNumber s := by rw [halfNumber, advanceTo_rev, advanceTo_own]; rfl
    rw [advanceTo_frost] at frost claims
    rw [advanceTo_line, advanceTo_own, number] at claims
    rw [advanceTo_line] at none_
    rw [takeExpiry_of run next]
    generalize expiry i (advanceTo i s) = u at *
    have stage : u.frost.stage = (frostExpired s.frost).stage := by rw [frost]
    have halves : u.frost.thawHalves = (frostExpired s.frost).thawHalves := by rw [frost]
    have total : u.frost.thawTotal = (frostExpired s.frost).thawTotal := by rw [frost]
    have holdOff : u.frost.holdOff = (frostExpired s.frost).holdOff := by rw [frost]
    have postThaw : u.frost.postThaw = (frostExpired s.frost).postThaw := by rw [frost]
    have cause : u.frost.cause = (frostExpired s.frost).cause := by rw [frost]
    refine ⟨fun ⟨claiming, granted⟩ => ?_, fun ⟨thaw, early⟩ => ?_, fun ⟨thaw, last⟩ => ?_, fun ⟨lockout, failed, last⟩ => ?_,
      fun other => ?_, fun ⟨claiming, opens⟩ => (claims claiming opens).1,
      fun ⟨claiming, opens, room, fresh⟩ => (claims claiming opens).2 room fresh, fun ⟨other, fresh⟩ => none_ other fresh⟩
    · rw [finish_frost, stage, halves, total]
      exact frostExpired_grants claiming granted
    · rw [finish_frost, stage, halves]
      exact frostExpired_thaws thaw early
    · rw [finish_frost, stage, halves, holdOff, postThaw]
      exact frostExpired_thawEnds thaw last
    · rw [finish_frost, stage, cause]
      exact frostExpired_lockoutEnds lockout failed last
    · rw [finish_frost, holdOff]
      exact frostExpired_holdOff other

end Sys2Proof.Laws
end

section
/-! ## Adoption lands on the other group (R65 to R67) -/

namespace Sys2Proof.Laws

open Sys2Proof.Machine Sys2Proof.Safety

/-! ### Whole half-cycles after an instant (R66, R71) -/

/-- The instant `n` counts after `t`, as seen from `i`, where `t` lies behind `i` plus `c`. -/
theorem since_later {t i : Count} {c n : Nat} (ahead : 0 ≤ Count.since (Count.later i c) t)
    (reached : Count.since (Count.later i c) t ≤ n + c) (short : n + c < 2 ^ 31) :
    Count.since (Count.later t n) i = n + c - Count.since (Count.later i c) t := by
  simp only [Count.since, Count.later, BitVec.toInt_eq_toNat_cond, BitVec.toNat_sub, BitVec.toNat_add,
    BitVec.toNat_ofNat] at *
  have ht := t.isLt
  have hi := i.isLt
  split at reached <;> split <;> omega

/-- The smallest whole multiple of a length at or above a distance (R66, R71). -/
theorem multipleFor_reaches {behind : Int} {L : Nat} (pos : 0 < L) (ahead : 0 < behind) :
    1 ≤ multipleFor behind L ∧ behind ≤ (multipleFor behind L * L : Nat) ∧
      ((multipleFor behind L * L : Nat) : Int) < behind + L := by
  have posL : (0 : Int) < L := Int.natCast_pos.mpr pos
  have low := Int.ediv_mul_le (behind + L - 1) (Int.ne_of_gt posL)
  have high := Int.lt_ediv_add_one_mul_self (behind + L - 1) posL
  have one : 1 ≤ (behind + L - 1) / L := by
    rw [Int.le_ediv_iff_mul_le posL]
    omega
  have m : (multipleFor behind L : Int) = (behind + L - 1) / L := by
    rw [multipleFor, if_neg (Nat.ne_of_gt pos)]
    omega
  rw [Int.natCast_mul, m]
  rw [Int.add_mul, Int.one_mul] at high
  refine ⟨by omega, by omega, by omega⟩

/-! ### The best group (R65, R66) -/

theorem outranks_iff (a b : PhaseGroup) :
    outranks a b = true ↔ b.size < a.size ∨ a.size = b.size ∧ a.lowest < b.lowest := by
  simp [outranks]

theorem not_outranks_trans {a b c : PhaseGroup} (h : outranks a b = false) (h' : outranks b c = false) :
    outranks a c = false := by
  rw [Bool.eq_false_iff, Ne, outranks_iff] at *
  omega

theorem not_outranks_below {a b c : PhaseGroup} (h : outranks a b = true) (h' : outranks a c = false) :
    outranks b c = false := by
  rw [Bool.eq_false_iff, Ne, outranks_iff] at *
  omega

/-- Of a chosen group and another, the better one is kept, and neither comes before one that the better does not. -/
theorem betterKp_best {tally : List TallyEntry} {best : Option HalfNo} {e : TallyEntry} {b kp : HalfNo}
    (h : betterKp tally best e = some b) (hb : outranks (foreignGroup b tally) (foreignGroup kp tally) = false) :
    outranks (foreignGroup e.kp tally) (foreignGroup kp tally) = false ∧
      (∀ c ∈ best, outranks (foreignGroup c tally) (foreignGroup kp tally) = false) ∧
      (best = some b ∨ e.kp = b) := by
  cases best with
  | none =>
    obtain rfl : e.kp = b := Option.some.inj h
    exact ⟨hb, nofun, .inr rfl⟩
  | some c =>
    rw [betterKp] at h
    by_cases better : outranks (foreignGroup e.kp tally) (foreignGroup c tally) = true
    · rw [if_pos better] at h
      obtain rfl : e.kp = b := Option.some.inj h
      refine ⟨hb, fun d mem => ?_, .inr rfl⟩
      obtain rfl : c = d := Option.some.inj mem
      exact not_outranks_below better hb
    · rw [if_neg better] at h
      obtain rfl : c = b := Option.some.inj h
      refine ⟨not_outranks_trans (Bool.eq_false_iff.mpr better) hb, fun d mem => ?_, .inl rfl⟩
      obtain rfl : c = d := Option.some.inj mem
      exact hb

theorem bestKp_of {tally es : List TallyEntry} {best : Option HalfNo} {kp : HalfNo}
    (h : es.foldl (betterKp tally) best = some kp) :
    (best = some kp ∨ ∃ e ∈ es, e.kp = kp) ∧
      (∀ b ∈ best, outranks (foreignGroup b tally) (foreignGroup kp tally) = false) ∧
      ∀ e ∈ es, outranks (foreignGroup e.kp tally) (foreignGroup kp tally) = false := by
  induction es generalizing best with
  | nil =>
    have chosen : best = some kp := h
    refine ⟨.inl chosen, fun b mem => ?_, nofun⟩
    obtain rfl : kp = b := Option.some.inj (chosen.symm.trans mem)
    rw [Bool.eq_false_iff, Ne, outranks_iff]
    omega
  | cons e es ih =>
    obtain ⟨source, kept, none_⟩ := ih h
    cases better : betterKp tally best e with
    | none =>
      exfalso
      unfold betterKp at better
      split at better
      · cases better
      · split at better <;> cases better
    | some b =>
      obtain ⟨first, before, from_⟩ := betterKp_best better (kept b better)
      refine ⟨?_, before, fun x mem => ?_⟩
      · rcases source with chosen | ⟨x, mem, chosen⟩
        · obtain rfl : b = kp := Option.some.inj (better.symm.trans chosen)
          exact from_.imp_right fun same => ⟨e, List.mem_cons_self, same⟩
        · exact .inr ⟨x, List.mem_cons_of_mem _ mem, chosen⟩
      · rcases List.mem_cons.mp mem with rfl | mem
        · exact first
        · exact none_ x mem

/-- The group that is adopted qualifies, and no qualifying group comes before it (R66). -/
theorem adoptedKp_best {node : Nat} {tally : List TallyEntry} {kp : HalfNo} (h : adoptedKp node tally = some kp) :
    outranks (foreignGroup kp tally) (ownGroup node tally) = true ∧
      ∀ x ∈ tally, x.agreeing = false → outranks (foreignGroup x.kp tally) (ownGroup node tally) = true →
        outranks (foreignGroup x.kp tally) (foreignGroup kp tally) = false := by
  obtain ⟨source, -, none_⟩ := bestKp_of h
  obtain ⟨e, mem, rfl⟩ := source.resolve_left (by simp)
  obtain ⟨-, qualifies⟩ := List.mem_filter.mp mem
  exact ⟨(Bool.and_eq_true_iff.mp qualifies).2, fun x mem' foreign qualifies' =>
    none_ x (List.mem_filter.mpr ⟨mem', by simp [foreign, qualifies']⟩)⟩

/-! ### The schedule of an adoption (R66) -/

/-- The whole number of half-cycles after the newest PHASE of the adopted group. -/
def adoptedMultiple (s : State) (i : Count) (e : TallyEntry) : Nat :=
  multipleFor (Count.since (Count.later i 10240) e.tr) (paramNat s 0 * 10240)

theorem halfSchedule_adopted {s : State} {i : Count} {kp : HalfNo} {e : TallyEntry}
    (adopted : adoptedKp s.own.node s.rev.tally = some kp) (newest : (foreignWith kp s.rev.tally).getLast? = some e) :
    halfSchedule s i = { next := Count.later e.tr (adoptedMultiple s i e * (paramNat s 0 * 10240))
                         pending := some (kp + BitVec.ofNat 8 (adoptedMultiple s i e)) } := by
  rw [halfSchedule, evaluateTally, endHalf_frame s .rev (by decide), endHalf_frame s .own (by decide), adopted]
  dsimp only
  rw [adopt, endHalf_frame s .rev (by decide), newest, halfLength_endHalf]
  rfl

/-- Settles O46: the best group is adopted, and the next reversal lies at least 10,240 counts ahead. -/
theorem adoptionLandsOnTheOtherGroup : Obligations.AdoptionLandsOnTheOtherGroup := by
  intro s i kp e run next adopted newest long short ahead recent
  obtain ⟨qualifies, best⟩ := adoptedKp_best adopted
  refine ⟨qualifies, best, finish (takeExpiry s), rfl, adoptedMultiple s i e, ?_⟩
  have run' : (advanceTo i s).mode.mode = .run := by rw [advanceTo_mode]; exact run
  have schedule := halfSchedule_adopted (s := advanceTo i s) (i := i) (kp := kp) (e := e)
    (by rw [advanceTo_own, advanceTo_rev]; exact adopted) (by rw [advanceTo_rev]; exact newest)
  have multiple : adoptedMultiple (advanceTo i s) i e = adoptedMultiple s i e := by
    rw [adoptedMultiple, paramNat_congr (s := s) (by rw [advanceTo_svc])]
    rfl
  rw [multiple, paramNat_congr (s := s) (by rw [advanceTo_svc])] at schedule
  have rev := (expiry_within (i := i) run' .rev (by decide)).trans (halfSets_rev (advanceTo i s) i)
  rw [schedule] at rev
  obtain ⟨one, reaches, below⟩ := multipleFor_reaches (L := paramNat s 0 * 10240) (by omega) ahead
  rw [← adoptedMultiple] at one reaches below
  generalize adoptedMultiple s i e = m at *
  have since := since_later (n := m * (paramNat s 0 * 10240)) (Int.le_of_lt ahead) (by omega) (by omega)
  rw [takeExpiry_of run next]
  generalize expiry i (advanceTo i s) = u at *
  refine ⟨one, by omega, _, congrArg ReversalTimer.next rev, rfl, congrArg ReversalTimer.pendingNumber rev, ?_, ?_⟩
  · rw [since]
    omega
  · rw [since]
    omega

end Sys2Proof.Laws
end

section
/-! ## Entry to RUN and the end of listening (R55, R64, R70, R71, R97) -/

namespace Sys2Proof.Laws

open Sys2Proof.Machine Sys2Proof.Safety

section
variable {s : State} {i : Count}

/-- The state in which the entry to RUN at `i` is taken as an own reversal expiry (R70, R71). -/
def enteringRun (i : Count) (s : State) : State :=
  ((advanceTo i s).withMode { (advanceTo i s).mode with mode := .run }).withRev
    { (advanceTo i s).rev with listening := none, lastHeard := none }

theorem enterRunAt_eq (i : Count) (s : State) : enterRunAt i s = expiry i (enteringRun i s) := rfl

theorem enteringRun_frame (i : Count) (s : State) : othersKept [.time, .mode, .rev] s (enteringRun i s) :=
  othersKept_append (advanceTo_frame i s) (othersKept_append (withMode_frame _ _) (withRev_frame _ _))

theorem enteringRun_mode (i : Count) (s : State) : (enteringRun i s).mode = { s.mode with mode := .run } := by
  rw [enteringRun, State.withRev_mode, State.withMode_mode, advanceTo_mode]

theorem enteringRun_run (i : Count) (s : State) : (enteringRun i s).mode.mode = .run := rfl

theorem enteringRun_rev (i : Count) (s : State) :
    (enteringRun i s).rev = { s.rev with listening := none, lastHeard := none } := by
  rw [enteringRun, State.withRev_rev, advanceTo_rev]

theorem enteringRun_timing (i : Count) (s : State) : (enteringRun i s).time.quality = s.time.quality ∧
    (enteringRun i s).time.crystalReady = s.time.crystalReady :=
  ⟨advanceTo_quality i s, advanceTo_crystalReady i s⟩

/-- The mode, the end of listening and the half-cycle of an entry to RUN. -/
theorem enterRunAt_shows (i : Count) (s : State) : (enterRunAt i s).mode = { s.mode with mode := .run } ∧
    (enterRunAt i s).rev.listening = none ∧
    halfShows s (enterRunAt i s) i ((enterRunAt i s).own.leaving = s.own.leaving) := by
  have frame := enteringRun_frame i s
  have rev := enteringRun_rev i s
  have own : (enteringRun i s).own = s.own := frame .own (by decide)
  have run := enteringRun_run i s
  have mode := (expiry_frame (i := i) run .mode (by decide)).trans (enteringRun_mode i s)
  have rev' := (expiry_within (i := i) run .rev (by decide)).trans (halfSets_rev (enteringRun i s) i)
  rw [rev] at rev'
  rw [enterRunAt_eq]
  exact ⟨mode, by rw [rev'],
    halfShows_congr frame (by rw [rev]) (expiry_shows run fun leaving => leaving.trans (by rw [own]))⟩

/-- An entry to RUN that adopts nothing schedules the next reversal. -/
theorem enterRunAt_schedules (i : Count) {s : State} (alone : adoptedKp s.own.node s.rev.tally = none) :
    nextScheduled s (enterRunAt i s) i := by
  have frame := enteringRun_frame i s
  have rev := enteringRun_rev i s
  obtain ⟨quality, ready⟩ := enteringRun_timing i s
  rw [enterRunAt_eq]
  exact nextScheduled_congr quality ready (by rw [rev]) (by rw [frame .svc (by decide)])
    (expiry_schedules (enteringRun_run i s) (by rw [frame .own (by decide), rev]; exact alone))

theorem takeEnterRun_of (join : s.mode.mode = .join) (next : s.rev.next = some i) : takeEnterRun s = enterRunAt i s := by
  simp only [takeEnterRun, next, if_pos join]

/-! ### The end of listening (R71) -/

theorem endListening_alone (join : s.mode.mode = .join) (listening : s.rev.listening = some i)
    (silent : s.rev.lastHeard = none) : endListening s = enterRunAt i (s.withRev { s.rev with pendingNumber := some 0 }) := by
  have alone : enterAlone i s = enterRunAt i (s.withRev { s.rev with pendingNumber := some 0 }) := rfl
  rw [← alone]
  simp only [endListening, listening, if_pos join, silent]

/-- The whole number of half-cycles after the last PHASE heard. -/
def heardMultiple (s : State) (i : Count) (h : Heard) : Nat :=
  multipleFor (Count.since i h.tr + 1) (paramNat s 0 * 10240)

/-- The state with its entry scheduled from the last PHASE heard. -/
def entryScheduled (s : State) (i : Count) (h : Heard) : State :=
  (advanceTo i s).withRev { s.rev with
    listening := none
    lastHeard := none
    next := some (Count.later h.tr (heardMultiple s i h * (paramNat s 0 * 10240)))
    pendingNumber := some (h.kp + BitVec.ofNat 8 (heardMultiple s i h)) }

theorem endListening_heard {h : Heard} (join : s.mode.mode = .join) (listening : s.rev.listening = some i)
    (heard : s.rev.lastHeard = some h) : endListening s = entryScheduled s i h := by
  have length : halfLength (advanceTo i s) = paramNat s 0 * 10240 := by
    rw [halfLength, paramNat_congr (s := s) (by rw [advanceTo_svc])]
  simp only [endListening, listening, if_pos join, heard]
  rw [scheduleFromHeard, length, advanceTo_rev]
  rfl

theorem alignedNext_empty (tally : s.rev.tally = []) : alignedNext s i = Count.later i (paramNat s 0 * 10240) := by
  have zero : correctionNow s = 0 := by
    rw [correctionNow, tally]
    rfl
  rw [alignedNext, zero, Int.add_zero, BitVec.ofInt_natCast]
  rfl

theorem directionAt_first (latch : s.fan.latch = none) :
    directionAt s .noFrost 0 = if s.own.lead then .outward else .inward := by
  rw [directionAt, latch]
  cases s.own.lead <;> rfl

theorem frostExpired_noFrost {f : FrostGuard} (stage : f.stage = .noFrost) : (frostExpired f).stage = .noFrost := by
  simp [frostExpired, frostTurned, stage]

end

/-- Settles O47: RUN entered as at any expiry, or its entry scheduled from the last PHASE heard. -/
theorem entryToRun : Obligations.EntryToRun := by
  refine ⟨?enters, ?schedules, ?asks, ?alone, ?heard⟩
  case enters =>
    intro s i join next
    refine ⟨finish (takeEnterRun s), rfl, ?_⟩
    have shows := enterRunAt_shows i s
    rw [takeEnterRun_of join next]
    generalize enterRunAt i s = u at *
    exact shows
  case schedules =>
    intro s i join next alone
    refine ⟨finish (takeEnterRun s), rfl, ?_⟩
    have scheduled := enterRunAt_schedules i alone
    rw [takeEnterRun_of join next]
    generalize enterRunAt i s = u at *
    exact scheduled
  case asks =>
    intro s i join next
    refine ⟨finish (takeEnterRun s), rfl, ?_⟩
    have frame := enteringRun_frame i s
    have run := enteringRun_run i s
    have phase := expiry_phase (i := i) run
    have asked := expiry_asked (i := i) run
    rw [frame .fan (by decide), frame .own (by decide)] at asked
    rw [frame .line (by decide), frame .own (by decide)] at phase
    rw [takeEnterRun_of join next, enterRunAt_eq]
    generalize expiry i (enteringRun i s) = u at *
    exact ⟨fun ⟨opens, room, fresh⟩ => phase opens room fresh, asked⟩
  case alone =>
    intro s i join listening silent tally
    refine ⟨finish (endListening s), rfl, ?_⟩
    rw [endListening_alone join listening silent]
    obtain ⟨mode, ended, number, instant, direction, -, gather, -⟩ :=
      enterRunAt_shows i (s.withRev { s.rev with pendingNumber := some 0 })
    obtain ⟨next, -⟩ := enterRunAt_schedules i (s := s.withRev { s.rev with pendingNumber := some 0 })
      (by rw [State.withRev_rev, tally]; rfl)
    have frost := expiry_frost (i := i) (enteringRun_run i (s.withRev { s.rev with pendingNumber := some 0 }))
    rw [enteringRun_frame i _ .frost (by decide), ← enterRunAt_eq] at frost
    rw [alignedNext_empty (s := s.withRev { s.rev with pendingNumber := some 0 }) tally] at next
    generalize enterRunAt i (s.withRev { s.rev with pendingNumber := some 0 }) = u at *
    refine ⟨mode, number, instant, ended, next, gather, fun ⟨latch, stage⟩ => ?_⟩
    have stage' : u.frost.stage = .noFrost := by
      rw [frost]
      exact frostExpired_noFrost stage
    rw [finish_own, direction, stage']
    exact directionAt_first latch
  case heard =>
    intro s i h join listening heard long short behind recent
    refine ⟨finish (endListening s), rfl, ?_⟩
    obtain ⟨one, reaches, below⟩ := multipleFor_reaches (behind := Count.since i h.tr + 1) (L := paramNat s 0 * 10240)
      (by omega) (by omega)
    rw [← heardMultiple] at one reaches below
    have here : Count.later i 0 = i := BitVec.add_zero i
    have since := since_later (t := h.tr) (i := i) (c := 0) (n := heardMultiple s i h * (paramNat s 0 * 10240))
      (by rw [here]; exact behind) (by rw [here]; omega) (by omega)
    rw [here] at since
    have frame : othersKept [.rev, .cond] (advanceTo i s) (finish (entryScheduled s i h)) :=
      finish_within (withRev_frame (advanceTo i s) _)
    have mode : (entryScheduled s i h).mode = s.mode := advanceTo_mode i s
    rw [endListening_heard join listening heard]
    refine ⟨mode, rfl, ⟨heardMultiple s i h, one, by omega, rfl, rfl, ?_, ?_⟩, frame⟩
    · rw [since]
      omega
    · rw [since]
      omega

end Sys2Proof.Laws
end
